-- ==== Sys2Proof/Word.lean ====
section
/-! DEFINITION. The words of the FT-3: the fixed-width numbers the manual counts modulo a power of two,
and names for the plain numbers it measures with (section 6.2 and 6.3 of the introduction). -/

namespace Sys2Proof

/-- One byte of the workstation link. -/
abbrev Byte := BitVec 8

/-- A time stamp: milliseconds since power-on, counted modulo 2^32 (section 6.2). -/
abbrev Stamp := BitVec 32

/-- A capture sequence number, 32-bit, wrapping (R122, R127). -/
abbrev SeqNo := BitVec 32

/-- A volume instance number, 16-bit, wrapping (R10). -/
abbrev InstNo := BitVec 16

/-- A presence mask or a clamp mask: bit n - 1 stands for field n (R191, R199). -/
abbrev Mask := BitVec 16

/-- A length of time, or an instant counted from power-on, in whole microseconds. -/
abbrev Micros := Nat

end Sys2Proof
end

