-- ==== Sys2Proof/Config.lean ====
section
/-! DEFINITION. What the manual does not fix and the model leaves free: constants with no body, so that no
proof can see their value. Each is applied to the count of free values taken so far (`Core.free`), so that
every use is a fresh value. -/

namespace Sys2Proof

/-- Where the cradle stands, in degrees, while or after it is stopped in the middle of a move: the manual says
that the angle reached is shown (R96) and gives no figure. DESIGN CHOICE (notes 5). -/
opaque Config.angleInMotion : Nat → Nat

/-- The thermal cap of a flash whose T reading holds no value and no fault, which R66 hands to admission when
the latch was written before T was calibrated; R32 states no cap for it. DESIGN CHOICE (notes 6). -/
opaque Config.capWithoutT : Nat → Option Nat

end Sys2Proof
end

