-- ==== Sys2Proof/Syntax.lean ====
section
/-! DEFINITION. The commands of the FT-3, one constructor of `Instr` for each row of the operation table,
with the operands a request frame or an event on the block's lines carries. A field of a request is held as
the number or code the frame carries, so that a value outside its range can be written and answered. -/

namespace Sys2Proof

/-- How a request frame is taken: the instant inside the present millisecond, in microseconds (notes 2),
the tag byte, and whether the payload has the length its fields make up (R190). -/
structure Req where
  us : Nat
  tag : Byte
  lengthOk : Bool
deriving DecidableEq, Repr

/-- The four converter channels (section 3.1). -/
inductive Channel where
  | P | G | F | T
deriving DecidableEq, Repr

/-- The verso and the recto camera (section 6.1). -/
inductive Camera where
  | V | R
deriving DecidableEq, Repr

/-- The pedal and the five keys (section 8.1). -/
inductive PanelInput where
  | advance | retake | turned | back | hold | cont
deriving DecidableEq, Repr

/-- A segment as a request carries it: kind and style by their codes (section 1.1, R199). -/
structure SegmentSpec where
  kind : Nat
  style : Nat
  first : Nat
  last : Nat
  foldout : Bool
deriving DecidableEq, Repr

/-- The twelve fields of a material class (section 1.2). -/
structure ClassFields where
  name : List Byte
  eMat : Nat
  cOpen : Nat
  warn : Int
  limit : Int
  maxAngle : Nat
  vacuum : Nat
  puff : Nat
  retryLimit : Nat
  openFloor : Nat
  singleFloor : Nat
  force : Nat
deriving DecidableEq, Repr

/-- The seven fields of a lamp setting (section 4.1.1). -/
structure Setting where
  cVU : Nat
  cVL : Nat
  cRU : Nat
  cRL : Nat
  d : Nat
  eFloor : Nat
  cV : Nat
deriving DecidableEq, Repr

/-- The five fields of the lamp calibration (R73). -/
structure LampCal where
  nVU : Nat
  nVL : Nat
  nRU : Nat
  nRL : Nat
  nView : Nat
deriving DecidableEq, Repr

/-- What STEP_QUEUE asks for: a kind and the parameters of that kind (R136). -/
inductive StepSpec where
  | capture (side mode : Nat)
  | turn
  | cycle (stop retakes : Nat)
  | light (mask : Mask) (fields : Setting)
  | pause (ms : Nat)
  | mark (note : Nat)
  | unknown (code : Nat)
deriving DecidableEq, Repr

/-- A guard as STEP_QUEUE carries it: the code of a condition and the required value (R135, R136). -/
structure GuardSpec where
  cond : Nat
  want : Bool
deriving DecidableEq, Repr

/-- A whole received frame with the check it carried (section 11.6). -/
structure RxFrame where
  kind : Byte
  tag : Byte
  payload : List Byte
  check : BitVec 16
deriving DecidableEq, Repr

/-- The two causes of the FRAGMENT row (R188): a length above 1,024, carried by the bytes themselves, and a
byte received with its stop bit missing. -/
inductive FragmentCause where
  | lengthOver
  | framingError
deriving DecidableEq, Repr

/-- The commands: the requests of the workstation, what happens on the link, on the panel and at the
curtain, and the events of the station's own lines and timers. Each event carries the instant inside the
present millisecond at which it is taken. -/
inductive Instr where
  | powerOn
  | identify (q : Req)
  | linkStatus (q : Req) (clear : Bool)
  | statusGet (q : Req)
  | stationReset (q : Req)
  | linkReset (q : Req)
  | classSet (q : Req) (cls : Nat) (mask : Mask) (fields : ClassFields)
  | volumeAdd (q : Req) (shelf : List Byte) (cls budget : Nat) (mask : Mask) (p : Nat) (segs : List SegmentSpec)
  | volumeMount (q : Req) (slot : Nat) (mask : Mask) (start angle : Nat)
  | volumeUnmount (q : Req) (slot : Nat)
  | volumeClose (q : Req) (slot : Nat) (force : Bool)
  | volumeWithdraw (q : Req) (slot : Nat)
  | volumeRemove (q : Req) (slot : Nat)
  | volumeSet (q : Req) (slot : Nat) (mask : Mask) (budget p cls : Nat) (segs : List SegmentSpec)
  | volumeGet (q : Req) (slot : Nat) (mask : Mask) (start : Nat)
  | cursorSet (q : Req) (opening : Nat)
  | exceptionsTake (q : Req) (slot n : Nat)
  | lightStage (q : Req) (mask : Mask) (fields : Setting)
  | limitsSet (q : Req) (eOp : Nat)
  | lampsCalibrate (q : Req) (mask : Mask) (fields : LampCal)
  | calibrationFlash (q : Req)
  | viewOn (q : Req)
  | viewOff (q : Req)
  | calibrate (q : Req) (channel : Nat) (mask : Mask) (x y : Int)
  | measure (q : Req) (channel : Nat)
  | home (q : Req)
  | angleSet (q : Req) (degrees : Nat)
  | captureDrain (q : Req) (n : Nat)
  | capturePeek (q : Req) (n : Nat)
  | framesSet (q : Req) (ms : Nat)
  | stepQueue (q : Req) (work : StepSpec) (gate : Option GuardSpec)
  | stopSet (q : Req) (id opening : Nat)
  | halt (q : Req)
  | abort (q : Req)
  | resume (q : Req)
  | stepFlush (q : Req)
  | faultClear (q : Req) (kind : Nat)
  | faultClearAll (q : Req)
  | panelSet (q : Req) (ms : Nat)
  | counterSet (q : Req) (n : Nat) (mask : Mask) (enable : Bool) (event : Nat) (threshold : Int) (invert edge : Bool)
  | counterGet (q : Req) (mask : Mask)
  | bandsSet (q : Req) (t1 t2 t3 t4 : Nat)
  | unknownKind (us : Nat) (kind tag : Byte)
  | droppedRequest (us : Nat) (kind tag : Byte)
  | checkError (us : Nat) (frame : RxFrame)
  | fragment (us : Nat) (bytes : List Byte) (cause : FragmentCause)
  | interByteGap (us : Nat) (bytes : List Byte) (next : Byte)
  | lineBreak (us : Nat)
  | frameSent (us : Nat)
  | advance (us : Nat)
  | retakeKey (us : Nat)
  | turnedKey (us : Nat)
  | backKey (us : Nat)
  | holdKey (us : Nat)
  | continueKey (us : Nat)
  | keyRelease (us : Nat) (input : PanelInput)
  | curtainBroken (us : Nat)
  | curtainClear (us : Nat)
  | toneEnd (us : Nat)
  | spotResult (us : Nat) (code : Int)
  | conversionFault (us : Nat)
  | lateResultDiscarded (us : Nat) (code : Int)
  | tempTimer (us : Nat)
  | lampOff (us : Nat) (window : Option Int)
  | recoveryEnd (us : Nat)
  | thermalWaitExpiry (us : Nat)
  | viewPeriodEnd (us : Nat)
  | homingPhaseDone (us : Nat)
  | homingPhaseTimeout (us : Nat)
  | angleReached (us : Nat)
  | angleTimeout (us : Nat)
  | platenSampleTimer (us : Nat)
  | settlingEnd (us : Nat)
  | loweringTimeout (us : Nat)
  | platenUp (us : Nat)
  | raiseTimeout (us : Nat)
  | cupContact (us : Nat)
  | vacuumAtLevel (us : Nat)
  | puffEnd (us : Nat)
  | vacuumTimeout (us : Nat)
  | vacuumBelow (us : Nat)
  | leafRaised (us : Nat)
  | putDownDone (us : Nat)
  | sweepArrived (us : Nat)
  | releaseDone (us : Nat)
  | armAtPark (us : Nat)
  | armLimitExpiry (us : Nat)
  | cameraLineChange (us : Nat) (camera : Camera) (ready fault : Bool)
  | cameraWaitExpiry (us : Nat)
  | frameTimeout (us : Nat)
  | pauseEnd (us : Nat)
  | queueDepthSample (us : Nat)
  | msTick
  | rawCurtainInputChange (us : Nat) (interrupted : Bool)
  | rawInputLevelChange (us : Nat) (input : PanelInput) (pressed : Bool)
  | firstSettling (us : Nat) (input : PanelInput)
  | lineReturnToIdle (us : Nat)
deriving DecidableEq, Repr

end Sys2Proof
end

