-- ==== Sys2Proof/Machine/State.lean ====
section
/-! DEFINITION. The state of the FT-3: what each of its ten blocks holds, the messages it forms, and the
queue of commands that wait. Every structure cites the rule that names what it holds; section numbers are the
manual's. Fields that are the model's own (not the manual's) say so. -/

namespace Sys2Proof.Machine

/-! ### Volumes (chapter 1) -/

/-- The kind of a segment (section 1.1). -/
inductive SegKind where
  | leaves | plates | gap
deriving DecidableEq, Repr

/-- The numbering style of a segment (section 1.1). -/
inductive Style where
  | arabic | romanLower | romanUpper | unnumbered
deriving DecidableEq, Repr

/-- A segment of a foliation (section 1.1). -/
structure Segment where
  kind : SegKind
  style : Style
  first : Nat
  last : Nat
  foldout : Bool
deriving DecidableEq, Repr

/-- The side a capture step asks for (R116). -/
inductive SideAsked where
  | auto | both | verso | recto
deriving DecidableEq, Repr

/-- A resolved side (R116). -/
inductive Side where
  | both | verso | recto
deriving DecidableEq, Repr

/-- A page label (R2). -/
inductive PageLabel where
  | leaf (segment : Nat) (style : Style) (number : Nat) (recto : Bool)
  | frontBoard
  | backBoard
deriving DecidableEq, Repr

/-- The twelve kinds of exception, in the order of section 1.6. -/
inductive ExceptionKind where
  | doublePick | noPick | turnFailed | vacuumLost | manualTurn | cursorMoved | gapNoted
  | ceilingReached | budgetExhausted | captureFailed | doseEstimated | forcedClose
deriving DecidableEq, Repr

/-- An entry of the exception pool (section 1.6, R22). -/
structure ExceptionEntry where
  kind : ExceptionKind
  opening : Nat
  detail : Nat
  seq : Option SeqNo
  stamp : Stamp
deriving DecidableEq, Repr

/-- The states of a record other than MOUNTED, which the table's `mounted` field says (R7). -/
inductive RecordState where
  | registered | complete | withdrawn
deriving DecidableEq, Repr

/-- The six tallies of a record (R21). The openings captured tally is the size of the captured set (R20). -/
structure Tallies where
  captured : Nat
  attempts : Nat
  retakes : Nat
  turns : Nat
  manualTurns : Nat
  doublePicks : Nat
deriving DecidableEq, Repr

/-- The conservation summary (section 10.3). -/
structure Summary where
  below1 : Nat
  below2 : Nat
  below3 : Nat
  below4 : Nat
  above4 : Nat
  causeNone : Nat
  causeThermal : Nat
  causeDose : Nat
  causeMaterial : Nat
  causeOperator : Nat
  highestE : Nat
  highestT : Option Int
  viewMs : Nat
  estimated : Nat
deriving DecidableEq, Repr

/-- A volume record (section 1.3). Its L is computed from its segments; the captured set is kept ascending. -/
structure Volume where
  inst : InstNo
  shelf : List Byte
  cls : Fin 8
  state : RecordState
  budget : Nat
  uF : Nat
  uV : Nat
  p : Nat
  low : Bool
  exhausted : Bool
  segs : List Segment
  cursor : Nat
  captured : List Nat
  tallies : Tallies
  exceptions : List ExceptionEntry
  summary : Summary
deriving DecidableEq, Repr

/-- The volume table and the material class table (R5, R6). At most one record is MOUNTED (R7), so the table
names its slot. The segment and exception pools are counted from the lists drawn from them. -/
structure VolumeTable where
  classes : Vector (Option ClassFields) 8
  slots : Vector (Option Volume) 16
  mounted : Option (Fin 16)
  instCount : InstNo
deriving DecidableEq, Repr

/-! ### Dose accounting (chapter 2) -/

/-- The limiting cause of a flash (R33). -/
inductive Cause where
  | none | thermal | dose | material | operator
deriving DecidableEq, Repr

/-- Where E_used comes from (R38). -/
inductive Source where
  | meter | nominal
deriving DecidableEq, Repr

/-- Why a flash is refused (R34, R74, R75, R83). -/
inductive FlashReason where
  | ceiling | budget | thermal | material | operator | notCalibrated | noVolume | busy
deriving DecidableEq, Repr

/-- The figures of a refusal made by the dose accounting unit (R34). A_open and U are absent for a
calibration flash, which sees no volume. -/
structure RefusalFigures where
  cause : Cause
  eReq : Nat
  eEff : Nat
  floor : Nat
  aOpen : Option Nat
  u : Option Nat
deriving DecidableEq, Repr

/-- A flash refusal as handed to its requester: a reason, with figures when admission gave it. -/
structure FlashRefusal where
  reason : FlashReason
  figures : Option RefusalFigures
deriving DecidableEq, Repr

/-- The admission result (R35, R76). `dark` says that the flash is a dark flash (R30). -/
structure Admission where
  cVU : Nat
  cVL : Nat
  cRU : Nat
  cRL : Nat
  eReq : Nat
  eEff : Nat
  eApp : Nat
  cause : Cause
  dimmed : Bool
  qPlan : Nat
  d : Nat
  t : Option Int
  dark : Bool
deriving DecidableEq, Repr

/-- The dose record of a charged flash (R39). -/
structure DoseRecord where
  eUsed : Nat
  source : Source
  saturated : Bool
  dimmed : Bool
  cause : Cause
  eApp : Nat
  d : Nat
  q : Nat
  aOpenAfter : Nat
  uAfter : Nat
  t : Option Int
deriving DecidableEq, Repr

/-- The accrual record of the view light while a period runs (section 2.4). -/
structure Accrual where
  since : Micros
  eV : Nat
deriving DecidableEq, Repr

/-- What the dose accounting unit holds: A_open while a volume is mounted (R26) and the accrual record. -/
structure Dose where
  aOpen : Option Nat
  accrual : Option Accrual
deriving DecidableEq, Repr

/-! ### Measurement (chapter 3) -/

/-- The two kinds of conversion (R51). -/
inductive ConvKind where
  | spot | window
deriving DecidableEq, Repr

/-- The flags of a result, at most one set (section 3.2). -/
inductive ResultFlag where
  | highSat | lowSat | fault
deriving DecidableEq, Repr

/-- A latched result (section 3.2). -/
structure Result where
  code : Int
  stamp : Stamp
  flag : Option ResultFlag
  value : Option Int
  kind : ConvKind
deriving DecidableEq, Repr

/-- Who waits for a conversion (section 3.1): the periodic timer, an admission, a MEASURE request by its
entry in the pending-reply list, the motion unit's gauge, open reference, homing reference and force
requests, and the window request of a flash. -/
inductive Requester where
  | timer
  | admission
  | measure (entry : Nat)
  | gauge
  | openRef
  | homingRef
  | force
  | window
deriving DecidableEq, Repr

/-- An entry of the pending-request set (section 3.1.1). -/
structure PendingConv where
  kind : ConvKind
  requesters : List Requester
deriving DecidableEq, Repr

/-- The conversion in progress (R51, R58): `limit` is the time after the grant at which it is declared
faulted. -/
structure Conversion where
  channel : Channel
  kind : ConvKind
  requesters : List Requester
  since : Micros
  limit : Micros
deriving DecidableEq, Repr

/-- One thing for each channel. -/
structure PerChannel (α : Type) where
  p : α
  g : α
  f : α
  t : α
deriving DecidableEq, Repr

/-- Two calibration fields of a channel: O and S for P and F, base and span for T; G has O alone
(section 3.3). -/
structure CalPair where
  x : Int
  y : Int
deriving DecidableEq, Repr

/-- What the measurement unit holds (chapter 3). A channel is calibrated when its entry is present. -/
structure Measure where
  conv : Option Conversion
  pending : PerChannel (Option PendingConv)
  latch : PerChannel (Option Result)
  cal : PerChannel (Option CalPair)
  timer : Option Micros
deriving DecidableEq, Repr

/-! ### Illumination (chapter 4) -/

/-- The flash lifecycle (section 4.2). -/
inductive Lifecycle where
  | idle | admitting | meterWait | lit | recovering | thermalHold
deriving DecidableEq, Repr

/-- The requester of a flash (R74). -/
inductive FlashBy where
  | capture (side : Side)
  | calibration (entry : Nat)
deriving DecidableEq, Repr

/-- The flash in hand (R74): its requester, when it was asked for, when it first met a thermal hold, whether
it needs the capture control unit's leave (R84), whether it waits for a T reading (R76), its admission
result, and when its lamps went on. -/
structure Flash where
  by_ : FlashBy
  asked : Micros
  metHold : Option Micros
  needLeave : Bool
  tAsked : Bool
  adm : Option Admission
  litAt : Micros
deriving DecidableEq, Repr

/-- The three pieces of state of the view light, with its force set (R85). -/
structure ViewLight where
  wanted : Bool
  suppressed : Bool
  thermal : Bool
  budget : Bool
  ceiling : Bool
deriving DecidableEq, Repr

/-- The derived state of the view light (R85). -/
inductive ViewState where
  | off | forcedOff | suppressed | lit
deriving DecidableEq, Repr

/-- What the illumination unit holds (chapter 4). `flash` is the flash up to its lamp-off and `closing` the
flash past its lamp-off whose window result has not been handed on (R79). -/
structure Illum where
  staged : Setting
  active : Setting
  eOp : Nat
  lampCal : Option LampCal
  life : Lifecycle
  flash : Option Flash
  closing : Option Flash
  lampOffAt : Option Micros
  hold : Bool
  view : ViewLight
deriving DecidableEq, Repr

/-! ### Cradle motion (chapter 5) -/

/-- The moving states of the platen. -/
inductive PlatenMove where
  | lowering | raising
deriving DecidableEq, Repr

/-- The platen axis (section 5.1); `moving .lowering` is LOWERING and `moving .raising` is RAISING. -/
inductive PlatenState where
  | unreferenced | up | down
  | moving (m : PlatenMove)
  | stopped (m : PlatenMove)
  | fault
deriving DecidableEq, Repr

/-- The angle axis (section 5.1). -/
inductive AngleState where
  | unreferenced | atAngle | moving | stopped | fault
deriving DecidableEq, Repr

/-- The moving states of the arm. -/
inductive ArmMove where
  | lifting | gauging | sweeping | releasing | returning
deriving DecidableEq, Repr

/-- The cause of a stop (section 5.1). -/
inductive StopCause where
  | curtain | vacuumLost
deriving DecidableEq, Repr

/-- The arm axis (section 5.1). -/
inductive ArmState where
  | unreferenced | parked
  | moving (m : ArmMove)
  | stopped (m : ArmMove) (cause : StopCause)
  | fault
deriving DecidableEq, Repr

/-- Why the arm puts down what it holds (R104, R111). -/
inductive PutDown where
  | lostLeaf | doublePick (tg : Nat) | gaugeFault | aborted
deriving DecidableEq, Repr

/-- The stage a turn has reached (sections 5.5): the cup's descent and the lift with vacuum and puff in
LIFTING, the raise and the gauging in GAUGING, the put-down, the sweep, the release, the travel to PARK and
the wait for the open reference. -/
inductive ArmStage where
  | descend | suck | leafUp | gauge | putDown (why : PutDown) | sweep | release | travel | reference
deriving DecidableEq, Repr

/-- The turn in hand (section 5.1). `failed` says that TURN_FAILED assistance has been given for it (R104),
`vacLost` that its arm was stopped by a vacuum loss (R107), `aborting` that ABORT has reached it (R111). -/
structure Turn where
  opening : Nat
  attempt : Nat
  retries : Nat
  many : Bool
  laid : Bool
  failed : Bool
  vacLost : Bool
  aborting : Bool
deriving DecidableEq, Repr

/-- A turn request that waits (R101): for the angle, or for its preliminary raise. -/
inductive TurnWait where
  | angle | raise
deriving DecidableEq, Repr

/-- The phases of a homing (R94); phase 3 has two legs, each with its own limit. -/
inductive HomingPhase where
  | platen | arm | angleSensor | angleTarget | reference
deriving DecidableEq, Repr

/-- The homing in hand, with the entry its reply goes to (R95). -/
structure Homing where
  entry : Nat
  phase : HomingPhase
  since : Micros
deriving DecidableEq, Repr

/-- A running puff of the air knife (R102). -/
structure Puff where
  since : Micros
  ms : Nat
deriving DecidableEq, Repr

/-- What the cradle motion unit holds (section 5.1). `forceRaise` marks a raise made after a force fault
(R113) and `stepRaise` one asked for by the step sequencer (R145). -/
structure Motion where
  platen : PlatenState
  platenSince : Micros
  settle : Option Micros
  sampleAt : Micros
  forceRaise : Bool
  stepRaise : Bool
  platenFailed : Bool
  angle : AngleState
  angleSince : Micros
  anglePos : Option Nat
  angleTarget : Option Nat
  angleFailed : Bool
  arm : ArmState
  stage : ArmStage
  armSince : Micros
  armFailed : Bool
  valveOpen : Bool
  vacuumAt : Bool
  puff : Option Puff
  cRef : Option Int
  turn : Option Turn
  turnWait : Option TurnWait
  lowerHeld : Bool
  homing : Option Homing
deriving DecidableEq, Repr

/-! ### Capture (chapter 6) -/

/-- Why a camera is judged to have failed (R115). -/
inductive CameraCause where
  | notReady | fault | timeout
deriving DecidableEq, Repr

/-- The frame state of a camera (R115). -/
inductive FrameState where
  | notNeeded | waiting | triggered | taken | failed (cause : CameraCause)
deriving DecidableEq, Repr

/-- The lines of a camera and its frame state; `sawLow` says READY was seen low since lamp-on (R123). -/
structure CameraState where
  ready : Bool
  fault : Bool
  trigger : Bool
  frame : FrameState
  sawLow : Bool
deriving DecidableEq, Repr

/-- The phases of an attempt (section 6.2); IDLE is the absence of an attempt. -/
inductive AttemptPhase where
  | ringWait | preparing | admitting | lit | collecting
deriving DecidableEq, Repr

/-- What an attempt in PREPARING waits for (R118 to R120): the lifting of its interlock mark before it asks
for the platen, the platen, the cameras since an instant, or the lifting of the mark before a stopped camera
wait starts again. -/
inductive Prep where
  | heldBack | platen | cameras (since : Micros) | stopped
deriving DecidableEq, Repr

/-- The outcome of a lit attempt (R124, R132). -/
inductive CaptureOutcome where
  | ok | versoFailed | rectoFailed | bothFailed | aborted
deriving DecidableEq, Repr

/-- The capture attempt in hand (section 6.2). -/
structure Attempt where
  ask : SideAsked
  opening : Nat
  side : Side
  phase : AttemptPhase
  prep : Prep
  interlock : Bool
  seq : SeqNo
  litStamp : Stamp
  number : Nat
  qPlan : Nat
  dose : Option DoseRecord
  frameSince : Option Micros
  frameLimit : Nat
  aborting : Bool
deriving DecidableEq, Repr

/-- A CAPTURE record (R125). -/
structure CaptureRecord where
  seq : SeqNo
  stamp : Stamp
  slot : Nat
  inst : InstNo
  opening : Nat
  left : Option PageLabel
  right : Option PageLabel
  gapBefore : Bool
  side : Side
  number : Nat
  outcome : CaptureOutcome
  dose : DoseRecord
deriving DecidableEq, Repr

/-- A MARK record (R126): slot and opening are absent when no volume was mounted. -/
structure MarkRecord where
  seq : SeqNo
  stamp : Stamp
  place : Option (Nat × Nat)
  note : Nat
deriving DecidableEq, Repr

/-- A record of the capture ring (R127). -/
inductive Record where
  | capture (r : CaptureRecord)
  | mark (r : MarkRecord)
deriving DecidableEq, Repr

/-- What the capture control unit holds (chapter 6). `mark` is the note code of a mark that waits in
RING_WAIT (R126). -/
structure Capture where
  attempt : Option Attempt
  mark : Option Nat
  camV : CameraState
  camR : CameraState
  ring : List Record
  nextSeq : SeqNo
  frameTimeout : Nat
  litCount : Nat
deriving DecidableEq, Repr

/-! ### Step sequencer (chapter 7) -/

/-- The ten conditions of the status word (R137, R138). -/
inductive Condition where
  | lastTurnOne | lastTurnDouble | lastCaptureOk | lastCaptureDimmed | stepSkippedLast
  | openingCaptured | atLastOpening | nextFoldout | budgetLow | ceilingNear
deriving DecidableEq, Repr

/-- The five latched conditions (R137). -/
structure Latched where
  turnOne : Bool
  turnDouble : Bool
  captureOk : Bool
  captureDimmed : Bool
  skipped : Bool
deriving DecidableEq, Repr

/-- The status word as read at one moment (section 7.2). -/
structure StatusWord where
  turnOne : Bool
  turnDouble : Bool
  captureOk : Bool
  captureDimmed : Bool
  skipped : Bool
  openingCaptured : Bool
  atLastOpening : Bool
  nextFoldout : Bool
  budgetLow : Bool
  ceilingNear : Bool
deriving DecidableEq, Repr

/-- The origin of a step (R135). -/
inductive Origin where
  | link | panel
deriving DecidableEq, Repr

/-- The work of a step with its parameters (R136). -/
inductive StepWork where
  | capture (side : SideAsked) (retake : Bool)
  | turn
  | cycle (stop retakes : Nat)
  | light (mask : Mask) (fields : Setting)
  | pause (ms : Nat)
  | mark (note : Nat)
deriving DecidableEq, Repr

/-- The six kinds of step (R135). -/
inductive StepKind where
  | capture | turn | cycle | light | pause | mark
deriving DecidableEq, Repr

/-- A guard (R135). -/
structure Guard where
  cond : Condition
  want : Bool
deriving DecidableEq, Repr

/-- A step record (R135); the progress of the head step is held in `Sequencer`. -/
structure Step where
  id : Nat
  origin : Origin
  work : StepWork
  gate : Option Guard
deriving DecidableEq, Repr

/-- The sequencer states (section 7.3). -/
inductive SeqState where
  | idle | running | halting | held
deriving DecidableEq, Repr

/-- The reasons of a hold (R139). -/
inductive HoldReason where
  | stepFailed | halt | assist | fault | interlock | exceptionsFull
deriving DecidableEq, Repr

/-- The assistance a head step may await (R139). -/
inductive Awaited where
  | manualTurn | turnFailed | vacuumLost
deriving DecidableEq, Repr

/-- The four kinds of assistance (section 9.5). -/
inductive AssistKind where
  | manualTurn | turnFailed | vacuumLost | interlock
deriving DecidableEq, Repr

/-- The operation in hand of the head step (R139). -/
inductive Operation where
  | attempt | mark | turn | raise
deriving DecidableEq, Repr

/-- The positions of a CYCLE (R145). -/
inductive Position where
  | A | B | C | D | E
deriving DecidableEq, Repr

/-- The progress of a head CYCLE (R135, R145): its position, its lit-attempt count at the opening, its count
of openings captured, and the slot and instance number it noted. -/
structure CycleProgress where
  pos : Position
  lit : Nat
  count : Nat
  slot : Fin 16
  inst : InstNo
deriving DecidableEq, Repr

/-- The timer of a head PAUSE (R144): what remains of it, and since when it runs, if it runs. -/
structure PauseTimer where
  left : Micros
  since : Option Micros
deriving DecidableEq, Repr

/-- What the step sequencer holds besides the fault set (chapter 7). The fields from `started` to `pause` are
the progress of the head step. -/
structure Sequencer where
  queue : List Step
  nextId : Nat
  state : SeqState
  reason : Option HoldReason
  awaiting : Option Awaited
  interlock : Bool
  started : Bool
  op : Option Operation
  cycle : Option CycleProgress
  pause : Option PauseTimer
  latched : Latched
deriving DecidableEq, Repr

/-! ### Faults (chapter 9) -/

/-- The seven fault kinds in the order of section 9.1. -/
inductive FaultKind where
  | platenTimeout | platenForce | armTimeout | angleTimeout | vacuumLost | cameraTimeout | meterFault
deriving DecidableEq, Repr

/-- The detail of a fault (section 9.2). -/
inductive FaultDetail where
  | lowering
  | raising
  | homing (phase : HomingPhase)
  | force (f : Int)
  | arm (phase : ArmMove)
  | angle (target : Nat)
  | vacuum (n : Nat)
  | cameras (cs : List Camera)
  | channels (cs : List Channel)
deriving DecidableEq, Repr

/-- An entry of the fault set (section 9.1). -/
structure FaultEntry where
  kind : FaultKind
  detail : FaultDetail
  stamp : Stamp
  count : Nat
  acked : Bool
deriving DecidableEq, Repr

/-- The first-fault record (R170). -/
structure FirstFault where
  kind : FaultKind
  detail : FaultDetail
  stamp : Stamp
deriving DecidableEq, Repr

/-! ### Panel (chapter 8) -/

/-- One input of the panel (R156): its raw level, its debounced state (true is PRESSED), the instant from
which its raw level has stood, and whether it has settled once since power-on. -/
structure InputState where
  raw : Bool
  pressed : Bool
  since : Micros
  settled : Bool
deriving DecidableEq, Repr

/-- One thing for each panel input. -/
structure PerInput (α : Type) where
  advance : α
  retake : α
  turned : α
  back : α
  hold : α
  cont : α
deriving DecidableEq, Repr

/-- What the panel interface holds (chapter 8). `clearSince` is the start of the running count of clear time
and `tone` the start of the sounding tone's 150 ms. The indicator outputs are derived (R167). -/
structure Panel where
  inputs : PerInput InputState
  debounce : Nat
  broken : Bool
  rawBroken : Bool
  clearSince : Option Micros
  tone : Option Micros
deriving DecidableEq, Repr

/-! ### Activity counters (chapter 10) -/

/-- The events a counter may count, in the order of R181. -/
inductive CounterEvent where
  | flashes | flashesDimmed | flashesRefused
  | limitThermal | limitDose | limitMaterial | limitOperator
  | flashLux | turns | turnRetries | doublePicks | viewLightMs | thermalHoldMs
  | tempSamples | queueDepth | stepsSkipped | converterWaits
deriving DecidableEq, Repr

/-- A counter (section 10.1). -/
structure Counter where
  value : Nat
  overflow : Bool
  enable : Bool
  event : CounterEvent
  threshold : Int
  invert : Bool
  edge : Bool
  memory : Bool
deriving DecidableEq, Repr

/-- The four band thresholds (R185). -/
structure Bands where
  t1 : Nat
  t2 : Nat
  t3 : Nat
  t4 : Nat
deriving DecidableEq, Repr

/-! ### Messages (chapter 11) -/

/-- Refusal reasons in the order of R191. -/
inductive Reason where
  | state | duplicate | noVolume | notCalibrated | notQuiet | incomplete | stillPresent | interlock
deriving DecidableEq, Repr

/-- The status of a reply with its qualifier (R191). -/
inductive Status where
  | done
  | doneClamped (mask : Mask)
  | queued (id : Nat)
  | busy
  | refused (r : Reason)
  | badField (index : Nat)
  | notFound
  | full
  | unknownKind
deriving DecidableEq, Repr

/-- The outcomes of a homing (R95). -/
inductive HomingOutcome where
  | completed | failed | interlock | aborted
deriving DecidableEq, Repr

/-- What VOLUME_GET returns (R24). -/
structure VolumeBody where
  slot : Nat
  record : Volume
  isMounted : Bool
  leaves : Nat
  runs : List (Nat × Nat)
  moreRuns : Bool
  exceptionCount : Nat
  left : PageLabel
  right : PageLabel
  gapBefore : Bool
  freeSegments : Nat
  freeExceptions : Nat
  aOpen : Option Nat
deriving DecidableEq, Repr

/-- What STATUS_GET returns (R197). -/
structure StatusBody where
  seqState : SeqState
  reason : Option HoldReason
  awaiting : Option Awaited
  suspended : Bool
  assist : List AssistKind
  depth : Nat
  head : Option (Nat × StepKind)
  nextId : Nat
  word : StatusWord
  mounted : Option (Nat × Nat × Nat)
  platen : PlatenState
  angle : AngleState
  arm : ArmState
  failedMarks : Bool × Bool × Bool
  valveOpen : Bool
  vacuumAt : Bool
  anglePos : Option Nat
  angleTarget : Option Nat
  cRef : Option Int
  turn : Option Turn
  turnStage : ArmStage
  turnWait : Option TurnWait
  lowerHeld : Bool
  homing : Option HomingPhase
  life : Lifecycle
  hold : Bool
  viewState : ViewState
  view : ViewLight
  staged : Setting
  active : Setting
  eOp : Nat
  latch : PerChannel (Option Result)
  conv : Option (Channel × ConvKind)
  pendingConv : List Channel
  phase : Option AttemptPhase
  camV : CameraState
  camR : CameraState
  ringCount : Nat
  reserved : Nat
  nextSeq : SeqNo
  faults : List FaultEntry
  first : Option FirstFault
  curtainBroken : Bool
  readyLamp : Bool
  assistLamp : Bool
  lightLamp : Bool
  reportDepth : Nat
deriving DecidableEq, Repr

/-- The outcome of a CALIBRATION_FLASH (R81). -/
inductive CalFlash where
  | lit (adm : Admission) (result : Result) (eUsed : Nat) (source : Source)
  | notLit (r : FlashRefusal)
  | aborted (codes : Option Admission) (litUs : Micros)
deriving DecidableEq, Repr

/-- The body of a reply, by the owner's rule. -/
inductive Body where
  | empty
  | identity
  | linkCounts (fragments checkErrors droppedReports droppedRequests : Nat)
  | status (b : StatusBody)
  | cls (c : ClassFields)
  | added (slot : Nat) (inst : InstNo)
  | volume (b : VolumeBody)
  | exceptions (es : List ExceptionEntry)
  | setting (x : Setting)
  | cap (eOp : Nat)
  | lampCal (c : LampCal)
  | calFlash (c : CalFlash)
  | view (v : ViewState)
  | channelCal (ch : Channel) (c : Option CalPair)
  | measured (ch : Channel) (r : Result)
  | homed (outcome : HomingOutcome) (phase : HomingPhase) (platen : PlatenState) (arm : ArmState) (angle : AngleState) (renewed : Bool)
  | records (rs : List Record)
  | frames (ms : Nat)
  | stepClamps (mask : Mask)
  | flushed (n : Nat)
  | cleared (removed : List FaultKind) (remaining : List (FaultKind × FaultDetail))
  | debounce (ms : Nat)
  | counter (c : Counter)
  | counters (cs : List Counter)
  | bands (b : Bands)
deriving DecidableEq, Repr

/-- A reply (R191). -/
structure Reply where
  status : Status
  body : Body
deriving DecidableEq, Repr

/-- The result of a step (R148). -/
inductive StepResult where
  | done | skipped | failed | cancelled
deriving DecidableEq, Repr

/-- The reasons a STEP_DONE carries (R141 to R148, R151 to R154). -/
inductive StepReason where
  | guard | alreadyCaptured | capture | ceiling | budget | thermal | material | operator | notCalibrated
  | cameraNotReady | platen | noVolume | busy | fault | notReady | noReference | atEnd | turn
  | manualTurn | stopReached | stopPassed | abort | flush
deriving DecidableEq, Repr

/-- Why the platen did not come down for an attempt (R118). -/
inductive PlatenReason where
  | armOut | busy | notReady | force | timeout | sensor
deriving DecidableEq, Repr

/-- The ending of an attempt (section 6.2.6): a lit one with its sequence number, attempt number and Q_plan. -/
inductive AttemptEnding where
  | lit (outcome : CaptureOutcome) (seq : SeqNo) (number qPlan : Nat)
  | notLit (r : FlashRefusal)
  | cameraNotReady (cams : List Camera)
  | platenFailed (r : PlatenReason)
  | noVolume
  | busy
deriving DecidableEq, Repr

/-- What a STEP_DONE adds for its kind (R148); a CAPTURE or MARK that ends without its operation's ending adds the
field absent. -/
inductive StepExtra where
  | none
  | capture (e : Option AttemptEnding)
  | cycle (count stop : Nat)
  | mark (seq : Option SeqNo)
  | light (clamped : Mask)
deriving DecidableEq, Repr

/-- What a PANEL report says was done (R161). -/
inductive PanelAction where
  | queued (id : Nat) (kind : StepKind)
  | cont (cleared : Bool) (answer : Status)
  | turned (old new : Nat) (answered : Bool)
  | back (old new : Nat)
  | halt (after : SeqState)
deriving DecidableEq, Repr

/-- The reports (R194). -/
inductive Report where
  | stepDone (id : Nat) (kind : StepKind) (origin : Origin) (result : StepResult) (reason : Option StepReason)
      (word : StatusWord) (extra : StepExtra)
  | hold (reason : HoldReason) (awaiting : Option Awaited) (head : Option Nat) (suspended : Bool)
  | captureReady (count : Nat) (oldest newest : SeqNo)
  | faultRaised (kind : FaultKind) (detail : FaultDetail) (stamp : Stamp) (count : Nat) (first : Bool) (entries : Nat)
  | faultEnded (kind : FaultKind) (detail : FaultDetail) (stamp : Stamp) (entries : Nat)
  | assist (kind : AssistKind) (stamp : Stamp) (head : Option Nat) (place : Option (Nat × Nat)) (opening : Option Nat)
  | budgetLow (slot : Nat) (inst : InstNo) (budget u w : Nat)
  | budgetExhausted (slot : Nat) (inst : InstNo) (budget u : Nat)
  | thermal (entered : Bool) (value : Option Int) (limits : Option (Int × Int))
  | panelKey (input : PanelInput) (stamp : Stamp) (action : PanelAction)
  | panelCurtain (stamp : Stamp) (broken : Bool)
deriving DecidableEq, Repr

/-! ### The link port (chapter 11) -/

/-- The phases of the receive parser (R188). -/
inductive RxPhase where
  | hunt | length | header | payload | check
deriving DecidableEq, Repr

/-- The receive parser: its phase and the bytes of the partial frame after its sync byte (R188). -/
structure Parser where
  phase : RxPhase
  buf : List Byte
deriving DecidableEq, Repr

/-- An entry of the pending-reply list (R190). `id` is the model's own: it tells an entry from a later one of
the same kind and tag, as R195 needs. -/
structure PendingReply where
  id : Nat
  kind : Byte
  tag : Byte
  reply : Option Reply
deriving DecidableEq, Repr

/-- The frame the transmitter is sending (R193). -/
inductive TxFrame where
  | reply (id : Nat) (kind tag : Byte) (r : Reply)
  | report (r : Report)
deriving DecidableEq, Repr

/-- What the link port holds (chapter 11). `lineBroken` says that a break has caused its link reset and the
line has not yet returned to idle (R195); `nextEntry` is the model's own. -/
structure Link where
  parser : Parser
  pending : List PendingReply
  reports : List Report
  tx : Option TxFrame
  fragments : Nat
  checkErrors : Nat
  droppedReports : Nat
  droppedRequests : Nat
  lineBroken : Bool
  nextEntry : Nat
deriving DecidableEq, Repr

/-! ### What passes between blocks inside one command -/

/-- What a block hands to the link port or to the activity counters while a command runs. -/
inductive Out where
  | report (r : Report)
  | reply (entry : Nat) (r : Reply)
  | count (e : CounterEvent) (sample : Int)
deriving DecidableEq, Repr

/-- Refusals of a turn (R101) and its outcomes (R106). An aborted turn hands nothing (R151). -/
inductive TurnOutcome where
  | laid | turnFailed | vacuumLost | fault | foldout | noVolume | notReady | noReference | atEnd | busy
deriving DecidableEq, Repr

/-- What a unit hands back to the unit that asked it, taken up in order inside the same command. -/
inductive Signal where
  | startHead
  | platenDown
  | platenFailed (r : PlatenReason)
  | flashRefused (r : FlashRefusal)
  | attemptEnded (e : AttemptEnding)
  | markEnded (seq : Option SeqNo)
  | turnEnded (o : TurnOutcome)
  | raiseEnded (ok : Bool)
deriving DecidableEq, Repr

/-- The blocks of the controller other than the link port and the four counters. `now` is the time since
power-on in microseconds, of which the time stamp is the whole milliseconds modulo 2^32. `depthAt` is the
last queue-depth sample (R184). `free` counts the free values taken (the model's own). `out` and `sig` pass
messages inside one command and are empty between commands (the model's own). -/
structure Core where
  now : Micros
  depthAt : Micros
  free : Nat
  vols : VolumeTable
  dose : Dose
  meas : Measure
  illum : Illum
  motion : Motion
  cap : Capture
  seq : Sequencer
  faults : List FaultEntry
  first : Option FirstFault
  panel : Panel
  bands : Bands
  out : List Out
  sig : List Signal
deriving DecidableEq, Repr

/-- The state of the FT-3, and the commands that wait for it, first in first out. -/
structure State where
  core : Core
  link : Link
  counters : Vector Counter 4
  pending : List Instr
deriving DecidableEq, Repr

/-- No command of the FT-3 stops the machine: each row of the table ends in a next state, so this type has no
constructor. -/
inductive Fault where
deriving DecidableEq, Repr

/-- Refusals. Safe: a refused command changes nothing. -/
inductive Refusal where
  /-- Raised by `exec` for a command that has no meaning yet; there is none. -/
  | notModelled (mnemonic : String)
deriving DecidableEq, Repr

/-! ### The power-on state -/

/-- The power-on values of a lamp setting (section 4.1.1). -/
def Setting.powerOn : Setting :=
  { cVU := 0, cVL := 0, cRU := 0, cRL := 0, d := 10000, eFloor := 0, cV := 0 }

/-- A camera at power-on: trigger released, frame state NOT_NEEDED (R133). Its lines are low until they are
seen to move: DESIGN CHOICE (notes 4). -/
def CameraState.powerOn : CameraState :=
  { ready := false, fault := false, trigger := false, frame := .notNeeded, sawLow := false }

/-- A panel input at power-on: RELEASED and not settled (R156). Its raw level is released: DESIGN CHOICE
(notes 4). -/
def InputState.powerOn : InputState :=
  { raw := false, pressed := false, since := 0, settled := false }

/-- A counter at power-on (section 10.1). -/
def Counter.powerOn : Counter :=
  { value := 0, overflow := false, enable := false, event := .flashes, threshold := 0, invert := false,
    edge := false, memory := false }

/-- The link port after a link reset with the transmitter idle (R195). A break that stands is forgotten, so that bytes are
taken with no return to idle before: DESIGN CHOICE (notes 4). -/
def Link.powerOn : Link :=
  { parser := { phase := .hunt, buf := [] }, pending := [], reports := [], tx := none, fragments := 0,
    checkErrors := 0, droppedReports := 0, droppedRequests := 0, lineBroken := false, nextEntry := 0 }

/-- The volume table at power-on (R5, R6). -/
def VolumeTable.powerOn : VolumeTable :=
  { classes := Vector.replicate 8 none, slots := Vector.replicate 16 none, mounted := none, instCount := 0 }

/-- The measurement unit at power-on (R68). -/
def Measure.powerOn : Measure :=
  { conv := none, pending := ⟨none, none, none, none⟩, latch := ⟨none, none, none, none⟩,
    cal := ⟨none, none, none, none⟩, timer := none }

/-- The illumination unit at power-on (R91). -/
def Illum.powerOn : Illum :=
  { staged := Setting.powerOn, active := Setting.powerOn, eOp := 200000, lampCal := none, life := .idle,
    flash := none, closing := none, lampOffAt := none, hold := false,
    view := { wanted := false, suppressed := false, thermal := false, budget := false, ceiling := false } }

/-- The cradle motion unit at power-on (R114). The vacuum report is BELOW: DESIGN CHOICE (notes 4). The
instants and the stage have no meaning until a motion begins. -/
def Motion.powerOn : Motion :=
  { platen := .unreferenced, platenSince := 0, settle := none, sampleAt := 0, forceRaise := false,
    stepRaise := false, platenFailed := false, angle := .unreferenced, angleSince := 0, anglePos := none,
    angleTarget := none, angleFailed := false, arm := .unreferenced, stage := .descend, armSince := 0,
    armFailed := false, valveOpen := false, vacuumAt := false, puff := none, cRef := none, turn := none,
    turnWait := none, lowerHeld := false, homing := none }

/-- The capture control unit at power-on (R133). -/
def Capture.powerOn : Capture :=
  { attempt := none, mark := none, camV := CameraState.powerOn, camR := CameraState.powerOn, ring := [],
    nextSeq := 1, frameTimeout := 8000, litCount := 0 }

/-- The step sequencer at power-on (R155). -/
def Sequencer.powerOn : Sequencer :=
  { queue := [], nextId := 1, state := .idle, reason := none, awaiting := none, interlock := false,
    started := false, op := none, cycle := none, pause := none,
    latched := { turnOne := false, turnDouble := false, captureOk := false, captureDimmed := false, skipped := false } }

/-- The panel interface at power-on (R156 to R158, R166). The raw curtain input is taken as interrupted until it
is seen clear: DESIGN CHOICE (notes 4). -/
def Panel.powerOn : Panel :=
  { inputs := ⟨InputState.powerOn, InputState.powerOn, InputState.powerOn, InputState.powerOn,
      InputState.powerOn, InputState.powerOn⟩,
    debounce := 20, broken := true, rawBroken := true, clearSince := none, tone := none }

/-- The blocks at power-on. -/
def Core.powerOn : Core :=
  { now := 0, depthAt := 0, free := 0, vols := VolumeTable.powerOn, dose := { aOpen := none, accrual := none },
    meas := Measure.powerOn, illum := Illum.powerOn, motion := Motion.powerOn, cap := Capture.powerOn,
    seq := Sequencer.powerOn, faults := [], first := none, panel := Panel.powerOn,
    bands := { t1 := 1000, t2 := 5000, t3 := 10000, t4 := 20000 }, out := [], sig := [] }

/-- The machine right after power-on. -/
def State.reset : State :=
  { core := Core.powerOn, link := Link.powerOn, counters := Vector.replicate 4 Counter.powerOn, pending := [] }

end Sys2Proof.Machine
end

