-- ==== Sys2Proof/Machine/Operands.lean ====
section
/-! DEFINITION. The operand forms of the commands: exact arithmetic with the stated roundings (section 6.1),
clamps, presence and clamp masks (R191, R192), and the codes of the enumerations (section 11.6, R199). -/

namespace Sys2Proof.Machine

/-! ### Arithmetic -/

/-- x limited to the range lo to hi (section 6.1). -/
def clamp (lo hi x : Nat) : Nat := max lo (min hi x)

/-- x limited to the range lo to hi, for signed quantities (section 6.1). -/
def clampInt (lo hi x : Int) : Int := max lo (min hi x)

/-- The quotient rounded up (section 6.1). -/
def ceilDiv (a b : Nat) : Nat := (a + b - 1) / b

/-- Addition that stops at a bound. -/
def satAdd (bound a b : Nat) : Nat := min bound (a + b)

/-- The largest 32-bit count. -/
def max32 : Nat := 4294967295

/-- The largest 40-bit dose field (R25). -/
def max40 : Nat := 1099511627775

/-- One more, stopping at 2^32 - 1. -/
def bump (n : Nat) : Nat := satAdd max32 n 1

/-- Full converter code (section 6.2). -/
def fullCode : Nat := 8388607

/-! ### Masks -/

/-- Bit n - 1 of a mask stands for field n (R191). -/
def hasField (m : Mask) (n : Nat) : Bool := m.getLsbD (n - 1)

/-- A field taken from the request where present and from what is held otherwise (R192). -/
def pick {α : Type} (m : Mask) (n : Nat) (new old : α) : α := if hasField m n then new else old

/-- The mask of the fields whose flag is set (R191). -/
def maskOf (fields : List (Nat × Bool)) : Mask :=
  fields.foldl (fun m f => if f.2 then m ||| (1#16 <<< (f.1 - 1)) else m) 0#16

/-- The lowest marked field number above the request's last field (R192). -/
def strayField (m : Mask) (last : Nat) : Option Nat :=
  (List.range 17).find? fun n => decide (last < n) && hasField m n

/-- The first of the given fields that the mask leaves absent (R192). -/
def firstAbsent (m : Mask) (fields : List Nat) : Option Nat := fields.find? fun n => !hasField m n

/-- DONE, or DONE_CLAMPED with the mask of the clamped fields when there is one (R191). -/
def doneStatus (m : Mask) : Status := if m = 0#16 then .done else .doneClamped m

/-! ### Texts -/

/-- A printable character (section 6.3). -/
def isPrintable (b : Byte) : Bool := decide (0x20 ≤ b.toNat) && decide (b.toNat ≤ 0x7E)

/-- A class name (R5): 1 to 12 printable characters. -/
def nameOk (t : List Byte) : Bool :=
  decide (1 ≤ t.length) && decide (t.length ≤ 12) && t.all isPrintable

/-- A shelf-mark (section 6.3, R9): 1 to 32 printable characters, no leading or trailing space. -/
def shelfOk (t : List Byte) : Bool :=
  decide (1 ≤ t.length) && decide (t.length ≤ 32) && t.all isPrintable
    && (t.head? != some 0x20#8) && (t.getLast? != some 0x20#8)

/-! ### Codes -/

/-- Segment kinds in the order of their codes (R199). -/
def segKindCodes : List SegKind := [.leaves, .plates, .gap]

/-- Styles in the order of section 11.6. -/
def styleCodes : List Style := [.arabic, .romanLower, .romanUpper, .unnumbered]

/-- Sides in the order of section 11.6. -/
def sideCodes : List SideAsked := [.auto, .both, .verso, .recto]

/-- Channels in the order of their codes (R199). -/
def channelCodes : List Channel := [.P, .G, .F, .T]

/-- Capture modes in the order of their codes: true is RETAKE (R199, notes 11). -/
def modeCodes : List Bool := [true, false]

/-- Conditions of the status word in the order of their codes (R199, notes 11). -/
def conditionCodes : List Condition :=
  [.nextFoldout, .lastTurnOne, .lastTurnDouble, .lastCaptureOk, .lastCaptureDimmed, .stepSkippedLast,
    .budgetLow, .openingCaptured, .atLastOpening, .ceilingNear]

/-- Fault kinds in the order of their codes (R199, notes 11); ALL follows them in FAULT_CLEAR. -/
def faultKindCodes : List FaultKind :=
  [.meterFault, .platenTimeout, .armTimeout, .angleTimeout, .platenForce, .vacuumLost, .cameraTimeout]

/-- Counter events in the order of their codes (R199, notes 11). -/
def counterEventCodes : List CounterEvent :=
  [.tempSamples, .thermalHoldMs, .viewLightMs, .flashes, .flashesDimmed, .flashesRefused, .limitThermal,
    .limitDose, .limitMaterial, .limitOperator, .flashLux, .turns, .turnRetries, .doublePicks, .queueDepth,
    .stepsSkipped, .converterWaits]

/-- A typed segment, when its codes are known. -/
def segmentOf (x : SegmentSpec) : Option Segment :=
  match segKindCodes[x.kind]?, styleCodes[x.style]? with
  | some k, some st => some { kind := k, style := st, first := x.first, last := x.last, foldout := x.foldout }
  | _, _ => none

/-- The typed list, when every segment has a kind and a style. -/
def segmentsOf : List SegmentSpec → Option (List Segment)
  | [] => some []
  | x :: xs =>
    match segmentOf x, segmentsOf xs with
    | some g, some gs => some (g :: gs)
    | _, _ => none

end Sys2Proof.Machine
end

