-- ==== Sys2Proof/Machine/Foliation.lean ====
section
/-! DEFINITION. Foliation: leaves, openings, page labels, gaps and foldouts (section 1.1, R1 to R4). -/

namespace Sys2Proof.Machine

/-- The physical leaves a segment holds (section 1.1). -/
def Segment.size (g : Segment) : Nat := if g.kind = .gap then 0 else g.last + 1 - g.first

/-- L: the leaves of a segment list (R1). -/
def leafCount : List Segment → Nat
  | [] => 0
  | g :: gs => g.size + leafCount gs

/-- The conditions R1 lays on one segment. -/
def Segment.ok (g : Segment) : Bool :=
  decide (1 ≤ g.first) && decide (g.first ≤ 9999) && decide (1 ≤ g.last) && decide (g.last ≤ 9999)
    && decide (g.first ≤ g.last) && (!g.foldout || g.kind == .plates) && (g.style != .unnumbered || g.first == 1)

/-- A list is well formed (R1). -/
def segmentsOk (gs : List Segment) : Bool :=
  decide (1 ≤ gs.length) && decide (gs.length ≤ 32) && gs.all Segment.ok
    && decide (1 ≤ leafCount gs) && decide (leafCount gs ≤ 4096)

/-- The well-formed typed list a request carries, if it is one (R1). -/
def acceptedSegments (xs : List SegmentSpec) : Option (List Segment) :=
  match segmentsOf xs with
  | some gs => if segmentsOk gs then some gs else none
  | none => none

/-- Where leaf j lies: the list index of its segment, the segment, and the segment's starting ordinal (R2).
`i` and `start` are the index and the ordinal reached so far. -/
def locateFrom (i start j : Nat) : List Segment → Option (Nat × Segment × Nat)
  | [] => none
  | g :: gs =>
    if g.kind != .gap && decide (start ≤ j) && decide (j < start + g.size) then some (i, g, start)
    else locateFrom (i + 1) (start + g.size) j gs

/-- Where leaf j lies in a list (R2). -/
def locate (gs : List Segment) (j : Nat) : Option (Nat × Segment × Nat) := locateFrom 0 1 j gs

/-- The label of leaf j on one side (R2); a board stands in for leaf 0 and leaf L + 1. -/
def leafLabel (gs : List Segment) (j : Nat) (recto : Bool) : PageLabel :=
  match locate gs j with
  | some (i, g, start) => .leaf i g.style (g.first + (j - start)) recto
  | none => if recto then .backBoard else .frontBoard

/-- The left label of opening k (R2). -/
def leftLabel (gs : List Segment) (k : Nat) : PageLabel := leafLabel gs k false

/-- The right label of opening k (R2). -/
def rightLabel (gs : List Segment) (k : Nat) : PageLabel := leafLabel gs (k + 1) true

/-- The list index of the first GAP segment at a position from `lo` (included) to `hi` (excluded). -/
def firstGap (lo hi i : Nat) : List Segment → Option Nat
  | [] => none
  | g :: gs =>
    if g.kind == .gap && decide (lo ≤ i) && decide (i < hi) then some i else firstGap lo hi (i + 1) gs

/-- The lowest GAP segment strictly between the two leaves of opening k (R3, R20): the front board stands before
the list and the back board after it. -/
def gapAt (gs : List Segment) (k : Nat) : Option Nat :=
  let lo := match locate gs k with
    | some (i, _, _) => i + 1
    | none => 0
  let hi := match locate gs (k + 1) with
    | some (i, _, _) => i
    | none => gs.length
  firstGap lo hi 0 gs

/-- gap_before of opening k (R3). -/
def gapBefore (gs : List Segment) (k : Nat) : Bool := (gapAt gs k).isSome

/-- Leaf j is a foldout leaf (R4). -/
def isFoldout (gs : List Segment) (j : Nat) : Bool :=
  match locate gs j with
  | some (_, g, _) => g.kind == .plates && g.foldout
  | none => false

/-- The L of a record. -/
def Volume.leaves (v : Volume) : Nat := leafCount v.segs

/-- A sorted list with k put in its place; k is not in the list (R20). -/
def insertOpening (k : Nat) : List Nat → List Nat
  | [] => [k]
  | x :: xs => if k < x then k :: x :: xs else x :: insertOpening k xs

/-- The runs of consecutive openings of an ascending list (R24). -/
def runsOf : List Nat → List (Nat × Nat)
  | [] => []
  | x :: xs =>
    match runsOf xs with
    | (a, b) :: rest => if a = x + 1 then (x, b) :: rest else (x, x) :: (a, b) :: rest
    | [] => [(x, x)]

end Sys2Proof.Machine
end

