-- ==== Sys2Proof/Machine/Ops.lean ====
section
/-! DEFINITION. The shared operations on the blocks: time, messages, the mounted volume and its record, the
exception pool (R22), the raising of faults (R168 to R171), holds (R139, R149) and assistance (R178, R179). -/

namespace Sys2Proof.Machine

/-! ### Time -/

/-- The time stamp: milliseconds since power-on modulo 2^32 (section 6.2). -/
def Core.stamp (s : Core) : Stamp := BitVec.ofNat 32 (s.now / 1000)

/-- The instant of a command taken `us` microseconds into the present millisecond: time does not go back, and
the millisecond ends only with MS_TICK (notes 2). -/
def Core.atUs (us : Nat) (s : Core) : Core :=
  { s with now := max s.now (s.now / 1000 * 1000 + min us 999) }

/-- `ms` milliseconds have passed since an instant. -/
def Core.due (s : Core) (since : Micros) (ms : Nat) : Bool := decide (since + ms * 1000 ≤ s.now)

/-- The whole milliseconds, rounded up, since an instant (R44). -/
def Core.elapsedMs (s : Core) (since : Micros) : Nat := ceilDiv (s.now - since) 1000

/-! ### Messages -/

/-- Hands a message to the link port or to the counters. -/
def Core.emit (o : Out) (s : Core) : Core := { s with out := s.out ++ [o] }

/-- Forms a report (R194). -/
def Core.report (r : Report) (s : Core) : Core := s.emit (.report r)

/-- Forms the reply of the request that an entry stands for (R190, R191). -/
def Core.reply (entry : Nat) (status : Status) (body : Body) (s : Core) : Core :=
  s.emit (.reply entry { status := status, body := body })

/-- Hands one event to the activity counters (R181). -/
def Core.tell (e : CounterEvent) (sample : Int) (s : Core) : Core := s.emit (.count e sample)

/-- Hands an answer back to the unit that asked. -/
def Core.signal (g : Signal) (s : Core) : Core := { s with sig := s.sig ++ [g] }

/-! ### The mounted volume -/

/-- The record of a slot number, when the slot exists and holds one. -/
def Core.record (s : Core) (slot : Nat) : Option (Fin 16 × Volume) :=
  if h : slot < 16 then (s.vols.slots[slot]).map (fun v => (⟨slot, h⟩, v)) else none

/-- The mounted volume and its slot (R7). -/
def Core.mounted (s : Core) : Option (Fin 16 × Volume) :=
  match s.vols.mounted with
  | some i => (s.vols.slots[i]).map (fun v => (i, v))
  | none => none

/-- The mounted volume's record. -/
def Core.volume (s : Core) : Option Volume := s.mounted.map (·.2)

/-- The class in force: that of the mounted volume (R11). -/
def Core.cls (s : Core) : Option ClassFields :=
  match s.volume with
  | some v => s.vols.classes[v.cls]
  | none => none

/-- A slot's content replaced. -/
def Core.setSlot (i : Fin 16) (v : Option Volume) (s : Core) : Core :=
  { s with vols := { s.vols with slots := s.vols.slots.set i v } }

/-- A record changed, when the slot holds one. -/
def Core.editSlot (i : Fin 16) (f : Volume → Volume) (s : Core) : Core :=
  match s.vols.slots[i] with
  | some v => s.setSlot i (some (f v))
  | none => s

/-- The mounted record changed. -/
def Core.editMounted (f : Volume → Volume) (s : Core) : Core :=
  match s.vols.mounted with
  | some i => s.editSlot i f
  | none => s

/-- U of a record (section 2.1). -/
def Volume.u (v : Volume) : Nat := v.uF + v.uV

/-- R of a record: max(B - U, 0) (section 2.1). -/
def Volume.r (v : Volume) : Nat := v.budget - v.u

/-- W of a record (R46). -/
def Volume.w (v : Volume) : Nat := v.budget * v.p / 100

/-- H: the room under the ceiling of the class in force (section 2.1). -/
def Core.room (s : Core) : Nat :=
  match s.cls, s.dose.aOpen with
  | some c, some a => c.cOpen - a
  | _, _ => 0

/-- The free entries of the segment pool of 256 (R6). -/
def Core.freeSegments (s : Core) : Nat :=
  256 - (s.vols.slots.toList.map fun v => match v with
    | some v => v.segs.length
    | none => 0).sum

/-- The free entries of the exception pool of 256 (R6, R22). -/
def Core.freeExceptions (s : Core) : Nat :=
  256 - (s.vols.slots.toList.map fun v => match v with
    | some v => v.exceptions.length
    | none => 0).sum

/-- An append to a volume's exception list (R22): one free entry of the pool is taken, and nothing is written
when there is none. A 32-bit detail stops at 2^32 - 1 (R47, R121). -/
def Core.appendException (i : Fin 16) (kind : ExceptionKind) (opening detail : Nat) (seq : Option SeqNo)
    (s : Core) : Core :=
  if s.freeExceptions = 0 then s
  else s.editSlot i fun v =>
    { v with exceptions := v.exceptions ++
        [{ kind := kind, opening := opening, detail := min detail max32, seq := seq, stamp := s.stamp }] }

/-- An append to the mounted volume's list. -/
def Core.appendMounted (kind : ExceptionKind) (opening detail : Nat) (seq : Option SeqNo) (s : Core) : Core :=
  match s.vols.mounted with
  | some i => s.appendException i kind opening detail seq
  | none => s

/-! ### The head step and holds -/

/-- The kind of a step's work. -/
def StepWork.kind : StepWork → StepKind
  | .capture _ _ => .capture
  | .turn => .turn
  | .cycle _ _ => .cycle
  | .light _ _ => .light
  | .pause _ => .pause
  | .mark _ => .mark

/-- The id of the head step. -/
def Core.headId (s : Core) : Option Nat := s.seq.queue.head?.map (·.id)

/-- The head step is suspended while it has an operation in hand (R139), whatever the state. -/
def Core.headBusy (s : Core) : Bool := s.seq.op.isSome || s.seq.pause.isSome

/-- A running PAUSE timer is stopped with its remaining time kept (R144). -/
def Core.stopPause (s : Core) : Core :=
  match s.seq.pause with
  | some { left := left, since := some t } =>
    { s with seq := { s.seq with pause := some { left := left - (s.now - t), since := none } } }
  | _ => s

/-- A stopped PAUSE timer runs on (R144). -/
def Core.runPause (s : Core) : Core :=
  match s.seq.pause with
  | some { left := left, since := none } =>
    { s with seq := { s.seq with pause := some { left := left, since := some s.now } } }
  | _ => s

/-- A HOLD report with the reason as it stands (R139). -/
def Core.reportHold (reason : HoldReason) (s : Core) : Core :=
  s.report (.hold reason s.seq.awaiting s.headId s.headBusy)

/-- HELD with a reason and its HOLD report, whatever the reason before (R139). -/
def Core.setHold (reason : HoldReason) (s : Core) : Core :=
  ({ s with seq := { s.seq with state := .held, reason := some reason } }.stopPause).reportHold reason

/-- A cause of a hold (R139, R149): HELD is entered, or the new cause replaces another reason, each with a HOLD
report; the reason already held stands without one (R171). -/
def Core.enterHold (reason : HoldReason) (s : Core) : Core :=
  if s.seq.state = .held ∧ s.seq.reason = some reason then s else s.setHold reason

/-! ### Faults -/

/-- The place of a fault kind in the order of section 9.1, which STATUS_GET shows; that other lists of kinds follow it
too is the model's choice (notes 50). -/
def FaultKind.rank : FaultKind → Nat
  | .platenTimeout => 0
  | .platenForce => 1
  | .armTimeout => 2
  | .angleTimeout => 3
  | .vacuumLost => 4
  | .cameraTimeout => 5
  | .meterFault => 6

/-- The entry of a kind in the fault set. -/
def findFault (k : FaultKind) (es : List FaultEntry) : Option FaultEntry := es.find? fun e => e.kind == k

/-- The set without the entry of a kind. -/
def dropFault (k : FaultKind) (es : List FaultEntry) : List FaultEntry := es.filter fun e => e.kind != k

/-- The set with an entry put in its place by kind (section 9.1). -/
def placeFault (e : FaultEntry) : List FaultEntry → List FaultEntry
  | [] => [e]
  | x :: xs =>
    if e.kind.rank < x.kind.rank then e :: x :: xs
    else if e.kind = x.kind then e :: xs
    else x :: placeFault e xs

/-- Names of a list joined to a list in which each stands once. R169 calls the names of a detail a set and gives them no
order: they are held, and so sent, in the order in which they were raised, the model's choice (notes 48). -/
def union {α : Type} [DecidableEq α] (xs ys : List α) : List α :=
  xs ++ ys.filter fun y => decide (y ∉ xs)

/-- The detail of an entry after a further raise (R169). -/
def FaultDetail.merge (old new : FaultDetail) : FaultDetail :=
  match old, new with
  | .cameras xs, .cameras ys => .cameras (union xs ys)
  | .channels xs, .channels ys => .channels (union xs ys)
  | _, d => d

/-- The entry that a raise leaves (R168, R169). -/
def raisedEntry (k : FaultKind) (d : FaultDetail) (t : Stamp) : Option FaultEntry → FaultEntry
  | none => { kind := k, detail := d, stamp := t, count := 1, acked := false }
  | some e => { kind := k, detail := e.detail.merge d, stamp := t, count := min 255 (e.count + 1), acked := false }

/-- A fault is raised (R168 to R171): the set and the first-fault record, the FAULT report, then the hold. -/
def Core.raiseFault (k : FaultKind) (d : FaultDetail) (s : Core) : Core :=
  let t := s.stamp
  let e := raisedEntry k d t (findFault k s.faults)
  let first := s.faults.isEmpty
  let faults := placeFault e s.faults
  let s := { s with
    faults := faults
    first := if first then some { kind := k, detail := d, stamp := t } else s.first }
  (s.report (.faultRaised k d t e.count first faults.length)).enterHold .fault

/-! ### Assistance -/

/-- The kinds of assistance pending (R178). -/
def Core.assistPending (s : Core) (k : AssistKind) : Bool :=
  match k with
  | .manualTurn => s.seq.awaiting == some .manualTurn
  | .turnFailed => s.seq.awaiting == some .turnFailed || s.motion.turn.any (·.failed)
  | .vacuumLost => s.seq.awaiting == some .vacuumLost || s.motion.turn.any (·.vacLost)
  | .interlock => s.seq.interlock

/-- The pending kinds in the order of section 9.5. -/
def Core.assistKinds (s : Core) : List AssistKind :=
  [.manualTurn, .turnFailed, .vacuumLost, .interlock].filter s.assistPending

/-- Assistance is pending (R178). -/
def Core.assisting (s : Core) : Bool := !s.assistKinds.isEmpty

/-- The ASSIST report of a kind (R179). -/
def Core.reportAssist (k : AssistKind) (opening : Option Nat) (s : Core) : Core :=
  s.report (.assist k s.stamp s.headId (s.mounted.map fun m => (m.1.val, m.2.cursor)) opening)

/-- The hold of a broken curtain (R149, R178, R179): the HOLD report, then the interlock hold and the ASSIST
report of INTERLOCK when it becomes pending. -/
def Core.holdInterlock (s : Core) : Core :=
  let s := s.enterHold .interlock
  if s.seq.interlock then s
  else { s with seq := { s.seq with interlock := true } }.reportAssist .interlock none

end Sys2Proof.Machine
end

