-- ==== Sys2Proof/Machine/Flags.lean ====
section
/-! DEFINITION. What the blocks derive and do not store: the status word (R137, R138), the station-quiet
condition (R140, R8), the state of the view light (R85), the conditions behind faults (R113, R134, R172) and
the outputs of the station's lines (R69, R167). -/

namespace Sys2Proof.Machine

/-! ### The status word -/

/-- OPENING_CAPTURED (R138). -/
def Core.openingCaptured (s : Core) : Bool :=
  match s.volume with
  | some v => v.captured.contains v.cursor
  | none => false

/-- AT_LAST_OPENING (R138). -/
def Core.atLastOpening (s : Core) : Bool :=
  match s.volume with
  | some v => v.cursor == v.leaves
  | none => false

/-- NEXT_FOLDOUT (R4, R138). -/
def Core.nextFoldout (s : Core) : Bool :=
  match s.volume with
  | some v => decide (v.cursor < v.leaves) && isFoldout v.segs (v.cursor + 1)
  | none => false

/-- BUDGET_LOW (R46, R138). -/
def Core.budgetLow (s : Core) : Bool :=
  match s.volume with
  | some v => v.low
  | none => false

/-- CEILING_NEAR (R138). -/
def Core.ceilingNear (s : Core) : Bool :=
  match s.cls, s.dose.aOpen with
  | some c, some a => decide (c.cOpen ≤ 2 * a)
  | _, _ => false

/-- The ten conditions as they stand (section 7.2). -/
def Core.word (s : Core) : StatusWord :=
  { turnOne := s.seq.latched.turnOne, turnDouble := s.seq.latched.turnDouble,
    captureOk := s.seq.latched.captureOk, captureDimmed := s.seq.latched.captureDimmed,
    skipped := s.seq.latched.skipped, openingCaptured := s.openingCaptured, atLastOpening := s.atLastOpening,
    nextFoldout := s.nextFoldout, budgetLow := s.budgetLow, ceilingNear := s.ceilingNear }

/-- One condition of the word. -/
def StatusWord.get (w : StatusWord) : Condition → Bool
  | .lastTurnOne => w.turnOne
  | .lastTurnDouble => w.turnDouble
  | .lastCaptureOk => w.captureOk
  | .lastCaptureDimmed => w.captureDimmed
  | .stepSkippedLast => w.skipped
  | .openingCaptured => w.openingCaptured
  | .atLastOpening => w.atLastOpening
  | .nextFoldout => w.nextFoldout
  | .budgetLow => w.budgetLow
  | .ceilingNear => w.ceilingNear

/-! ### Station quiet -/

/-- The platen is in a moving state. -/
def PlatenState.inMotion : PlatenState → Bool
  | .moving _ => true
  | _ => false

/-- The arm is in a moving state. -/
def ArmState.inMotion : ArmState → Bool
  | .moving _ => true
  | _ => false

/-- The lifecycle counts as IDLE for the quiet condition (section 4.2). -/
def Lifecycle.atRest : Lifecycle → Bool
  | .idle => true
  | .thermalHold => true
  | _ => false

/-- Work is in progress (R8). -/
def Core.working (s : Core) : Bool :=
  s.seq.state == .running || s.seq.state == .halting || s.motion.arm != .parked || s.motion.platen.inMotion
    || !s.illum.life.atRest

/-- The station is quiet (R140). -/
def Core.quiet (s : Core) : Bool :=
  !s.working && (s.seq.state == .idle || (s.seq.state == .held && !s.headBusy))

/-- The answer of a request that needs the station quiet, when it is not (R8). -/
def Core.unquiet (s : Core) : Option Status :=
  if s.quiet then none else if s.working then some .busy else some (.refused .notQuiet)

/-! ### The view light -/

/-- A force stands (R88). -/
def ViewLight.forced (v : ViewLight) : Bool := v.thermal || v.budget || v.ceiling

/-- The state of the view light (R85). -/
def ViewLight.state (v : ViewLight) : ViewState :=
  if v.wanted then
    if v.forced then .forcedOff else if v.suppressed then .suppressed else .lit
  else .off

/-- The nominal view illuminance ceil(N_view × c_v / 4,095) (R42). -/
def Core.viewNominal (s : Core) : Nat :=
  match s.illum.lampCal with
  | some c => ceilDiv (c.nView * s.illum.staged.cV) 4095
  | none => 0

/-- E_v (R42). -/
def Core.viewLux (s : Core) : Nat :=
  match s.cls with
  | some c => min (min s.viewNominal c.eMat) s.illum.eOp
  | none => min s.viewNominal s.illum.eOp

/-- The code the view light is driven at (R69). -/
def Core.viewDrive (s : Core) : Nat :=
  if s.illum.view.state = .lit then
    if s.viewNominal ≤ s.viewLux then s.illum.staged.cV
    else s.illum.staged.cV * s.viewLux / s.viewNominal
  else 0

/-- The codes the four flash banks are driven at (R69): VU, VL, RU and RL. -/
def Core.bankDrive (s : Core) : Nat × Nat × Nat × Nat :=
  if s.illum.life = .lit then
    match s.illum.flash.bind (·.adm) with
    | some a => (a.cVU, a.cVL, a.cRU, a.cRL)
    | none => (0, 0, 0, 0)
  else (0, 0, 0, 0)

/-! ### Indicators -/

/-- The READY indicator (R167). -/
def Core.readyLamp (s : Core) : Bool := s.mounted.isSome && s.seq.state == .idle

/-- The ASSIST indicator (R167). -/
def Core.assistLamp (s : Core) : Bool := s.assisting

/-- The LIGHT indicator (R69, R167). -/
def Core.lightLamp (s : Core) : Bool := s.illum.life == .lit || s.illum.view.state == .lit

/-! ### Cameras -/

/-- A camera is ready (R115). -/
def CameraState.isReady (c : CameraState) : Bool := c.ready && !c.fault

/-- The state of a camera. -/
def Capture.cam (c : Capture) : Camera → CameraState
  | .V => c.camV
  | .R => c.camR

/-- The cameras a resolved side needs (R116). -/
def Side.needs : Side → Camera → Bool
  | .both, _ => true
  | .verso, .V => true
  | .verso, .R => false
  | .recto, .V => false
  | .recto, .R => true

/-- A frame state that has been judged (R123). -/
def FrameState.judged : FrameState → Bool
  | .taken => true
  | .failed _ => true
  | _ => false

/-- The places of the ring reserved (R117). -/
def Capture.reserved (c : Capture) : Nat :=
  match c.attempt with
  | some a => if a.phase = .ringWait then 0 else 1
  | none => 0

/-- The ring has room for one more record or reservation (R117). -/
def Capture.hasRoom (c : Capture) : Bool := decide (c.ring.length + c.reserved < 64)

/-! ### Latches and fault conditions -/

/-- What a channel holds. -/
def PerChannel.get {α : Type} (x : PerChannel α) : Channel → α
  | .P => x.p
  | .G => x.g
  | .F => x.f
  | .T => x.t

/-- One channel's thing replaced. -/
def PerChannel.set {α : Type} (x : PerChannel α) (c : Channel) (v : α) : PerChannel α :=
  match c with
  | .P => { x with p := v }
  | .G => { x with g := v }
  | .F => { x with f := v }
  | .T => { x with t := v }

/-- A latched result is faulted (R58). -/
def Result.faulted (r : Result) : Bool := r.flag == some .fault

/-- The condition of an entry is present (R113, R134, R172). The timeout of an axis is present while the axis is in FAULT
or marked, as R113 has it; so it ends as a homing phase starts to move that axis, where R176 says when homing has
brought it back: DESIGN CHOICE (notes 47). -/
def Core.faultPresent (s : Core) (e : FaultEntry) : Bool :=
  match e.kind, e.detail with
  | .platenTimeout, _ => s.motion.platen == .fault || s.motion.platenFailed
  | .platenForce, _ =>
    s.motion.forceRaise && (s.motion.platen == .moving .raising || s.motion.platen == .stopped .raising
      || s.motion.platen == .fault)
  | .armTimeout, _ => s.motion.arm == .fault || s.motion.armFailed
  | .angleTimeout, _ => s.motion.angle == .fault || s.motion.angleFailed
  | .vacuumLost, _ => false
  | .cameraTimeout, .cameras cs => cs.any fun c => !(s.cap.cam c).isReady
  | .meterFault, .channels cs => cs.any fun c => (s.meas.latch.get c).any (·.faulted)
  | _, _ => false

/-- The removal of acknowledged entries whose condition has ended (R175): each with its FAULT report ENDED.
Where one event ends several, R175 gives their reports no order: they leave in the order of section 9.1, DESIGN CHOICE
(notes 50). -/
def Core.endFaults (s : Core) : List FaultEntry → Core
  | [] => s
  | e :: es =>
    if e.acked && !s.faultPresent e then
      let left := dropFault e.kind s.faults
      Core.endFaults ({ s with faults := left }.report (.faultEnded e.kind e.detail s.stamp left.length)) es
    else Core.endFaults s es

/-- Acknowledged entries are judged afresh at an event of the raising unit (R172, R175). -/
def Core.judgeFaults (s : Core) : Core := s.endFaults s.faults

end Sys2Proof.Machine
end

