-- ==== Sys2Proof/Machine/Dose.lean ====
section
/-! DEFINITION. The dose accounting unit (chapter 2): admission (R27 to R36), the charge of a flash (R37 to
R41), the accrual of the view light (R42 to R44), the checks of budget and ceiling (R45 to R50), and the change
of the cursor that R18 delivers to it. -/

namespace Sys2Proof.Machine

/-! ### Admission -/

/-- The setting with the codes of the side not captured forced to 0 (R29); a calibration flash names no side. -/
def forcedSide (side : Option Side) (x : Setting) : Setting :=
  match side with
  | some .recto => { x with cVU := 0, cVL := 0 }
  | some .verso => { x with cRU := 0, cRL := 0 }
  | _ => x

/-- The sum of N_b × c_b over the four banks (R30, R35). -/
def lampSum (cal : LampCal) (cVU cVL cRU cRL : Nat) : Nat :=
  cal.nVU * cVU + cal.nVL * cVL + cal.nRU * cRU + cal.nRL * cRL

/-- The nominal illuminance of four codes, with one rounding on the whole sum (R30, R35). -/
def nominalLux (cal : LampCal) (cVU cVL cRU cRL : Nat) : Nat :=
  ceilDiv (lampSum cal cVU cVL cRU cRL) 4095

/-- E_req of a setting (R30). -/
def requested (cal : LampCal) (x : Setting) : Nat := nominalLux cal x.cVU x.cVL x.cRU x.cRL

/-- The caps that take part in one admission (R31, R36). -/
structure Caps where
  th : Option Nat
  dose : Option Nat
  mat : Option Nat
  op : Nat
deriving DecidableEq, Repr

/-- The lesser of a figure and a cap that may be absent. -/
def capped (x : Nat) : Option Nat → Nat
  | some c => min x c
  | none => x

/-- E_eff (R31). -/
def effective (eReq : Nat) (k : Caps) : Nat :=
  min (capped (capped (capped eReq k.th) k.dose) k.mat) k.op

/-- The limiting cause (R33). -/
def limiting (eReq eEff : Nat) (k : Caps) : Cause :=
  if eEff = eReq then .none
  else if k.th = some eEff then .thermal
  else if k.dose = some eEff then .dose
  else if k.mat = some eEff then .material
  else .operator

/-- The thermal cap E_th (R32) of a T reading: its value, and whether the latch holds FAULT. A reading with
neither has the cap `unread` (notes 6). -/
def thermalCap (c : ClassFields) (eReq : Nat) (t : Option Int) (faulted : Bool) (unread : Option Nat) : Option Nat :=
  if faulted then some 0
  else match t with
    | none => unread
    | some t =>
      if t ≤ c.warn then none
      else if t < c.limit then some (((eReq : Int) * (c.limit - t) / (c.limit - c.warn)).toNat)
      else some 0

/-- The refusal reason of a limiting cause (R34); `budget` says that R is at or below H. -/
def floorReason (cause : Cause) (budget : Bool) : FlashReason :=
  match cause with
  | .thermal => .thermal
  | .dose => if budget then .budget else .ceiling
  | .material => .material
  | _ => .operator

/-- An admitted flash that is not dark (R35). -/
def scaled (cal : LampCal) (x : Setting) (eReq eEff : Nat) (cause : Cause) (t : Option Int) : Admission :=
  let f (c : Nat) : Nat := if eEff < eReq then c * eEff / eReq else c
  let eApp := nominalLux cal (f x.cVU) (f x.cVL) (f x.cRU) (f x.cRL)
  { cVU := f x.cVU, cVL := f x.cVL, cRU := f x.cRU, cRL := f x.cRL, eReq := eReq, eEff := eEff, eApp := eApp,
    cause := cause, dimmed := decide (eEff < eReq), qPlan := ceilDiv (eApp * x.d) 1000, d := x.d, t := t,
    dark := false }

/-- A dark flash admitted (R30). -/
def darkAdmission (x : Setting) (t : Option Int) : Admission :=
  { cVU := x.cVU, cVL := x.cVL, cRU := x.cRU, cRL := x.cRL, eReq := 0, eEff := 0, eApp := 0, cause := .none,
    dimmed := false, qPlan := 0, d := x.d, t := t, dark := true }

/-- Stages 2 to 4 for a flash that is not dark, with the caps that take part (R31 to R35). -/
def admitUnder (cal : LampCal) (x : Setting) (eReq : Nat) (k : Caps) (budget : Bool) (aOpen u : Option Nat)
    (t : Option Int) : Except FlashRefusal Admission :=
  let eEff := effective eReq k
  let cause := limiting eReq eEff k
  let floor := min x.eFloor eReq
  if eEff < floor ∨ eEff = 0 then
    .error { reason := floorReason cause budget,
             figures := some { cause := cause, eReq := eReq, eEff := eEff, floor := floor, aOpen := aOpen, u := u } }
  else .ok (scaled cal x eReq eEff cause t)

/-- Admission of a capture flash (R28 to R35), of a setting already forced to its side. -/
def admitCapture (c : ClassFields) (v : Volume) (aOpen : Nat) (x : Setting) (cal : LampCal) (eOp : Nat)
    (t : Option Int) (faulted : Bool) (unread : Option Nat) : Except FlashRefusal Admission :=
  let eReq := requested cal x
  let r := v.r
  let h := c.cOpen - aOpen
  let spent : RefusalFigures :=
    { cause := .dose, eReq := eReq, eEff := 0, floor := min x.eFloor eReq, aOpen := some aOpen, u := some v.u }
  if r = 0 then .error { reason := .budget, figures := some spent }
  else if h = 0 then .error { reason := .ceiling, figures := some spent }
  else if eReq = 0 then .ok (darkAdmission x t)
  else
    admitUnder cal x eReq
      { th := thermalCap c eReq t faulted unread, dose := some (min h r * 1000 / x.d), mat := some c.eMat, op := eOp }
      (decide (r ≤ h)) (some aOpen) (some v.u) t

/-- Admission of a calibration flash (R36); `eMat` is the max illuminance of class 0 when it is defined. -/
def admitCalibration (eMat : Option Nat) (x : Setting) (cal : LampCal) (eOp : Nat) (t : Option Int) :
    Except FlashRefusal Admission :=
  let eReq := requested cal x
  if eReq = 0 then .ok (darkAdmission x t)
  else admitUnder cal x eReq { th := none, dose := none, mat := eMat, op := eOp } false none none t

/-! ### The illuminance a flash is charged on -/

/-- E_meas of a code (R37, R62). -/
def meterLux (code : Int) (cal : CalPair) : Nat :=
  ceilDiv ((clampInt 0 fullCode (code - cal.x)).toNat * cal.y.toNat) fullCode

/-- E_used, its source and METER_SATURATED (R38) from the window result, absent when the flash has none. Stage 5 as it
stands here serves a calibration flash too, as R36 and R79 have it (notes 44). -/
def usedLux (eApp : Nat) (cal : Option CalPair) (r : Option Result) : Nat × Source × Bool :=
  match r, cal with
  | some r, some cal =>
    if r.faulted then (eApp, .nominal, false)
    else if r.code = fullCode then (max cal.y.toNat eApp, .meter, true)
    else (meterLux r.code cal, .meter, false)
  | _, _ => (eApp, .nominal, false)

/-! ### The checks -/

/-- A force put on the view light by the dose accounting unit; `close` closes the running period (R44). -/
def Core.forceView (close : Core → Core) (f : ViewLight → ViewLight) (s : Core) : Core :=
  close { s with illum := { s.illum with view := f s.illum.view } }

/-- The ceiling check (R48). -/
def Core.checkCeiling (close : Core → Core) (s : Core) : Core :=
  match s.cls, s.dose.aOpen with
  | some c, some a =>
    if c.cOpen ≤ a then s.forceView close (fun v => { v with ceiling := true }) else s
  | _, _ => s

/-- The low-water check (R46). -/
def Core.checkLow (i : Fin 16) (s : Core) : Core :=
  match s.vols.slots[i] with
  | some v =>
    if v.r < v.w ∧ v.low = false then
      (s.editSlot i fun v => { v with low := true }).report (.budgetLow i.val v.inst v.budget v.u v.w)
    else s
  | none => s

/-- The exhaustion check (R47). -/
def Core.checkExhausted (close : Core → Core) (i : Fin 16) (seq : Option SeqNo) (s : Core) : Core :=
  match s.vols.slots[i] with
  | some v =>
    if v.r = 0 ∧ v.exhausted = false then
      let s := (s.editSlot i fun v => { v with exhausted := true }).report
        (.budgetExhausted i.val v.inst v.budget v.u)
      let s := s.appendException i .budgetExhausted v.cursor v.u seq
      if s.vols.mounted = some i then s.forceView close (fun v => { v with budget := true }) else s
    else s
  | none => s

/-- The three checks of R45 on the volume of a slot; the ceiling check is made for the mounted volume alone. -/
def Core.checksWith (close : Core → Core) (i : Fin 16) (seq : Option SeqNo) (s : Core) : Core :=
  let s := if s.vols.mounted = some i then s.checkCeiling close else s
  (s.checkLow i).checkExhausted close i seq

/-- The checks while no period runs. -/
def Core.checksStill (seq : Option SeqNo) (s : Core) : Core :=
  match s.vols.mounted with
  | some i => s.checksWith id i seq
  | none => s

/-! ### The view light's account -/

/-- A dose added to A_open and to one of the dose fields (R26, R39, R43). -/
def Core.addDose (q : Nat) (f : Volume → Volume) (s : Core) : Core :=
  { s with dose := { s.dose with aOpen := s.dose.aOpen.map fun a => satAdd max32 a q } }.editMounted f

/-- A view-light charge for a number of milliseconds, with the summary's view time (R43, R44, R187). -/
def Core.chargeView (eV ms : Nat) (s : Core) : Core :=
  s.addDose (eV * ms) fun v =>
    { v with uV := satAdd max40 v.uV (eV * ms)
             summary := { v.summary with viewMs := satAdd max32 v.summary.viewMs ms } }

/-- The running period closed and its partial charge made, with the checks (R44, R45). -/
def Core.closePeriod (s : Core) : Core :=
  match s.dose.accrual with
  | some a =>
    ({ s with dose := { s.dose with accrual := none } }.chargeView a.eV (s.elapsedMs a.since)).checksStill none
  | none => s

/-- The three checks after a charge or a change of the budget (R45, R50). -/
def Core.checks (i : Fin 16) (seq : Option SeqNo) (s : Core) : Core := s.checksWith Core.closePeriod i seq

/-- A period of the given E_v begun when the view light is lit (R43). -/
def Core.beginPeriodAt (eV : Nat) (s : Core) : Core :=
  if s.illum.view.state = .lit then
    { s with dose := { s.dose with accrual := some { since := s.now, eV := eV } } }
  else s

/-- A period begun at the present E_v when the view light is lit (R43, R89). -/
def Core.beginPeriod (s : Core) : Core := s.beginPeriodAt s.viewLux

/-- A change of the view light's flags or forces: a change out of LIT closes the running period and a change into
LIT begins one (R85). -/
def Core.withView (f : ViewLight → ViewLight) (s : Core) : Core :=
  let was := s.illum.view.state
  let s := { s with illum := { s.illum with view := f s.illum.view } }
  if was = .lit then
    if s.illum.view.state = .lit then s else s.closePeriod
  else s.beginPeriod

/-- A lit view light after a change of c_v, N_view or E_op (R70, R89): when E_v has changed, the running period is
closed at the old E_v and one begins at the new. -/
def Core.reviseView (s : Core) : Core :=
  match s.dose.accrual with
  | some a => if a.eV = s.viewLux then s else s.closePeriod.beginPeriod
  | none => s

/-- The end of a full period (R43). The next begins at the instant the old one ended. -/
def Core.fullPeriod (a : Accrual) (s : Core) : Core :=
  let s := ({ s with dose := { s.dose with accrual := none } }.chargeView a.eV 100).checksStill none
  if s.illum.view.state = .lit then
    { s with dose := { s.dose with accrual := some { since := a.since + 100000, eV := a.eV } } }
  else s

/-! ### The cursor -/

/-- The mounted volume's cursor changed, with the three deliveries of R18. The running period is closed while the
cursor still names the old opening, as section 2.6.5 shows (notes 18). -/
def Core.moveCursor (k : Nat) (s : Core) : Core :=
  let eV := s.dose.accrual.map (·.eV)
  let s := s.closePeriod.editMounted fun v => { v with cursor := k }
  let s := { s with dose := { s.dose with aOpen := s.dose.aOpen.map fun _ => 0 } }
  let s := match eV with
    | some e => s.beginPeriodAt e
    | none => s
  let s := s.withView fun v => { v with ceiling := false }
  { s with cap := { s.cap with litCount := 0 } }

/-! ### The charge of a flash -/

/-- The counts that one lit flash hands to the activity counters (R181). -/
def Core.tellFlash (eUsed : Nat) (dimmed : Bool) (cause : Cause) (s : Core) : Core :=
  let s := s.tell .flashes 0
  let s := if dimmed then s.tell .flashesDimmed 0 else s
  let s := match cause with
    | .none => s
    | .thermal => s.tell .limitThermal 0
    | .dose => s.tell .limitDose 0
    | .material => s.tell .limitMaterial 0
    | .operator => s.tell .limitOperator 0
  s.tell .flashLux eUsed

/-- A flash added to the histogram (R185, R186). -/
def Summary.addBand (b : Bands) (eUsed : Nat) (m : Summary) : Summary :=
  if eUsed < b.t1 then { m with below1 := bump m.below1 }
  else if eUsed < b.t2 then { m with below2 := bump m.below2 }
  else if eUsed < b.t3 then { m with below3 := bump m.below3 }
  else if eUsed < b.t4 then { m with below4 := bump m.below4 }
  else { m with above4 := bump m.above4 }

/-- A flash added to the cause counts (R186). -/
def Summary.addCause (c : Cause) (m : Summary) : Summary :=
  match c with
  | .none => { m with causeNone := bump m.causeNone }
  | .thermal => { m with causeThermal := bump m.causeThermal }
  | .dose => { m with causeDose := bump m.causeDose }
  | .material => { m with causeMaterial := bump m.causeMaterial }
  | .operator => { m with causeOperator := bump m.causeOperator }

/-- The greater of a temperature and one that may be absent (R186). -/
def higherT : Option Int → Option Int → Option Int
  | some a, some b => some (max a b)
  | some a, none => some a
  | none, t => t

/-- The summary updated for a charged flash (R186, R187). -/
def Summary.addFlash (b : Bands) (rec : DoseRecord) (estimated : Bool) (m : Summary) : Summary :=
  let m := (m.addBand b rec.eUsed).addCause rec.cause
  { m with highestE := max m.highestE rec.eUsed, highestT := higherT m.highestT rec.t,
           estimated := if estimated then bump m.estimated else m.estimated }

/-- U of the mounted volume, 0 with none. -/
def Core.mountedU (s : Core) : Nat :=
  match s.volume with
  | some v => v.u
  | none => 0

/-- The mounted volume's cursor, 0 with none. -/
def Core.cursor (s : Core) : Nat :=
  match s.volume with
  | some v => v.cursor
  | none => 0

/-- A flash charged Q on the figure given, and its dose record built (R38 to R41): the charge, the checks, the
DOSE_ESTIMATED exception, the record, the summary and the counters. -/
def Core.chargeFlash (adm : Admission) (used : Nat × Source × Bool) (q : Nat) (seq : SeqNo) (s : Core) :
    Core × DoseRecord :=
  let s := s.addDose q fun v => { v with uF := satAdd max40 v.uF q }
  let rec_ : DoseRecord :=
    { eUsed := used.1, source := used.2.1, saturated := used.2.2, dimmed := adm.dimmed, cause := adm.cause,
      eApp := adm.eApp, d := adm.d, q := q, aOpenAfter := s.dose.aOpen.getD 0, uAfter := s.mountedU, t := adm.t }
  let s := match s.vols.mounted with
    | some i => s.checks i (some seq)
    | none => s
  let estimated := used.2.1 == .nominal && !adm.dark
  let s := if estimated then s.appendMounted .doseEstimated s.cursor q (some seq) else s
  let s := s.editMounted fun v => { v with summary := v.summary.addFlash s.bands rec_ estimated }
  (s.tellFlash rec_.eUsed rec_.dimmed rec_.cause, rec_)

/-- A flash past its lamp-off charged on its window result, absent when there is none (R38 to R40). -/
def Core.chargeWindow (adm : Admission) (r : Option Result) (seq : SeqNo) (s : Core) : Core × DoseRecord :=
  if adm.dark then s.chargeFlash adm (0, .nominal, false) 0 seq
  else
    let used := usedLux adm.eApp s.meas.cal.p r
    s.chargeFlash adm used (ceilDiv (used.1 * adm.d) 1000) seq

/-- A flash aborted while lit charged for the microseconds it was lit (R41); a dark flash is charged 0 (R40). -/
def Core.chargeAborted (adm : Admission) (litUs : Micros) (seq : SeqNo) (s : Core) : Core × DoseRecord :=
  if adm.dark then s.chargeFlash adm (0, .nominal, false) 0 seq
  else s.chargeFlash adm (adm.eApp, .nominal, false) (ceilDiv (adm.eApp * min litUs adm.d) 1000) seq

end Sys2Proof.Machine
end

