-- ==== Sys2Proof/Machine/Converter.lean ====
section
/-! DEFINITION. The converter and its pending-request set (section 3.1, R51 to R56), and the lamp-on that the grant
of a window makes at the same instant (R55, R77, R122). -/

namespace Sys2Proof.Machine

/-! ### Lamp-on -/

/-- A camera at lamp-on (R122): triggered when it is needed, and judged as it stands. -/
def CameraState.lampOn (needed : Bool) (c : CameraState) : CameraState :=
  if needed then
    { c with trigger := true, sawLow := false,
             frame := if c.isReady then .triggered else .failed .notReady }
  else c

/-- A camera at lamp-off: its trigger is released (R115). -/
def CameraState.release (c : CameraState) : CameraState := { c with trigger := false }

/-- A camera with no attempt in hand (R115, R124). -/
def CameraState.rest (c : CameraState) : CameraState := { c with trigger := false, frame := .notNeeded, sawLow := false }

/-- The capture control unit at lamp-on (R122): the attempt in ADMITTING takes its sequence number, the count of lit
attempts and the attempts tally go up, and the cameras are triggered and judged. -/
def Core.captureLampOn (qPlan : Nat) (s : Core) : Core :=
  match s.cap.attempt with
  | some a =>
    if a.phase = .admitting then
      let n := s.cap.litCount + 1
      let s := { s with cap := { s.cap with
        nextSeq := s.cap.nextSeq + 1
        litCount := n
        camV := s.cap.camV.lampOn (a.side.needs .V)
        camR := s.cap.camR.lampOn (a.side.needs .R)
        attempt := some { a with phase := .lit, seq := s.cap.nextSeq, litStamp := s.stamp, number := n,
                                 qPlan := qPlan, dose := none, frameSince := none } } }
      s.editMounted fun v => { v with tallies := { v.tallies with attempts := bump v.tallies.attempts } }
    else s
  | none => s

/-- Lamp-on at the grant of the flash's window (R77). -/
def Core.lampOn (s : Core) : Core :=
  match s.illum.flash with
  | some f =>
    if s.illum.life = .meterWait then
      let s := { s with illum := { s.illum with life := .lit, flash := some { f with litAt := s.now } } }
      match f.by_, f.adm with
      | .capture _, some adm => s.captureLampOn adm.qPlan
      | _, _ => s
    else s
  | none => s

/-! ### Grants -/

/-- The limit of a conversion after its grant (R58). -/
def Core.convLimit (s : Core) : ConvKind → Micros
  | .spot => 12000
  | .window => s.illum.active.d + 12000

/-- A conversion begins (R51, R55). -/
def Core.grant (ch : Channel) (e : PendingConv) (s : Core) : Core :=
  let c : Conversion :=
    { channel := ch, kind := e.kind, requesters := e.requesters, since := s.now, limit := s.convLimit e.kind }
  let s := { s with meas := { s.meas with conv := some c } }
  match e.kind with
  | .window => s.lampOn
  | .spot => s

/-- The channel whose pending entry is granted first (R54). -/
def Measure.next (m : Measure) : Option Channel := channelCodes.find? fun c => (m.pending.get c).isSome

/-- The grant of the next pending entry when the converter is free (R54). -/
def Core.grantNext (s : Core) : Core :=
  match s.meas.conv, s.meas.next with
  | none, some ch =>
    match s.meas.pending.get ch with
    | some e => { s with meas := { s.meas with pending := s.meas.pending.set ch none } }.grant ch e
    | none => s
  | _, _ => s

/-! ### Posting and withdrawing -/

/-- A request joined to the entry of its channel, or a new entry (R52, R53). -/
def joinEntry (kind : ConvKind) (who : Requester) : Option PendingConv → PendingConv
  | none => { kind := kind, requesters := [who] }
  | some e => { kind := if kind = .window then .window else e.kind, requesters := e.requesters ++ [who] }

/-- A request posted (R52 to R54). It is a converter wait when a conversion is in progress. -/
def Core.post (ch : Channel) (kind : ConvKind) (who : Requester) (s : Core) : Core :=
  let e := joinEntry kind who (s.meas.pending.get ch)
  let join (s : Core) : Core := { s with meas := { s.meas with pending := s.meas.pending.set ch (some e) } }
  match s.meas.conv with
  | some _ => join (s.tell .converterWaits 0)
  | none => if s.meas.next = none then s.grant ch { kind := kind, requesters := [who] } else join s

/-- An entry after the requesters that `gone` names have withdrawn (R56). -/
def withdrawEntry (gone : Requester → Bool) (e : PendingConv) : Option PendingConv :=
  let rs := e.requesters.filter fun r => !gone r
  if rs = [] then none
  else some { kind := if rs.contains .window then e.kind else .spot, requesters := rs }

/-- A withdrawal (R56): from the pending entry, and from the hands that a conversion in progress would give its
result to. -/
def Core.withdraw (ch : Channel) (gone : Requester → Bool) (s : Core) : Core :=
  let conv := s.meas.conv.map fun c =>
    if c.channel = ch then { c with requesters := c.requesters.filter fun r => !gone r } else c
  { s with meas := { s.meas with
      conv := conv
      pending := s.meas.pending.set ch ((s.meas.pending.get ch).bind (withdrawEntry gone)) } }

/-- The window conversion abandoned (R55): its spot requesters are carried into the pending entry of P, and the next
pending entry is granted. -/
def Core.abandonWindow (s : Core) : Core :=
  match s.meas.conv with
  | some c =>
    if c.kind = .window then
      let spots := c.requesters.filter fun r => r != .window
      let s := { s with meas := { s.meas with conv := none } }
      let s := if spots = [] then s else
        let e : PendingConv := match s.meas.pending.p with
          | some e => { e with requesters := e.requesters ++ spots }
          | none => { kind := .spot, requesters := spots }
        { s with meas := { s.meas with pending := { s.meas.pending with p := some e } } }
      s.grantNext
    else s
  | none => s

end Sys2Proof.Machine
end

