-- ==== Sys2Proof/Machine/CaptureEnd.lean ====
section
/-! DEFINITION. How a capture attempt ends: the judgement of the cameras (R123), the writing of records into the ring
(R124 to R127, R130) and the endings (section 6.2.6). -/

namespace Sys2Proof.Machine

/-! ### The ring -/

/-- The sequence number of a record. -/
def Record.seq : Record → SeqNo
  | .capture r => r.seq
  | .mark r => r.seq

/-- A record written at the newest end of the ring, with the CAPTURE_READY report when the count reaches 1 or 48
(R127, R130). -/
def Core.writeRecord (r : Record) (s : Core) : Core :=
  let ring := s.cap.ring ++ [r]
  let s := { s with cap := { s.cap with ring := ring } }
  match ring.head? with
  | some old =>
    if ring.length = 1 ∨ ring.length = 48 then s.report (.captureReady ring.length old.seq r.seq) else s
  | none => s

/-- The CAPTURE record of an attempt (R125). -/
def captureRecord (i : Fin 16) (v : Volume) (a : Attempt) (outcome : CaptureOutcome) (dose : DoseRecord) :
    CaptureRecord :=
  { seq := a.seq, stamp := a.litStamp, slot := i.val, inst := v.inst, opening := a.opening,
    left := if a.side.needs .V then some (leftLabel v.segs a.opening) else none,
    right := if a.side.needs .R then some (rightLabel v.segs a.opening) else none,
    gapBefore := gapBefore v.segs a.opening, side := a.side, number := a.number, outcome := outcome, dose := dose }

/-- The code of an outcome, as the detail of CAPTURE_FAILED carries it (R199, notes 11). -/
def CaptureOutcome.code : CaptureOutcome → Nat
  | .ok => 0
  | .versoFailed => 1
  | .rectoFailed => 2
  | .bothFailed => 3
  | .aborted => 4

/-- The outcome of a lit attempt told to the volume table (R20, R124). -/
def Core.tellOutcome (opening : Nat) (seq : SeqNo) (outcome : CaptureOutcome) (s : Core) : Core :=
  if outcome = .ok then
    match s.volume with
    | some v =>
      if v.captured.contains opening then
        s.editMounted fun v => { v with tallies := { v.tallies with retakes := bump v.tallies.retakes } }
      else
        let s := s.editMounted fun v =>
          { v with captured := insertOpening opening v.captured
                   tallies := { v.tallies with captured := bump v.tallies.captured } }
        match gapAt v.segs opening with
        | some g => s.appendMounted .gapNoted opening g (some seq)
        | none => s
    | none => s
  else s.appendMounted .captureFailed opening outcome.code (some seq)

/-! ### Endings -/

/-- The view light restored at the end of an attempt (R87). -/
def Core.restoreView (s : Core) : Core := s.withView fun v => { v with suppressed := false }

/-- No attempt in hand (R115, R124): every frame state is NOT_NEEDED and both triggers are released. -/
def Capture.toIdle (c : Capture) : Capture := { c with attempt := none, camV := c.camV.rest, camR := c.camR.rest }

/-- The record of a lit attempt written and the volume table told (R124, steps 1 and 2). -/
def Core.recordAttempt (a : Attempt) (outcome : CaptureOutcome) (dose : DoseRecord) (s : Core) : Core :=
  let s := match s.mounted with
    | some (i, v) => s.writeRecord (.capture (captureRecord i v a outcome dose))
    | none => s
  s.tellOutcome a.opening a.seq outcome

/-- The two capture conditions written (R124, step 3). -/
def Core.latchCapture (ok dimmed : Bool) (s : Core) : Core :=
  { s with seq := { s.seq with latched := { s.seq.latched with captureOk := ok, captureDimmed := dimmed } } }

/-- The end of a lit attempt (R124). The ending of an aborted attempt reaches no step (R151). -/
def Core.finishAttempt (a : Attempt) (outcome : CaptureOutcome) (dose : DoseRecord) (s : Core) : Core :=
  let s := ((s.recordAttempt a outcome dose).latchCapture (outcome == .ok) dose.dimmed).restoreView
  let s := { s with cap := s.cap.toIdle }
  if a.aborting then s else s.signal (.attemptEnded (.lit outcome a.seq a.number a.qPlan))

/-- The outcome that follows from the needed cameras (R124). -/
def Capture.outcome (c : Capture) (side : Side) : CaptureOutcome :=
  let bad (k : Camera) : Bool := side.needs k && (c.cam k).frame != .taken
  match bad .V, bad .R with
  | false, false => .ok
  | true, false => .versoFailed
  | false, true => .rectoFailed
  | true, true => .bothFailed

/-- A camera that the attempt needs has been judged, or is not needed. -/
def Capture.settled (c : Capture) (side : Side) (k : Camera) : Bool := !side.needs k || (c.cam k).frame.judged

/-- The attempt ends once its dose record has arrived and every needed camera is judged (R123); an aborted one
waits for the dose record alone (R132). -/
def Core.tryFinish (s : Core) : Core :=
  match s.cap.attempt with
  | some a =>
    match a.phase, a.dose with
    | .collecting, some dose =>
      if a.aborting then s.finishAttempt a .aborted dose
      else if s.cap.settled a.side .V && s.cap.settled a.side .R then
        s.finishAttempt a (s.cap.outcome a.side) dose
      else s
    | _, _ => s
  | none => s

/-- The dose record of the flash arrives (R123). -/
def Core.captureDose (rec_ : DoseRecord) (s : Core) : Core :=
  match s.cap.attempt with
  | some a => { s with cap := { s.cap with attempt := some { a with dose := some rec_ } } }.tryFinish
  | none => s

/-- Lamp-off at the capture control unit (R115, R122, R123): the triggers are released, and the frame timeout of the lit
attempt begins when a camera is still TRIGGERED. -/
def Core.captureLampOff (s : Core) : Core :=
  match s.cap.attempt with
  | some a =>
    if a.phase = .lit then
      let waits := s.cap.camV.frame == .triggered || s.cap.camR.frame == .triggered
      { s with cap := { s.cap with
          camV := s.cap.camV.release
          camR := s.cap.camR.release
          attempt := some { a with
            phase := .collecting
            frameSince := if waits && !a.aborting then some s.now else none
            frameLimit := s.cap.frameTimeout } } }
    else s
  | none => s

/-- An attempt ended before its lamp-on (R118, R119, R121): the reservation is released, the view light restored and
no record written. -/
def Core.endUnlit (s : Core) : Core := { s.restoreView with cap := s.restoreView.cap.toIdle }

/-- Such an end, handed to the step sequencer. -/
def Core.endUnlitWith (e : AttemptEnding) (s : Core) : Core := s.endUnlit.signal (.attemptEnded e)

end Sys2Proof.Machine
end

