-- ==== Sys2Proof/Machine/Illumination.lean ====
section
/-! DEFINITION. The flash (section 4.2, R74 to R81), the thermal hold (R82, R83), the curtain's part in it (R84) and
its abort (R90). -/

namespace Sys2Proof.Machine

/-! ### The flash in hand -/

/-- A flash as it is first taken (R74). -/
def newFlash (who : FlashBy) (asked : Micros) : Flash :=
  { by_ := who, asked := asked, metHold := none, needLeave := false, tAsked := false, adm := none, litAt := 0 }

/-- The flash is a capture flash. -/
def Flash.isCapture (f : Flash) : Bool :=
  match f.by_ with
  | .capture _ => true
  | .calibration _ => false

/-- The flash in hand and the lifecycle replaced. -/
def Core.setFlash (life : Lifecycle) (f : Option Flash) (s : Core) : Core :=
  { s with illum := { s.illum with life := life, flash := f } }

/-- The lifecycle with no flash in hand and no recovery running (R75, R80, R90). -/
def Core.restLife (s : Core) : Lifecycle := if s.illum.hold then .thermalHold else .idle

/-- The flash in hand discarded without light (R74, R75, R90). -/
def Core.dropFlash (s : Core) : Core := s.setFlash s.restLife none

/-- The flash in hand refused (R75, R76, R83): one refused flash counted, and the refusal handed to its requester. -/
def Core.refuseFlash (f : Flash) (r : FlashRefusal) (s : Core) : Core :=
  let s := (s.tell .flashesRefused 0).dropFlash
  match f.by_ with
  | .capture _ => s.signal (.flashRefused r)
  | .calibration e => s.reply e .done (.calFlash (.notLit r))

/-- A flash that meets the thermal hold before its admission (R83): a capture flash waits, a calibration flash is
refused. -/
def Core.meetHold (f : Flash) (s : Core) : Core :=
  if f.isCapture then
    s.setFlash .thermalHold (some { f with metHold := some (f.metHold.getD s.now), tAsked := false })
  else s.refuseFlash f { reason := .thermal, figures := none }

/-! ### The thermal hold -/

/-- The limits of the mounted class that a THERMAL report carries (R82). -/
def Core.thermalLimits (s : Core) : Option (Int × Int) := s.cls.map fun c => (c.warn, c.limit)

/-- The hold comes into force (R82, R83, R88). -/
def Core.enterThermal (value : Option Int) (s : Core) : Core :=
  let s := { s with illum := { s.illum with hold := true } }.report (.thermal true value s.thermalLimits)
  let s := s.withView fun v => { v with thermal := true }
  match s.illum.life, s.illum.flash with
  | .idle, _ => { s with illum := { s.illum with life := .thermalHold } }
  | .admitting, some f => s.meetHold f
  | _, _ => s

/-- What a T result makes of the hold (R82): in force, ended, or as it stands. -/
def Core.holdVerdict (faulted : Bool) (value : Option Int) (s : Core) : Option Bool :=
  if faulted then some true
  else match value, s.cls with
    | some t, some c => if c.limit ≤ t then some true else if t ≤ c.warn then some false else none
    | some _, none => some false
    | none, _ => none

/-! ### Admission and its waits -/

/-- The first three waits of R76 are met: the curtain, with leave, no hold, and the recovery. -/
def Core.waitsMet (f : Flash) (s : Core) : Bool :=
  !s.panel.broken && !(f.isCapture && f.needLeave) && !s.illum.hold
    && (match s.illum.lampOffAt with
        | some t => s.due t 150
        | none => true)

/-- The answer of the dose accounting unit to the flash in hand (R27, R36), on the reading given. -/
def Core.admission (f : Flash) (cal : LampCal) (t : Option Int) (faulted : Bool) (s : Core) :
    Except FlashRefusal Admission :=
  match f.by_ with
  | .capture side =>
    match s.cls, s.volume with
    | some c, some v =>
      admitCapture c v (s.dose.aOpen.getD 0) (forcedSide (some side) s.illum.active) cal s.illum.eOp t faulted
        (Config.capWithoutT s.free)
    | _, _ => .error { reason := .noVolume, figures := none }
  | .calibration _ =>
    admitCalibration ((s.vols.classes[0]).map (·.eMat)) s.illum.active cal s.illum.eOp t

/-- The staged setting copied, the admission asked for, and its answer taken (R71, R76, R77). A free value is counted
when the reading has neither a value nor a fault (notes 6). -/
def Core.admitFlash (f : Flash) (r : Result) (s : Core) : Core :=
  match s.illum.lampCal with
  | some cal =>
    let s := { s with illum := { s.illum with active := s.illum.staged } }
    let answer := s.admission f cal r.value r.faulted
    let s := if r.value = none ∧ r.faulted = false then { s with free := s.free + 1 } else s
    match answer with
    | .ok a => (s.setFlash .meterWait (some { f with adm := some a, tAsked := false })).post .P .window .window
    | .error e => s.refuseFlash f e
  | none => s.refuseFlash f { reason := .notCalibrated, figures := none }

/-- The reading in hand, already tested for the hold (R76): used when the waits still hold, and otherwise the flash
waits again. -/
def Core.useReading (r : Result) (s : Core) : Core :=
  match s.illum.life, s.illum.flash with
  | .admitting, some f =>
    if s.waitsMet f then s.admitFlash f r else s.setFlash .admitting (some { f with tAsked := false })
  | _, _ => s

/-- The T latch is fresh: 1,000 ms old or less, modulo 2^32 (R66). -/
def Core.fresh (r : Result) (s : Core) : Bool := decide ((s.stamp - r.stamp).toNat ≤ 1000)

/-- The hold in force or ended for a reading, without the waiting flash that its end may release. -/
def Core.testHold (faulted : Bool) (value : Option Int) (s : Core) : Core :=
  if s.holdVerdict faulted value = some true ∧ s.illum.hold = false then
    s.enterThermal (if faulted then none else value)
  else s

/-- A flash in ADMITTING goes on once its waits are met (R66, R76): the T latch serves when it is fresh, and a T
request is posted otherwise. -/
def Core.advance (s : Core) : Core :=
  match s.illum.life, s.illum.flash with
  | .admitting, some f =>
    if !f.tAsked && s.waitsMet f then
      match s.meas.latch.t with
      | some r =>
        if s.fresh r then (s.testHold r.faulted r.value).useReading r
        else (s.setFlash .admitting (some { f with tAsked := true })).post .T .spot .admission
      | none => (s.setFlash .admitting (some { f with tAsked := true })).post .T .spot .admission
    else s
  | _, _ => s

/-- ADMITTING entered, with the tests of R75. A flash that enters it with the hold already in force, asked for in
RECOVERING or back from METER_WAIT by a break, is taken as R83 takes one that meets the hold: a capture goes to
THERMAL_HOLD at once, its 60 s counted from then, and a calibration is refused at once. R74 and R84 say ADMITTING alone:
DESIGN CHOICE (notes 37). -/
def Core.enterAdmitting (f : Flash) (s : Core) : Core :=
  let f := { f with adm := none, tAsked := false }
  if f.isCapture ∧ s.mounted = none then s.refuseFlash f { reason := .noVolume, figures := none }
  else if s.illum.lampCal = none ∨ s.meas.cal.t = none then
    s.refuseFlash f { reason := .notCalibrated, figures := none }
  else if s.illum.hold then s.meetHold f
  else (s.setFlash .admitting (some f)).advance

/-- The hold ends (R82, R83, R88). -/
def Core.leaveThermal (value : Option Int) (s : Core) : Core :=
  let s := { s with illum := { s.illum with hold := false } }.report (.thermal false value s.thermalLimits)
  let s := s.withView fun v => { v with thermal := false }
  match s.illum.life, s.illum.flash with
  | .thermalHold, some f => s.enterAdmitting f
  | .thermalHold, none => { s with illum := { s.illum with life := .idle } }
  | _, _ => s

/-- The test of R82 on a T result. -/
def Core.thermalTest (faulted : Bool) (value : Option Int) (s : Core) : Core :=
  if s.holdVerdict faulted value = some false ∧ s.illum.hold then s.leaveThermal value
  else s.testHold faulted value

/-- The test of R82 at a VOLUME_MOUNT, on the T latch as it stands. -/
def Core.thermalAtMount (s : Core) : Core :=
  match s.meas.latch.t with
  | some r => s.thermalTest r.faulted r.value
  | none => s

/-! ### Requests for a flash -/

/-- A capture flash asked for (R74, R121). -/
def Core.askFlash (side : Side) (s : Core) : Core :=
  let f := newFlash (.capture side) s.now
  if s.illum.flash.isSome then s.signal (.flashRefused { reason := .busy, figures := none })
  else if s.illum.life = .thermalHold then s.meetHold f
  else s.enterAdmitting f

/-- Leave to continue given to the flash of the attempt (R84, R120). -/
def Core.giveLeave (s : Core) : Core :=
  match s.illum.flash with
  | some f => { s with illum := { s.illum with flash := some { f with needLeave := false } } }.advance
  | none => s

/-! ### Lamp-off and the window result -/

/-- The window result handed on (R79): the flash past its lamp-off is charged, or its calibration reply formed, and
discarded. The E_used of a calibration flash is formed as stage 5 forms it (`usedLux`), with a C_P at full code too,
where R81 by its words takes E_meas: DESIGN CHOICE (notes 44). -/
def Core.handWindow (r : Option Result) (s : Core) : Core :=
  match s.illum.closing with
  | some f =>
    let s := { s with illum := { s.illum with closing := none } }
    match f.by_, f.adm with
    | .capture _, some adm =>
      let seq := match s.cap.attempt with
        | some a => a.seq
        | none => 0
      let (s, rec_) := s.chargeWindow adm r seq
      s.captureDose rec_
    | .calibration e, some adm =>
      let used := usedLux adm.eApp s.meas.cal.p r
      let res : Result := r.getD { code := 0, stamp := s.stamp, flag := some .fault, value := none, kind := .window }
      (s.tellFlash used.1 adm.dimmed adm.cause).reply e .done (.calFlash (.lit adm res used.1 used.2.1))
    | _, none => s
  | none => s

/-- Lamp-off at the end of D (R78). -/
def Core.lampsOff (f : Flash) (s : Core) : Core :=
  let s := { s with illum := { s.illum with
    life := .recovering, flash := none, closing := some f, lampOffAt := some (f.litAt + (f.adm.map (·.d)).getD 0) } }
  if f.isCapture then s.captureLampOff else s

/-! ### Curtain and abort -/

/-- A curtain break at the illumination unit (R84). -/
def Core.illumBreak (s : Core) : Core :=
  match s.illum.flash with
  | some f =>
    let f := { f with needLeave := f.isCapture || f.needLeave }
    match s.illum.life with
    | .admitting => s.setFlash .admitting (some f)
    | .thermalHold => s.setFlash .thermalHold (some f)
    | .meterWait => (s.withdraw .P (· == .window)).enterAdmitting f
    | _ => s
  | none => s

/-- A flash aborted while lit (R90): the lamps go off at once, the window is abandoned, and the flash is charged for
the time it was lit. -/
def Core.abortLit (f : Flash) (s : Core) : Core :=
  let t := s.now - f.litAt
  let s := { s with illum := { s.illum with life := .recovering, flash := none, lampOffAt := some s.now } }
  match f.by_, f.adm with
  | .capture _, some adm =>
    let seq := match s.cap.attempt with
      | some a => a.seq
      | none => 0
    let s := s.captureLampOff.abandonWindow
    let (s, rec_) := s.chargeAborted adm t seq
    s.captureDose rec_
  | .calibration e, some adm =>
    let s := s.abandonWindow
    (s.tellFlash adm.eApp adm.dimmed adm.cause).reply e .done (.calFlash (.aborted (some adm) (min t adm.d)))
  | _, none => s

/-- ABORT at the illumination unit (R90). The reply of a calibration flash aborted before its admission carries no codes,
that of one aborted after it the codes of the admission, and either the time 0: DESIGN CHOICE (notes 38). -/
def Core.illumAbort (s : Core) : Core :=
  match s.illum.flash with
  | some f =>
    let drop (s : Core) : Core :=
      match f.by_ with
      | .capture _ => s.dropFlash
      | .calibration e => s.dropFlash.reply e .done (.calFlash (.aborted f.adm 0))
    match s.illum.life with
    | .admitting => drop (s.withdraw .T (· == .admission))
    | .thermalHold => drop (s.withdraw .T (· == .admission))
    | .meterWait => drop (s.withdraw .P (· == .window))
    | .lit => s.abortLit f
    | _ => s
  | none => s

end Sys2Proof.Machine
end

