-- ==== Sys2Proof/Machine/Motion.lean ====
section
/-! DEFINITION. The cradle motion unit (chapter 5): the platen (R97 to R100), the angle (R96), the turn of a leaf
(R101 to R108), homing (R94, R95), the curtain (R109, R110) and ABORT (R111, R112). -/

namespace Sys2Proof.Machine

/-! ### Axes -/

/-- The platen's state changed; acknowledged faults are judged afresh (R172). -/
def Core.setPlaten (p : PlatenState) (s : Core) : Core :=
  { s with motion := { s.motion with platen := p, platenSince := s.now } }.judgeFaults

/-- The arm's state and the stage of its motion changed; acknowledged faults are judged afresh (R172). -/
def Core.setArm (a : ArmState) (stage : ArmStage) (s : Core) : Core :=
  { s with motion := { s.motion with arm := a, stage := stage, armSince := s.now } }.judgeFaults

/-- The angle's state changed; acknowledged faults are judged afresh (R172). -/
def Core.setAngle (a : AngleState) (s : Core) : Core :=
  { s with motion := { s.motion with angle := a, angleSince := s.now } }.judgeFaults

/-- The angle stands where it was stopped: a free value, when the angle was known (R96, notes 5). -/
def Core.angleStopped (s : Core) : Core :=
  match s.motion.anglePos with
  | some _ =>
    { s with free := s.free + 1, motion := { s.motion with anglePos := some (Config.angleInMotion s.free) } }
  | none => s

/-- The requester that stands for the motion unit's force samples. -/
def Core.dropForce (s : Core) : Core := s.withdraw .F (· == .force)

/-- The gauge and open-reference requests of the arm withdrawn (R109). -/
def Core.dropGauge (s : Core) : Core := s.withdraw .G fun r => r == .gauge || r == .openRef

/-- A motion of the platen begins, or is stopped at its start by a broken curtain (R109). -/
def Core.startPlaten (m : PlatenMove) (s : Core) : Core :=
  s.setPlaten (if s.panel.broken then .stopped m else .moving m)

/-- A motion of the arm begins, or is stopped at its start by a broken curtain (R109). -/
def Core.startArm (m : ArmMove) (stage : ArmStage) (s : Core) : Core :=
  s.setArm (if s.panel.broken then .stopped m .curtain else .moving m) stage

/-! ### The platen -/

/-- The answer to a raise that is asked for (R100). -/
inductive RaiseAnswer where
  | up | begun | notReady
deriving DecidableEq, Repr

/-- The platen begins to rise (R100). -/
def Core.beginRaise (s : Core) : Core :=
  { s.dropForce with motion := { s.dropForce.motion with settle := none } }.startPlaten .raising

/-- A raise asked for (R100): in LOWERING and DOWN it begins, in RAISING it joins. -/
def Core.askRaise (s : Core) : Core × RaiseAnswer :=
  match s.motion.platen with
  | .up => (s, .up)
  | .down => (s.beginRaise, .begun)
  | .moving .lowering => (s.beginRaise, .begun)
  | .moving .raising => (s, .begun)
  | _ => (s, .notReady)

/-- An F sample asked for, from which the next 20 ms run (R98). -/
def Core.sampleForce (s : Core) : Core :=
  { s with motion := { s.motion with sampleAt := s.now } }.post .F .spot .force

/-- The lowering begins (R97, R98), or the platen is stopped at its start by a broken curtain. -/
def Core.beginLowering (s : Core) : Core :=
  let s := { s with motion := { s.motion with settle := none } }.startPlaten .lowering
  if s.motion.platen = .moving .lowering then s.sampleForce else s

/-- A lowering request (R97), with its answer handed to the capture control unit unless the lowering begins or is
held. -/
def Core.askLowering (s : Core) : Core :=
  match s.motion.platen with
  | .down => s.signal .platenDown
  | .up =>
    if s.motion.angle = .moving ∨ s.motion.angle = .stopped then
      { s with motion := { s.motion with lowerHeld := true } }
    else if s.motion.arm = .parked then s.beginLowering
    else s.signal (.platenFailed .armOut)
  | .moving .lowering => s.signal (.platenFailed .busy)
  | _ => s.signal (.platenFailed .notReady)

/-- A lowering ends by force or by a faulted sample (R99): the platen is raised and the capture control unit told. -/
def Core.failLowering (force : Bool) (r : PlatenReason) (s : Core) : Core :=
  ({ s with motion := { s.motion with forceRaise := force } }.beginRaise).signal (.platenFailed r)

/-- A force result during LOWERING (R98, R99). -/
def Core.forceResult (r : Result) (s : Core) : Core :=
  if s.motion.platen = .moving .lowering then
    if r.faulted then s.failLowering false .sensor
    else match r.value, s.cls with
      | some f, some c =>
        if 3 * (c.force : Int) < 2 * f then
          (s.raiseFault .platenForce (.force f)).failLowering true .force
        else if (c.force : Int) ≤ f ∧ s.motion.settle = none then
          { s with motion := { s.motion with settle := some s.now } }
        else s
      | _, _ => s
  else s

/-! ### The turn -/

/-- A turn refused (R101). -/
def Core.refuseTurn (o : TurnOutcome) (s : Core) : Core :=
  { s with motion := { s.motion with turnWait := none } }.signal (.turnEnded o)

/-- The puff of an attempt after r retries (R102). -/
def Core.puffMs (r : Nat) (s : Core) : Nat := (s.cls.map (·.puff)).getD 0 * 2 ^ r

/-- The cup is on the leaf (R102): the valve opens, and the puff and the 800 ms begin. -/
def Core.beginSuck (t : Turn) (s : Core) : Core :=
  { s with motion := { s.motion with
      stage := .suck, armSince := s.now, valveOpen := true,
      puff := some { since := s.now, ms := s.puffMs t.retries } } }

/-- The last checks of a turn, with the platen UP (R101); a cursor that has reached L meanwhile is refused as the
check before it was (R18). -/
def Core.turnAtUp (s : Core) : Core :=
  match s.volume with
  | some v =>
    if v.leaves ≤ v.cursor then s.refuseTurn .atEnd
    else if isFoldout v.segs (v.cursor + 1) then s.refuseTurn .foldout
    else
      let t : Turn :=
        { opening := v.cursor, attempt := 1, retries := 0, many := false, laid := false, failed := false,
          vacLost := false, aborting := false }
      { s with motion := { s.motion with turn := some t, turnWait := none } }.startArm .lifting .descend
  | none => s.refuseTurn .noVolume

/-- The checks of a turn from the platen on (R101). -/
def Core.turnFromPlaten (s : Core) : Core :=
  match s.askRaise with
  | (s, .up) => s.turnAtUp
  | (s, .begun) => { s with motion := { s.motion with turnWait := some .raise } }
  | (s, .notReady) => s.refuseTurn .notReady

/-- A turn request (R101). -/
def Core.askTurn (s : Core) : Core :=
  if s.motion.turn.isSome || s.motion.turnWait.isSome then s.signal (.turnEnded .busy)
  else match s.volume with
    | none => s.signal (.turnEnded .noVolume)
    | some v =>
      if s.motion.arm ≠ .parked ∨ (s.motion.platen ≠ .up ∧ s.motion.platen ≠ .down) then
        s.signal (.turnEnded .notReady)
      else if s.motion.cRef = none then s.signal (.turnEnded .noReference)
      else if v.leaves ≤ v.cursor then s.signal (.turnEnded .atEnd)
      else if s.motion.angle = .moving ∨ s.motion.angle = .stopped then
        { s with motion := { s.motion with turnWait := some .angle } }
      else s.turnFromPlaten

/-- The put-down of what the cup holds (R104, R111); the arm keeps its state. -/
def Core.putDown (why : PutDown) (s : Core) : Core :=
  { s.dropGauge with motion := { s.dropGauge.motion with stage := .putDown why, armSince := s.now } }

/-- The arm travels to PARK (R106). -/
def Core.beginReturn (s : Core) : Core := s.startArm .returning .travel

/-- Assistance given by the motion unit (R149, R179): the ASSIST report when the kind was not pending, then the
hold. -/
def Core.giveAssist (k : AssistKind) (t : Turn) (s : Core) : Core :=
  let pending := s.assistPending k
  let s := { s with motion := { s.motion with turn := some t } }
  let s := if pending then s else s.reportAssist k (some t.opening)
  s.enterHold .assist

/-- The exception and the counts of a failed attempt (R104). DESIGN CHOICE (notes 20): R21 counts a double pick when the
gauge classifies MANY, and R104 after the put-down; it is counted here, at the put-down's end, so a MANY whose put-down the
arm's limit or a station reset cuts off is counted nowhere. -/
def Core.countFailure (why : PutDown) (t : Turn) (s : Core) : Core :=
  let s := s.tell .turnRetries 0
  match why with
  | .lostLeaf => s.appendMounted .noPick t.opening t.attempt none
  | .doublePick tg =>
    let s := s.appendMounted .doublePick t.opening tg none
    let s := s.editMounted fun v =>
      { v with tallies := { v.tallies with doublePicks := bump v.tallies.doublePicks } }
    s.tell .doublePicks 0
  | _ => s

/-- MANY is marked met by a double pick (R104). -/
def PutDown.many : PutDown → Bool
  | .doublePick _ => true
  | _ => false

/-- The put-down of a failed attempt is complete (R104): the retry, the failure of the turn, or under ABORT the
return. -/
def Core.attemptFailed (why : PutDown) (t : Turn) (s : Core) : Core :=
  let s := s.countFailure why t
  let t := { t with retries := t.retries + 1, many := t.many || why.many }
  let s := { s with motion := { s.motion with turn := some t } }
  if t.aborting then s.beginReturn
  else if t.retries ≤ (s.cls.map (·.retryLimit)).getD 0 then
    { s with motion := { s.motion with turn := some { t with attempt := t.attempt + 1 } } }.startArm .lifting .descend
  else
    let s := s.appendMounted .turnFailed t.opening (t.retries - 1) none
    (s.giveAssist .turnFailed { t with failed := true }).beginReturn

/-- LIFTING ends when the vacuum is AT_LEVEL and the puff has ended (R102, R103). -/
def Core.tryGauging (s : Core) : Core :=
  if s.motion.arm = .moving .lifting ∧ s.motion.stage = .suck ∧ s.motion.vacuumAt ∧ s.motion.puff = none then
    s.startArm .gauging .leafUp
  else s

/-- A gauge result during GAUGING (R103). -/
def Core.gaugeResult (r : Result) (s : Core) : Core :=
  if s.motion.arm = .moving .gauging ∧ s.motion.stage = .gauge then
    if r.faulted then s.putDown .gaugeFault
    else match r.value, s.cls with
      | some tg, some c =>
        if (c.openFloor : Int) ≤ tg then s.putDown .lostLeaf
        else if (c.singleFloor : Int) ≤ tg then s.startArm .sweeping .sweep
        else s.putDown (.doublePick tg.toNat)
      | _, _ => s
  else s

/-- A vacuum loss in the carry (R107): detail 1 in motion and 2 while stopped. Under ABORT the arm returns at once
when the curtain is CLEAR (R111, R112; notes 17). -/
def Core.vacuumLoss (n : Nat) (s : Core) : Core :=
  match s.motion.turn with
  | some t =>
    let s := { s with motion := { s.motion with valveOpen := false } }.setArm (.stopped .sweeping .vacuumLost) .sweep
    let s := s.appendMounted .vacuumLost t.opening n none
    let s := (s.giveAssist .vacuumLost { t with vacLost := true }).raiseFault .vacuumLost (.vacuum n)
    if t.aborting && !s.panel.broken then s.beginReturn else s
  | none => s

/-- The leaf is laid (R18, R105): the cursor and the turns tally, the deliveries of the cursor, and the count. -/
def Core.layLeaf (t : Turn) (s : Core) : Core :=
  let s := s.editMounted fun v => { v with tallies := { v.tallies with turns := bump v.tallies.turns } }
  let s := (s.moveCursor (s.cursor + 1)).tell .turns 0
  { s with motion := { s.motion with turn := some { t with laid := true } } }

/-- The outcome of a turn that has reached PARKED (R106). -/
def Turn.outcome (t : Turn) : TurnOutcome :=
  if t.laid then .laid else if t.vacLost then .vacuumLost else .turnFailed

/-- The end of a turn with the arm PARKED (R106); the outcome of an aborted turn reaches no step (R151). -/
def Core.endTurn (s : Core) : Core :=
  match s.motion.turn with
  | some t =>
    let s := { s with
      motion := { s.motion with turn := none }
      seq := { s.seq with latched := { s.seq.latched with turnOne := t.laid, turnDouble := t.many } } }
    if t.aborting then s else s.signal (.turnEnded t.outcome)
  | none => s

/-- The open reference of the arm at PARK (R106). -/
def Core.openRefResult (r : Result) (s : Core) : Core :=
  if s.motion.arm = .moving .returning ∧ s.motion.stage = .reference then
    let s := if r.faulted then s else { s with motion := { s.motion with cRef := some r.code } }
    (s.setArm .parked .reference).endTurn
  else s

/-- The limit of a stage of the arm, in milliseconds (R108); the lift and the readings have limits of their own. -/
def ArmStage.limit : ArmStage → Option Nat
  | .descend => some 1500
  | .leafUp => some 1000
  | .putDown _ => some 1000
  | .sweep => some 3000
  | .release => some 500
  | .travel => some 3000
  | .suck => none
  | .gauge => none
  | .reference => none

/-- A limit of the arm passes in the phase `m` (R108): FAULT, ARM_TIMEOUT naming the phase, and the end of a turn in
hand. -/
def Core.armFault (m : ArmMove) (s : Core) : Core :=
  let told := match s.motion.turn with
    | some t => !t.aborting
    | none => false
  let s := { s with motion := { s.motion with turn := none } }.setArm .fault s.motion.stage
  let s := s.raiseFault .armTimeout (.arm m)
  if told then s.signal (.turnEnded .fault) else s

/-! ### Requests held for the angle -/

/-- The lowering and the turn that waited for the angle are taken once it has left MOVING and STOPPED (R97, R101). -/
def Core.takeHeld (s : Core) : Core :=
  if s.motion.angle = .moving ∨ s.motion.angle = .stopped then s
  else
    let s := if s.motion.lowerHeld then { s with motion := { s.motion with lowerHeld := false } }.askLowering else s
    if s.motion.turnWait = some .angle then { s with motion := { s.motion with turnWait := none } }.turnFromPlaten
    else s

/-- The sequencer is told that the raise it asked for has ended (R100, R145). -/
def Core.tellRaise (ok : Bool) (s : Core) : Core :=
  if s.motion.stepRaise then { s with motion := { s.motion with stepRaise := false } }.signal (.raiseEnded ok) else s

/-- A raise that reaches UP outside homing (R100): the turn or the sequencer that asked for it goes on. -/
def Core.platenArrived (s : Core) : Core :=
  let s := ({ s with motion := { s.motion with forceRaise := false } }.setPlaten .up).tellRaise true
  if s.motion.turnWait = some .raise then s.turnAtUp else s

/-- A raise that passes its limit (R100): FAULT, PLATEN_TIMEOUT, and the requester told. -/
def Core.raiseFailed (s : Core) : Core :=
  let s := ((s.setPlaten .fault).raiseFault .platenTimeout .raising).tellRaise false
  if s.motion.turnWait = some .raise then s.refuseTurn .fault else s

/-- A move of the angle begins (R96), or is stopped at its start by a broken curtain (R109). -/
def Core.moveAngle (target : Nat) (s : Core) : Core :=
  { s with motion := { s.motion with angleTarget := some target } }.setAngle
    (if s.panel.broken then .stopped else .moving)

/-- The move asked for at a mount (R12, R96). -/
def Core.mountAngle (target : Nat) (s : Core) : Core :=
  match s.motion.angle with
  | .unreferenced => s
  | .fault => s
  | .moving => { s with motion := { s.motion with angleTarget := some target } }
  | .stopped => { s with motion := { s.motion with angleTarget := some target } }
  | .atAngle => if s.motion.anglePos = some target then s else s.moveAngle target

/-! ### Homing -/

/-- The angle to which a homing drives the cradle (R94). -/
def Core.homeAngle (s : Core) : Nat :=
  match s.cls with
  | some c => min 120 c.maxAngle
  | none => 120

/-- The reply of a homing that ends (R95). -/
def Core.endHoming (h : Homing) (outcome : HomingOutcome) (renewed : Bool) (s : Core) : Core :=
  let s := { s with motion := { s.motion with homing := none } }
  s.reply h.entry .done (.homed outcome h.phase s.motion.platen s.motion.arm s.motion.angle renewed)

/-- The axis that a phase moves becomes UNREFERENCED where it stands (R94, R95). -/
def Core.unreference (p : HomingPhase) (s : Core) : Core :=
  match p with
  | .platen => ({ s with motion := { s.motion with forceRaise := false } }.setPlaten .unreferenced).tellRaise false
  | .arm => s.setArm .unreferenced .travel
  | .angleSensor => ({ s.angleStopped with motion := { s.angleStopped.motion with angleTarget := none } }).setAngle .unreferenced
  | .angleTarget => ({ s.angleStopped with motion := { s.angleStopped.motion with angleTarget := none } }).setAngle .unreferenced
  | .reference => s.withdraw .G (· == .homingRef)

/-- A homing broken off by the curtain, ABORT or a station reset (R95). -/
def Core.breakHoming (outcome : HomingOutcome) (s : Core) : Core :=
  match s.motion.homing with
  | some h => (s.unreference h.phase).endHoming h outcome false
  | none => s

/-- A homing phase is entered (R94). -/
def Core.enterPhase (h : Homing) (p : HomingPhase) (s : Core) : Core :=
  { s with motion := { s.motion with homing := some { h with phase := p, since := s.now } } }

/-- HOME taken: phase 1 (R93, R94). -/
def Core.beginHoming (entry : Nat) (s : Core) : Core :=
  (s.enterPhase { entry := entry, phase := .platen, since := s.now } .platen).setPlaten (.moving .raising)

/-- A phase of a homing is complete (R94). -/
def Core.phaseDone (h : Homing) (s : Core) : Core :=
  match h.phase with
  | .platen =>
    let s := { s with motion := { s.motion with platenFailed := false, forceRaise := false } }.setPlaten .up
    let s := s.tellRaise true
    let s := { s with motion := { s.motion with valveOpen := false } }.setArm (.moving .returning) .travel
    s.enterPhase h .arm
  | .arm =>
    let s := { s with motion := { s.motion with armFailed := false } }.setArm .parked .travel
    let s := { s with motion := { s.motion with angleTarget := some s.homeAngle } }.setAngle .moving
    s.enterPhase h .angleSensor
  | .angleSensor => s.enterPhase h .angleTarget
  | .angleTarget =>
    let s := { s with motion := { s.motion with
      angleFailed := false, anglePos := s.motion.angleTarget, angleTarget := none } }.setAngle .atAngle
    ((s.enterPhase h .reference).post .G .spot .homingRef).takeHeld
  | .reference => s

/-- The limit of a homing phase, in milliseconds (R94); phase 4 has the conversion's. -/
def HomingPhase.limit : HomingPhase → Option Nat
  | .platen => some 2000
  | .arm => some 5000
  | .angleSensor => some 10000
  | .angleTarget => some 10000
  | .reference => none

/-- The homing-failed mark of a phase's axis set (R94). -/
def Motion.markFailed (p : HomingPhase) (m : Motion) : Motion :=
  match p with
  | .platen => { m with platenFailed := true }
  | .arm => { m with armFailed := true }
  | .angleSensor => { m with angleFailed := true }
  | .angleTarget => { m with angleFailed := true }
  | .reference => m

/-- The fault of a homing phase (R94). -/
def HomingPhase.fault : HomingPhase → FaultKind
  | .platen => .platenTimeout
  | .arm => .armTimeout
  | _ => .angleTimeout

/-- A phase passes its limit (R94). -/
def Core.phaseFailed (h : Homing) (s : Core) : Core :=
  let s := { s with motion := s.motion.markFailed h.phase }.unreference h.phase
  ((s.raiseFault h.phase.fault (.homing h.phase)).endHoming h .failed false).takeHeld

/-- The open reference of a homing (R94). -/
def Core.homingRefResult (r : Result) (s : Core) : Core :=
  match s.motion.homing with
  | some h =>
    if h.phase = .reference then
      if r.faulted then s.endHoming h .completed false
      else { s with motion := { s.motion with cRef := some r.code } }.endHoming h .completed true
    else s
  | none => s

/-! ### The curtain -/

/-- A curtain break at the motion unit (R109). A puff is cut off, whatever the arm's state. -/
def Core.motionBreak (s : Core) : Core :=
  let s := s.breakHoming .interlock
  let s := { s with motion := { s.motion with puff := none } }
  let s := match s.motion.platen with
    | .moving m => s.dropForce.setPlaten (.stopped m)
    | _ => s
  let s := match s.motion.angle with
    | .moving => s.angleStopped.setAngle .stopped
    | _ => s
  match s.motion.arm with
  | .moving m =>
    let s := s.dropGauge.setArm (.stopped m .curtain) s.motion.stage
    (if m = .sweeping ∧ s.motion.vacuumAt = false then s.vacuumLoss 2 else s).takeHeld
  | _ => s.takeHeld

/-- A stopped platen motion taken up again (R110). -/
def Core.resumePlaten (s : Core) : Core :=
  match s.motion.platen with
  | .stopped .lowering =>
    let s := { s with motion := { s.motion with settle := s.motion.settle.map fun _ => s.now } }
    (s.setPlaten (.moving .lowering)).sampleForce
  | .stopped .raising => s.setPlaten (.moving .raising)
  | _ => s

/-- A motion of the arm stopped by the curtain taken up again (R110). -/
def Core.resumeArm (m : ArmMove) (t : Turn) (s : Core) : Core :=
  let s := s.setArm (.moving m) s.motion.stage
  match s.motion.stage with
  | .suck => s.beginSuck t
  | .leafUp => if s.motion.vacuumAt then s else s.putDown .lostLeaf
  | .gauge => if s.motion.vacuumAt then s.post .G .spot .gauge else s.putDown .lostLeaf
  | .release => { s with motion := { s.motion with valveOpen := false } }
  | .reference => s.post .G .spot .openRef
  | _ => s

/-- The abort action of a stopped arm (R111). -/
def Core.abortStopped (m : ArmMove) (t : Turn) (s : Core) : Core :=
  match s.motion.stage with
  | .putDown _ => s.resumeArm m t
  | stage =>
    if m = .lifting ∨ m = .gauging then (s.setArm (.moving m) stage).putDown .aborted
    else s.resumeArm m t

/-- The platen's motion belongs to a running step (R110): the lowering of an attempt and a turn's preliminary raise.
Any other raise, the clearing raise of a CYCLE among them, goes on when the curtain becomes CLEAR. -/
def Core.platenBound (s : Core) : Bool :=
  match s.motion.platen with
  | .stopped .lowering => true
  | .stopped .raising => s.motion.turnWait == some .raise
  | _ => false

/-- The resumption of a step (R110, R152). -/
def Core.motionResume (s : Core) : Core :=
  let s := if s.platenBound then s.resumePlaten else s
  match s.motion.arm, s.motion.turn with
  | .stopped m .curtain, some t => if t.aborting then s else s.resumeArm m t
  | .stopped _ .vacuumLost, some t => if t.aborting then s else s.beginReturn
  | _, _ => s

/-- The recovery of an aborted turn goes on with the curtain CLEAR (R111). -/
def Core.recoverArm (s : Core) : Core :=
  match s.motion.arm, s.motion.turn with
  | .stopped m .curtain, some t => if t.aborting then s.abortStopped m t else s
  | .stopped _ .vacuumLost, some t => if t.aborting then s.beginReturn else s
  | _, _ => s

/-- The curtain becomes CLEAR at the motion unit (R110, R111). -/
def Core.motionClear (s : Core) : Core :=
  let s := if s.platenBound then s else s.resumePlaten
  let s := if s.motion.angle = .stopped then s.setAngle .moving else s
  s.recoverArm

/-! ### ABORT -/

/-- ABORT at the arm (R111). An arm STOPPED by the curtain that ABORT finds with the curtain already CLEAR takes the
action of the abort at once; R111 speaks of the moment when the curtain becomes CLEAR: DESIGN CHOICE (notes 45). -/
def Core.abortArm (s : Core) : Core :=
  match s.motion.turn with
  | some t =>
    let s := { s with motion := { s.motion with turn := some { t with aborting := true } } }
    match s.motion.arm, s.motion.stage with
    | .moving _, .putDown _ => s
    | .moving .lifting, _ => s.putDown .aborted
    | .moving .gauging, _ => s.putDown .aborted
    | .stopped _ _, _ => if s.panel.broken then s else s.recoverArm
    | _, _ => s
  | none => s

/-- ABORT at the platen (R111). Under a BROKEN curtain a stopped platen is recorded as STOPPED from RAISING: DESIGN CHOICE
(notes 41). One that ABORT finds stopped with the curtain already CLEAR rises at once, where R111 speaks of the moment
when the curtain becomes CLEAR: DESIGN CHOICE (notes 45). -/
def Core.abortPlaten (s : Core) : Core :=
  match s.motion.platen with
  | .moving .lowering => s.beginRaise
  | .stopped _ =>
    let s := { s with motion := { s.motion with settle := none } }.setPlaten (.stopped .raising)
    if s.panel.broken then s else s.resumePlaten
  | _ => s

/-- ABORT at the motion unit (R111). -/
def Core.motionAbort (s : Core) : Core :=
  let s := s.breakHoming .aborted
  let s := { s with motion := { s.motion with turnWait := none, lowerHeld := false, stepRaise := false } }
  s.abortArm.abortPlaten

end Sys2Proof.Machine
end

