-- ==== Sys2Proof/Machine/Attempt.lean ====
section
/-! DEFINITION. The capture attempt up to its lamp-on (R116 to R121), marks (R126), and what the curtain, a resumed step
and ABORT do to an attempt (R120, R132). -/

namespace Sys2Proof.Machine

/-! ### Taking an attempt -/

/-- The resolved side (R116). -/
def resolveSide (ask : SideAsked) (opening leaves : Nat) : Side :=
  match ask with
  | .both => .both
  | .verso => .verso
  | .recto => .recto
  | .auto => if opening = 0 then .recto else if opening = leaves then .verso else .both

/-- An attempt with its opening and side fixed from the cursor (R116). -/
def Core.fixAttempt (a : Attempt) (s : Core) : Attempt :=
  match s.volume with
  | some v => { a with opening := v.cursor, side := resolveSide a.ask v.cursor v.leaves }
  | none => a

/-- The attempt in hand replaced. -/
def Core.setAttempt (a : Attempt) (s : Core) : Core := { s with cap := { s.cap with attempt := some a } }

/-- An attempt gains its reservation (R117): it takes its opening and side, suppresses the view light and asks for the
platen, which it holds back while its interlock mark is set (R118, R120). -/
def Core.gainPlace (a : Attempt) (s : Core) : Core :=
  let a := { s.fixAttempt a with phase := .preparing }
  if a.interlock then (s.setAttempt { a with prep := .heldBack }).withView fun v => { v with suppressed := true }
  else ((s.setAttempt { a with prep := .platen }).withView fun v => { v with suppressed := true }).askLowering

/-- A new attempt. -/
def newAttempt (ask : SideAsked) : Attempt :=
  { ask := ask, opening := 0, side := .both, phase := .ringWait, prep := .platen, interlock := false, seq := 0,
    litStamp := 0, number := 0, qPlan := 0, dose := none, frameSince := none, frameLimit := 0, aborting := false }

/-- An attempt asked for by the step sequencer (R116, R117). -/
def Core.askAttempt (ask : SideAsked) (s : Core) : Core :=
  if s.cap.attempt.isSome || s.cap.mark.isSome then s.signal (.attemptEnded .busy)
  else if s.mounted = none then s.signal (.attemptEnded .noVolume)
  else
    let a := newAttempt ask
    if s.cap.hasRoom then s.gainPlace a else s.setAttempt (s.fixAttempt a)

/-! ### Preparing -/

/-- A camera as the camera wait starts (R119). -/
def CameraState.await (needed : Bool) (c : CameraState) : CameraState :=
  if needed then { c with frame := .waiting } else c

/-- Every needed camera is ready (R119). -/
def Capture.camerasReady (c : Capture) (side : Side) : Bool :=
  (!side.needs .V || c.camV.isReady) && (!side.needs .R || c.camR.isReady)

/-- ADMITTING entered (R119, R121). -/
def Core.enterAdmission (a : Attempt) (s : Core) : Core :=
  (s.setAttempt { a with phase := .admitting }).askFlash a.side

/-- The frame state of each needed camera set to WAITING (R119). -/
def Core.awaitCameras (a : Attempt) (s : Core) : Core :=
  { s with cap := { s.cap with
      camV := s.cap.camV.await (a.side.needs .V), camR := s.cap.camR.await (a.side.needs .R) } }

/-- The camera wait starts, and ends at once when the cameras are ready (R119). -/
def Core.startCameraWait (a : Attempt) (s : Core) : Core :=
  let s := s.awaitCameras a
  if s.cap.camerasReady a.side then s.enterAdmission a
  else s.setAttempt { a with prep := .cameras s.now }

/-- The platen is DOWN for the attempt (R118, R119): the needed cameras are WAITING, and the camera wait starts, but not
while the mark is set (R120, notes 31). -/
def Core.attemptPlatenDown (s : Core) : Core :=
  match s.cap.attempt with
  | some a =>
    if a.phase = .preparing ∧ a.prep = .platen then
      if a.interlock then (s.awaitCameras a).setAttempt { a with prep := .stopped } else s.startCameraWait a
    else s
  | none => s

/-- The platen did not come down (R118). -/
def Core.attemptPlatenFailed (r : PlatenReason) (s : Core) : Core :=
  match s.cap.attempt with
  | some a => if a.phase = .preparing ∧ a.prep = .platen then s.endUnlitWith (.platenFailed r) else s
  | none => s

/-- The flash is refused (R121). -/
def Core.attemptRefused (r : FlashRefusal) (s : Core) : Core :=
  match s.cap.attempt with
  | some a =>
    if a.phase = .admitting then
      let s := match r.reason, r.figures with
        | .ceiling, some f => s.appendMounted .ceilingReached a.opening (f.aOpen.getD 0) none
        | .budget, some f => s.appendMounted .budgetExhausted a.opening (f.u.getD 0) none
        | _, _ => s
      s.endUnlitWith (.notLit r)
    else s
  | none => s

/-! ### Marks -/

/-- A MARK record written (R126). -/
def Core.writeMark (note : Nat) (s : Core) : Core :=
  let seq := s.cap.nextSeq
  let place := s.mounted.map fun m => (m.1.val, m.2.cursor)
  let s := { s with cap := { s.cap with nextSeq := seq + 1, mark := none } }
  (s.writeRecord (.mark { seq := seq, stamp := s.stamp, place := place, note := note })).signal (.markEnded (some seq))

/-- A mark asked for by the step sequencer (R126). -/
def Core.askMark (note : Nat) (s : Core) : Core :=
  if s.cap.attempt.isSome || s.cap.mark.isSome then s.signal (.markEnded none)
  else if s.cap.hasRoom then s.writeMark note
  else { s with cap := { s.cap with mark := some note } }

/-- What waits in RING_WAIT takes the room that a drain has made (R117, R126, R128). -/
def Core.takeRoom (s : Core) : Core :=
  if s.cap.hasRoom then
    match s.cap.attempt, s.cap.mark with
    | some a, _ => if a.phase = .ringWait then s.gainPlace a else s
    | none, some note => s.writeMark note
    | none, none => s
  else s

/-! ### The curtain and resumption -/

/-- An attempt not yet lit. -/
def AttemptPhase.unlit : AttemptPhase → Bool
  | .ringWait => true
  | .preparing => true
  | .admitting => true
  | .lit => false
  | .collecting => false

/-- A running camera wait is stopped (R120). -/
def Prep.stop : Prep → Prep
  | .cameras _ => .stopped
  | p => p

/-- A curtain break at the capture control unit (R120). -/
def Core.captureBreak (s : Core) : Core :=
  match s.cap.attempt with
  | some a => if a.phase.unlit then s.setAttempt { a with interlock := true, prep := a.prep.stop } else s
  | none => s

/-- The interlock mark lifted by the resumption of the attempt's step (R120). -/
def Core.liftMark (s : Core) : Core :=
  match s.cap.attempt with
  | some a =>
    let a := { a with interlock := false }
    let s := s.setAttempt a
    match a.phase, a.prep with
    | .preparing, .heldBack => (s.setAttempt { a with prep := .platen }).askLowering
    | .preparing, .stopped =>
      if s.motion.platen = .down then s.startCameraWait a else s.setAttempt { a with prep := .platen }
    | .admitting, _ => s.giveLeave
    | _, _ => s
  | none => s

/-! ### ABORT -/

/-- A lit attempt is marked as aborted, before the lamps go off (R132). -/
def Core.markAborting (s : Core) : Core :=
  match s.cap.attempt with
  | some a => if a.phase.unlit then s else s.setAttempt { a with aborting := true, frameSince := none }
  | none => s

/-- ABORT at the capture control unit (R132). -/
def Core.captureAbort (s : Core) : Core :=
  match s.cap.attempt with
  | some a => if a.phase.unlit then s.endUnlit else s.markAborting.tryFinish
  | none => { s with cap := { s.cap with mark := none } }

end Sys2Proof.Machine
end

