-- ==== Sys2Proof/Machine/Results.lean ====
section
/-! DEFINITION. Results of the converter: the conversion formulas (R62 to R64), the latches (R57), the fault
declaration (R58), and the handing of a result to its requesters (R57, R59). -/

namespace Sys2Proof.Machine

/-! ### Conversion formulas -/

/-- F in tenths of a newton (R62). -/
def forceOf (code : Int) (cal : CalPair) : Int := clampInt 0 fullCode (code - cal.x) * cal.y / fullCode

/-- T in tenths of a degree (R63); the division rounds toward minus infinity. -/
def temperatureOf (code : Int) (cal : CalPair) : Int :=
  clampInt (-400) 2000 (cal.x + code * cal.y / fullCode)

/-- T_g in per-mille (R64). -/
def transmittanceOf (code cRef oG : Int) : Int :=
  clampInt 0 1000 (1000 * max (code - oG) 0 / max (cRef - oG) 1)

/-- The value of a channel for a clamped code, with the calibration in force (R57, R61); absent when the channel
cannot be converted. -/
def Core.convert (ch : Channel) (code : Int) (s : Core) : Option Int :=
  match ch with
  | .P => s.meas.cal.p.map fun c => (meterLux code c : Int)
  | .F => s.meas.cal.f.map fun c => forceOf code c
  | .T => s.meas.cal.t.map fun c => temperatureOf code c
  | .G => s.motion.cRef.map fun r => transmittanceOf code r ((s.meas.cal.g.map (·.x)).getD 0)

/-- The saturation flag of a raw code (R57). -/
def satFlag (code : Int) : Option ResultFlag :=
  if (fullCode : Int) ≤ code then some .highSat
  else if code ≤ -8388608 then some .lowSat
  else none

/-- A delivered result (R57). -/
def Core.resultOf (ch : Channel) (kind : ConvKind) (raw : Int) (s : Core) : Result :=
  let code := clampInt (-8388608) fullCode raw
  { code := code, stamp := s.stamp, flag := satFlag raw, value := s.convert ch code, kind := kind }

/-- A faulted result (R58). -/
def Core.faultResult (kind : ConvKind) (s : Core) : Result :=
  { code := 0, stamp := s.stamp, flag := some .fault, value := none, kind := kind }

/-! ### Handing on -/

/-- A result handed to one requester (R57, R59). -/
def Core.handTo (ch : Channel) (r : Result) (who : Requester) (s : Core) : Core :=
  match who with
  | .timer => s
  | .admission =>
    match s.illum.flash with
    | some f => if f.tAsked then s.useReading r else s
    | none => s
  | .measure e => s.reply e .done (.measured ch r)
  | .gauge => s.gaugeResult r
  | .openRef => s.openRefResult r
  | .homingRef => s.homingRefResult r
  | .force => s.forceResult r
  | .window => s.handWindow (some r)

/-- A T result handed to the illumination unit and to the activity counters (R57, R82, R181). -/
def Core.handT (r : Result) (s : Core) : Core :=
  let s := s.thermalTest r.faulted r.value
  match r.value with
  | some t => s.tell .tempSamples t
  | none => s

/-- A result handed to everyone who takes it, and then the next grant (R54, R57), in which a request posted meanwhile
takes part; one posted by an answer to another unit comes after it. DESIGN CHOICE (notes 36). -/
def Core.handAll (c : Conversion) (r : Result) (s : Core) : Core :=
  let s := if c.channel = .T then s.handT r else s
  (c.requesters.foldl (fun s who => s.handTo c.channel r who) s).grantNext

/-- The latch of a channel written and the converter freed; acknowledged entries are judged afresh (R57, R172). -/
def Core.latchResult (ch : Channel) (r : Result) (s : Core) : Core :=
  { s with meas := { s.meas with conv := none, latch := s.meas.latch.set ch (some r) } }.judgeFaults

/-- The result of the conversion in progress delivered (R57). -/
def Core.deliver (c : Conversion) (raw : Int) (s : Core) : Core :=
  let r := s.resultOf c.channel c.kind raw
  (s.latchResult c.channel r).handAll c r

/-- The conversion in progress declared faulted (R58). -/
def Core.declareFault (c : Conversion) (s : Core) : Core :=
  let r := s.faultResult c.kind
  ((s.latchResult c.channel r).raiseFault .meterFault (.channels [c.channel])).handAll c r

end Sys2Proof.Machine
end

