-- ==== Sys2Proof/Machine/Sequencer.lean ====
section
/-! DEFINITION. The step sequencer (chapter 7): the start of the head step (R141), what the endings of operations make
of it (R142 to R146), the end of a step (R148), holds and their release (R149, R152, R153), HALT (R150), ABORT (R151)
and STEP_FLUSH (R154). -/

namespace Sys2Proof.Machine

/-! ### The head step -/

/-- The sequencer's state replaced; the hold record goes with HELD (R139). -/
def Core.setSeq (st : SeqState) (s : Core) : Core := { s with seq := { s.seq with state := st, reason := none } }

/-- The operation in hand replaced. -/
def Core.setOp (op : Option Operation) (s : Core) : Core := { s with seq := { s.seq with op := op } }

/-- The awaited assistance replaced. -/
def Core.setAwaiting (k : Option Awaited) (s : Core) : Core := { s with seq := { s.seq with awaiting := k } }

/-- The work of the head step. -/
def Core.headWork (s : Core) : Option StepWork := s.seq.queue.head?.map (·.work)

/-- The work of the head step replaced. -/
def Core.setHeadWork (w : StepWork) (s : Core) : Core :=
  match s.seq.queue with
  | st :: rest => { s with seq := { s.seq with queue := { st with work := w } :: rest } }
  | [] => s

/-- The progress of the head step cleared. -/
def Sequencer.noProgress (q : Sequencer) : Sequencer :=
  { q with awaiting := none, started := false, op := none, cycle := none, pause := none }

/-- What the STEP_DONE of a step that ends without its operation's result adds (R148): the ending of a CAPTURE and the
sequence number of a MARK are absent, and the clamp mask of a LIGHT is 0 (notes 40). -/
def StepWork.extra (w : StepWork) (count : Nat) : StepExtra :=
  match w with
  | .capture _ _ => .capture none
  | .cycle stop _ => .cycle count stop
  | .mark _ => .mark none
  | .light _ _ => .light 0
  | .turn => .none
  | .pause _ => .none

/-- The count of openings captured of the head CYCLE. -/
def Core.cycleCount (s : Core) : Nat := (s.seq.cycle.map (·.count)).getD 0

/-- The STEP_DONE report of a step (R148). -/
def Core.reportStep (st : Step) (result : StepResult) (reason : Option StepReason) (extra : StepExtra) (s : Core) : Core :=
  s.report (.stepDone st.id st.work.kind st.origin result reason s.word extra)

/-- The end of the head step (R148). -/
def Core.endStep (result : StepResult) (reason : Option StepReason) (extra : StepExtra) (s : Core) : Core :=
  match s.seq.queue with
  | [] => s
  | st :: rest =>
    let s := if result = .cancelled then s
      else { s with seq := { s.seq with latched := { s.seq.latched with skipped := result == .skipped } } }
    let s := { s with seq := { s.seq with queue := rest }.noProgress }
    let s := s.reportStep st result reason extra
    let s := if result = .skipped then s.tell .stepsSkipped 0 else s
    if result = .failed then s.enterHold .stepFailed
    else match s.seq.state with
      | .running => if rest = [] then s.setSeq .idle else s.signal .startHead
      | .halting => s.setHold .halt
      | _ => s

/-- The end of the head step with nothing of its own to add but a CYCLE's figures. -/
def Core.endPlain (result : StepResult) (reason : StepReason) (s : Core) : Core :=
  match s.headWork with
  | some w => s.endStep result (some reason) (w.extra s.cycleCount)
  | none => s

/-- A head step awaits assistance (R143, R145): HELD with reason ASSIST, or with FAULT where that stands, and the
ASSIST report of MANUAL_TURN_NEEDED (R179). A turn of a head CYCLE that ends FOLDOUT, TURN_FAILED or VACUUM_LOST in
HALTING takes reason ASSIST (R143, R145), where R150 gives a CYCLE that does not end reason HALT: DESIGN CHOICE
(notes 52). -/
def Core.awaitAssist (k : Awaited) (s : Core) : Core :=
  let reason : HoldReason := if s.seq.state = .held ∧ s.seq.reason = some .fault then .fault else .assist
  let pending := s.assistPending .manualTurn
  let s := (s.setAwaiting (some k)).setHold reason
  if k = .manualTurn ∧ pending = false then s.reportAssist .manualTurn none else s

/-- The start check (R141, test 3). -/
def Core.startCheck (s : Core) : Option HoldReason :=
  if s.faults ≠ [] then some .fault
  else if s.freeExceptions < 5 then some .exceptionsFull
  else if s.panel.broken then some .interlock
  else none

/-- The hold of the start check (R141, R178). -/
def Core.holdAtStart (r : HoldReason) (s : Core) : Core :=
  if r = .interlock then s.holdInterlock else s.enterHold r

/-! ### Sweeps -/

/-- The progress of the head CYCLE replaced. -/
def Core.setCycle (c : CycleProgress) (s : Core) : Core := { s with seq := { s.seq with cycle := some c } }

/-- The CYCLE ends with its count and stop (R148). -/
def Core.endCycle (result : StepResult) (reason : StepReason) (c : CycleProgress) (stop : Nat) (s : Core) : Core :=
  s.endStep result (some reason) (.cycle c.count stop)

/-- Position E (R145): the start check and the turn. -/
def Core.cycleE (c : CycleProgress) (s : Core) : Core :=
  let s := s.setCycle { c with pos := .E }
  match s.startCheck with
  | some r => s.holdAtStart r
  | none => (s.setOp (some .turn)).askTurn

/-- Position D (R145): the clearing raise before a foldout. -/
def Core.cycleD (c : CycleProgress) (stop : Nat) (s : Core) : Core :=
  if s.nextFoldout then
    let s := s.setCycle { c with pos := .D }
    match s.askRaise with
    | (s, .notReady) => s.endCycle .failed .notReady c stop
    | (s, .up) => s.awaitAssist .manualTurn
    | (s, .begun) =>
      ({ s with motion := { s.motion with stepRaise := true } }.setOp (some .raise)).awaitAssist .manualTurn
  else s.cycleE c

/-- Position C (R145). -/
def Core.cycleC (c : CycleProgress) (stop : Nat) (s : Core) : Core :=
  if stop = s.cursor then s.endCycle .done .stopReached c stop
  else if stop < s.cursor then s.endCycle .done .stopPassed c stop
  else s.cycleD c stop

/-- Position B (R145, R146). -/
def Core.cycleB (c : CycleProgress) (stop : Nat) (s : Core) : Core :=
  if s.openingCaptured then s.cycleC c stop
  else
    let s := s.setCycle { c with pos := .B }
    match s.startCheck with
    | some r => s.holdAtStart r
    | none => (s.setOp (some .attempt)).askAttempt .auto

/-- Position A (R145). -/
def Core.cycleA (c : CycleProgress) (stop : Nat) (s : Core) : Core :=
  if stop < s.cursor then s.endCycle .done .stopPassed c stop
  else s.cycleB { c with lit := 0 } stop

/-- The volume the CYCLE noted is mounted (R145). -/
def Core.cycleVolume (c : CycleProgress) (s : Core) : Option Volume :=
  match s.mounted with
  | some (i, v) => if i = c.slot ∧ v.inst = c.inst then some v else none
  | none => none

/-- The head CYCLE acts at its position (R145). -/
def Core.cycleAct (c : CycleProgress) (stop retakes : Nat) (s : Core) : Core :=
  match s.cycleVolume c with
  | none => s.endCycle .failed .noVolume c stop
  | some v =>
    let stop := min stop v.leaves
    let s := (s.setHeadWork (.cycle stop retakes)).setCycle c
    match c.pos with
    | .A => s.cycleA c stop
    | .B => s.cycleB c stop
    | .C => s.cycleC c stop
    | .D => s.cycleD c stop
    | .E => s.cycleE c

/-- Acting at a position would end the CYCLE before any further operation (R149, R150). -/
def Core.cycleEnds (c : CycleProgress) (stop : Nat) (s : Core) : Bool :=
  match s.cycleVolume c with
  | none => true
  | some v =>
    let stop := min stop v.leaves
    match c.pos with
    | .A => decide (stop < s.cursor) || (s.openingCaptured && decide (stop ≤ s.cursor))
    | .B => s.openingCaptured && decide (stop ≤ s.cursor)
    | .C => decide (stop ≤ s.cursor)
    | _ => false

/-- The result of an operation leads the CYCLE to a position (R146, R149, R150): it acts there in RUNNING, and in
HALTING and HELD it ends there or waits between operations. -/
def Core.cycleTo (c : CycleProgress) (s : Core) : Core :=
  match s.headWork with
  | some (.cycle stop retakes) =>
    let s := s.setCycle c
    if s.seq.state = .running || s.cycleEnds c stop then s.cycleAct c stop retakes
    else if s.seq.state = .halting then s.setHold .halt
    else s
  | _ => s

/-- A CYCLE starts (R145). -/
def Core.startCycle (stop : Nat) (s : Core) : Core :=
  match s.mounted with
  | none => s.endStep .failed (some .noVolume) (.cycle 0 stop)
  | some (i, v) => s.cycleTo { pos := .A, lit := 0, count := 0, slot := i, inst := v.inst }

/-! ### Starting a step -/

/-- The staged setting's fields set with their clamps (section 4.1.1). -/
def settingClamp (x : Setting) : Setting :=
  { cVU := min x.cVU 4095, cVL := min x.cVL 4095, cRU := min x.cRU 4095, cRL := min x.cRL 4095,
    d := clamp 200 500000 x.d, eFloor := min x.eFloor 200000, cV := min x.cV 4095 }

/-- The masked fields of a setting taken, the others kept (R70). -/
def settingMerge (m : Mask) (new old : Setting) : Setting :=
  { cVU := pick m 1 new.cVU old.cVU, cVL := pick m 2 new.cVL old.cVL, cRU := pick m 3 new.cRU old.cRU,
    cRL := pick m 4 new.cRL old.cRL, d := pick m 5 new.d old.d, eFloor := pick m 6 new.eFloor old.eFloor,
    cV := pick m 7 new.cV old.cV }

/-- The mask of the fields of a setting that the clamps change (R70). -/
def settingClampMask (m : Mask) (x : Setting) : Mask :=
  let y := settingClamp x
  maskOf [(1, hasField m 1 && x.cVU != y.cVU), (2, hasField m 2 && x.cVL != y.cVL),
    (3, hasField m 3 && x.cRU != y.cRU), (4, hasField m 4 && x.cRL != y.cRL), (5, hasField m 5 && x.d != y.d),
    (6, hasField m 6 && x.eFloor != y.eFloor), (7, hasField m 7 && x.cV != y.cV)]

/-- The masked fields applied to the staged setting (R70): a change of c_v reaches a lit view light at once. -/
def Core.stage (m : Mask) (x : Setting) (s : Core) : Core :=
  { s with illum := { s.illum with staged := settingMerge m (settingClamp x) s.illum.staged } }.reviseView

/-- The work of a head step that has passed its tests begins (R142 to R145). The clamp mask of a LIGHT names its fields
by the numbers they have in STEP_QUEUE, 5 to 11 (notes 12). -/
def Core.beginWork (w : StepWork) (s : Core) : Core :=
  let s := { s with seq := { s.seq with started := true } }
  match w with
  | .capture side _ => (s.setOp (some .attempt)).askAttempt side
  | .turn => (s.setOp (some .turn)).askTurn
  | .cycle stop _ => s.startCycle stop
  | .light m x => (s.stage m x).endStep .done none (.light (settingClampMask m x <<< 4))
  | .pause ms => { s with seq := { s.seq with pause := some { left := ms * 1000, since := some s.now } } }
  | .mark note => (s.setOp (some .mark)).askMark note

/-- The guard keeps a step from starting (R141, test 1). -/
def Core.guardFails (g : Option Guard) (s : Core) : Bool :=
  match g with
  | some g => s.word.get g.cond != g.want
  | none => false

/-- The work must meet the start check (R141, test 3). -/
def StepWork.checked : StepWork → Bool
  | .capture _ _ => true
  | .turn => true
  | .cycle _ _ => true
  | _ => false

/-- A CAPTURE of mode NEW of an opening already captured (R141, test 2). -/
def Core.alreadyCaptured (w : StepWork) (s : Core) : Bool :=
  match w with
  | .capture _ retake => !retake && s.openingCaptured
  | _ => false

/-- The head step is started (R141). -/
def Core.startHead (s : Core) : Core :=
  match s.seq.queue with
  | st :: _ =>
    if s.seq.state = .running ∧ s.seq.started = false then
      if s.guardFails st.gate then s.endPlain .skipped .guard
      else if s.alreadyCaptured st.work then s.endPlain .skipped .alreadyCaptured
      else match st.work.checked, s.startCheck with
        | true, some r => s.holdAtStart r
        | _, _ => s.beginWork st.work
    else s
  | [] => s

/-! ### Endings of operations -/

/-- The reason of a step that a refused flash fails (R142). -/
def FlashReason.step : FlashReason → StepReason
  | .ceiling => .ceiling
  | .budget => .budget
  | .thermal => .thermal
  | .material => .material
  | .operator => .operator
  | .notCalibrated => .notCalibrated
  | .noVolume => .noVolume
  | .busy => .busy

/-- The result and reason of a CAPTURE step (R142). -/
def AttemptEnding.step : AttemptEnding → StepResult × Option StepReason
  | .lit .ok _ _ _ => (.done, none)
  | .lit _ _ _ _ => (.failed, some .capture)
  | .notLit r => (.failed, some r.reason.step)
  | .cameraNotReady _ => (.failed, some .cameraNotReady)
  | .platenFailed _ => (.failed, some .platen)
  | .noVolume => (.failed, some .noVolume)
  | .busy => (.failed, some .busy)

/-- The ending that a CAPTURE adds to its STEP_DONE (R148): an attempt refused BUSY was never taken and has none of
section 6.2.6 (notes 40). -/
def AttemptEnding.added : AttemptEnding → Option AttemptEnding
  | .busy => none
  | e => some e

/-- The ending of a CYCLE's attempt (R146). -/
def Core.cycleAttempt (e : AttemptEnding) (c : CycleProgress) (stop retakes : Nat) (s : Core) : Core :=
  match e with
  | .lit .ok _ _ _ => s.cycleTo { c with pos := .C, count := c.count + 1 }
  | .lit _ _ _ _ =>
    if c.lit + 1 < 1 + retakes then s.cycleTo { c with pos := .B, lit := c.lit + 1 }
    else s.endCycle .failed .capture { c with lit := c.lit + 1 } stop
  | .notLit r =>
    if r.reason = .ceiling then s.cycleTo { c with pos := .C }
    else s.endCycle .failed r.reason.step c stop
  | .cameraNotReady _ => s.endCycle .failed .cameraNotReady c stop
  | .platenFailed _ => s.endCycle .failed .platen c stop
  | .noVolume => s.endCycle .failed .noVolume c stop
  | .busy => s.endCycle .failed .busy c stop

/-- An attempt of the head step has ended (R142, R146). -/
def Core.stepAttempt (e : AttemptEnding) (s : Core) : Core :=
  if s.seq.op = some .attempt then
    let s := s.setOp none
    match s.headWork, s.seq.cycle with
    | some (.capture _ _), _ => s.endStep e.step.1 e.step.2 (.capture e.added)
    | some (.cycle stop retakes), some c => s.cycleAttempt e c stop retakes
    | _, _ => s
  else s

/-- A mark of the head step has ended (R144). -/
def Core.stepMark (seq : Option SeqNo) (s : Core) : Core :=
  if s.seq.op = some .mark then
    let s := s.setOp none
    match seq with
    | some n => s.endStep .done none (.mark (some n))
    | none => s.endPlain .failed .busy
  else s

/-- What a turn's outcome leads to (R143): the assistance awaited, or the reason of failure, or neither for a turn
that laid its leaf. -/
def TurnOutcome.step : TurnOutcome → Awaited ⊕ Option StepReason
  | .laid => .inr none
  | .foldout => .inl .manualTurn
  | .turnFailed => .inl .turnFailed
  | .vacuumLost => .inl .vacuumLost
  | .fault => .inr (some .fault)
  | .noVolume => .inr (some .noVolume)
  | .notReady => .inr (some .notReady)
  | .noReference => .inr (some .noReference)
  | .atEnd => .inr (some .atEnd)
  | .busy => .inr (some .busy)

/-- A turn of the head step has ended (R143, R145). -/
def Core.stepTurn (o : TurnOutcome) (s : Core) : Core :=
  if s.seq.op = some .turn then
    let s := s.setOp none
    match o.step with
    | .inl k => s.awaitAssist k
    | .inr (some r) => s.endPlain .failed r
    | .inr none =>
      match s.headWork, s.seq.cycle with
      | some (.cycle _ _), some c => s.cycleTo { c with pos := .A }
      | _, _ => s.endStep .done none .none
  else s

/-- The clearing raise of the head CYCLE has ended (R145): the CYCLE keeps awaiting the hand turn, between operations. In
HALTING, which a RESUME and a HALT during the raise lead to, it stops there, HELD with reason HALT (R150); in RUNNING,
which a RESUME alone leads to, it is held again with reason ASSIST, as position D has it (notes 21). -/
def Core.stepRaised (s : Core) : Core :=
  if s.seq.op = some .raise then
    let s := s.setOp none
    match s.seq.state with
    | .held => s
    | .halting => s.setHold .halt
    | _ => s.setHold .assist
  else s

/-! ### Holds and their release -/

/-- The three tests of RESUME (R152). -/
def Core.resumeTests (s : Core) : Option Status :=
  if s.faults ≠ [] then some (.refused .stillPresent)
  else if s.panel.broken then some (.refused .interlock)
  else if s.freeExceptions < 5 then some .full
  else none

/-- A turn asked for afresh, or a CYCLE taken to position A (R152). -/
def Core.takeOn (s : Core) : Core :=
  let s := (s.setAwaiting none).setSeq .running
  match s.headWork, s.seq.cycle with
  | some (.cycle _ _), some c => s.cycleTo { c with pos := .A }
  | _, _ => (s.setOp (some .turn)).askTurn

/-- A hold released (R152). -/
def Core.release (s : Core) : Core :=
  let s := { s with seq := { s.seq with interlock := false } }
  if s.seq.queue = [] then s.setSeq .idle
  else if s.seq.started = false then (s.setSeq .running).signal .startHead
  else if s.headBusy then (((s.setSeq .running).liftMark).motionResume).runPause
  else match s.seq.awaiting with
    | some .turnFailed => s.endPlain .failed .turn
    | some _ => s.takeOn
    | none =>
      match s.seq.cycle with
      | some c => (s.setSeq .running).cycleTo c
      | none => s.setSeq .running

/-- A hand-turn confirmation (R153). -/
def Core.confirmTurn (s : Core) : Core :=
  match s.seq.awaiting with
  | some _ =>
    let s := s.setAwaiting none
    let s := match s.headWork, s.seq.cycle with
      | some (.cycle _ _), some c => s.setCycle { c with pos := .A }
      | _, _ => s.endStep .done (some .manualTurn) .none
    match s.resumeTests with
    | none => if s.seq.state = .held then s.release else s
    | some _ => s
  | none => s

/-- HALT (R150). -/
def Core.halt (s : Core) : Core :=
  match s.seq.state with
  | .idle => s.setHold .halt
  | .running => if s.seq.op.isSome then s.setSeq .halting else s.setHold .halt
  | _ => s

/-- A curtain break at the sequencer (R149). -/
def Core.seqBreak (s : Core) : Core :=
  match s.seq.state with
  | .running => s.holdInterlock
  | .halting => s.holdInterlock
  | _ => s

/-- The steps of a list reported CANCELLED in order (R151, R154); the head of the queue carries its CYCLE's count. -/
def Core.reportCancelled (reason : StepReason) (count : Nat) (s : Core) : List Step → Core
  | [] => s
  | st :: rest =>
    Core.reportCancelled reason 0 (s.reportStep st .cancelled (some reason) (st.work.extra count)) rest

/-- ABORT (R151): the units' abort actions, the cancelled steps, and the state that follows. -/
def Core.abort (s : Core) : Core :=
  let s := s.markAborting.motionAbort.illumAbort.captureAbort
  let steps := s.seq.queue
  let count := s.cycleCount
  let s := { s with seq := { s.seq with queue := [], interlock := false }.noProgress }
  let s := s.reportCancelled .abort count steps
  if s.faults = [] then s.setSeq .idle else s.setHold .fault

/-- The steps that STEP_FLUSH cancels and those it keeps (R154). -/
def Sequencer.flushSplit (q : Sequencer) : List Step × List Step :=
  match q.queue with
  | st :: rest => if q.started then ([st], rest) else ([], st :: rest)
  | [] => ([], [])

end Sys2Proof.Machine
end

