-- ==== Sys2Proof/Machine/Settle.lean ====
section
/-! DEFINITION. The answers that units hand one another inside one command, taken up in order until none is left. -/

namespace Sys2Proof.Machine

/-- One answer taken by the unit that asked. -/
def Core.handle (g : Signal) (s : Core) : Core :=
  match g with
  | .startHead => s.startHead
  | .platenDown => s.attemptPlatenDown
  | .platenFailed r => s.attemptPlatenFailed r
  | .flashRefused r => s.attemptRefused r
  | .attemptEnded e => s.stepAttempt e
  | .markEnded seq => s.stepMark seq
  | .turnEnded o => s.stepTurn o
  | .raiseEnded _ => s.stepRaised

/-- The answers taken up in order, each leaving what it hands on at the end. A chain ends within a few answers for
each of the 16 steps; the first argument bounds it. -/
def Core.settleWithin : Nat → Core → Core
  | 0, s => s
  | n + 1, s =>
    match s.sig with
    | [] => s
    | g :: rest => Core.settleWithin n ({ s with sig := rest }.handle g)

/-- All answers taken up. They come after the whole of the unit's own change, the grant at a completion included, so a
request posted by one of them is taken after that grant (R54): DESIGN CHOICE (notes 36). -/
def Core.settle (s : Core) : Core := s.settleWithin 256

end Sys2Proof.Machine
end

