-- ==== Sys2Proof/Machine/LinkPort.lean ====
section
/-! DEFINITION. The link port and the activity counters at the end of a command: what the blocks have handed over is
taken in (R181, R190, R194), the transmitter takes the next frame (R193), and a request enters the pending-reply
list (R190). The check of R189 and the receive parser of R188. -/

namespace Sys2Proof.Machine

/-! ### Reports and replies -/

/-- A report added to the queue, or dropped and counted when it holds 32 (R194). -/
def Link.push (r : Report) (l : Link) : Link :=
  if l.reports.length < 32 then { l with reports := l.reports ++ [r] }
  else { l with droppedReports := bump l.droppedReports }

/-- A reply formed for the entry it belongs to (R190); with no such entry it is discarded (R195). -/
def Link.form (entry : Nat) (r : Reply) (l : Link) : Link :=
  { l with pending := l.pending.map fun p => if p.id = entry then { p with reply := some r } else p }

/-- The formed reply whose request was taken earliest (R193). -/
def Link.firstFormed (l : Link) : Option TxFrame :=
  l.pending.findSome? fun p => p.reply.map fun r => .reply p.id p.kind p.tag r

/-- The transmitter, when idle, takes the earliest formed reply, or else the oldest report, which leaves the queue
(R193, R194). -/
def Link.pump (l : Link) : Link :=
  match l.tx with
  | some _ => l
  | none =>
    match l.firstFormed, l.reports with
    | some f, _ => { l with tx := some f }
    | none, r :: rest => { l with tx := some (.report r), reports := rest }
    | none, [] => l

/-! ### Counters -/

/-- An addition that stops at 2^32 - 1 and then sets the overflow flag (R183). -/
def Counter.add (n : Nat) (c : Counter) : Counter :=
  if c.value + n ≤ max32 then { c with value := c.value + n }
  else { c with value := max32, overflow := true }

/-- A sample compared with the threshold (R182). -/
def Counter.compare (sample : Int) (c : Counter) : Counter :=
  let holds := decide (c.threshold ≤ sample) != c.invert
  let c' := if holds && !(c.edge && c.memory) then c.add 1 else c
  { c' with memory := holds }

/-- An event taken by one counter (R181, R182, R184). -/
def Counter.take (e : CounterEvent) (sample : Int) (c : Counter) : Counter :=
  if c.enable && c.event == e then
    match e with
    | .flashLux => c.compare sample
    | .tempSamples => c.compare sample
    | .queueDepth => if c.threshold = 0 then c.add sample.toNat else c.compare sample
    | _ => c.add 1
  else c

/-! ### The end of a command -/

/-- One message taken by the link port. -/
def Link.take (l : Link) : Out → Link
  | .report r => l.push r
  | .reply e r => l.form e r
  | .count _ _ => l

/-- One message taken by the counters. -/
def takeCounts (cs : Vector Counter 4) : Out → Vector Counter 4
  | .count e n => cs.map fun c => c.take e n
  | _ => cs

/-- The messages of a command handed over, and the transmitter given its next frame. -/
def State.commit (s : State) : State :=
  { s with
    core := { s.core with out := [], sig := [] }
    link := (s.core.out.foldl Link.take s.link).pump
    counters := s.core.out.foldl takeCounts s.counters }

/-- A change of the blocks carried out to its end: its answers taken up and its messages handed over. A request that an
answer brings about at a completion is taken after the grant that the completion has made (R54): DESIGN CHOICE
(notes 36). -/
def State.run (f : Core → Core) (s : State) : State :=
  { s with core := (f { s.core with out := [], sig := [] }).settle }.commit

/-- An event of the station's lines or timers, at its instant (notes 2). -/
def State.event (us : Nat) (f : Core → Core) (s : State) : State := s.run fun c => f (c.atUs us)

/-! ### Requests -/

/-- The parser back in HUNT (R188). -/
def Parser.hunt : Parser := { phase := .hunt, buf := [] }

/-- The clock at the instant of a command. -/
def State.clock (us : Nat) (s : State) : State := { s with core := s.core.atUs us }

/-- A request frame taken (R190): it is discarded and counted when 16 entries wait, and otherwise its entry is added
and it is handed to `owner` with the entry's id. No byte is taken while the line is held in break (R195). -/
def State.accept (us : Nat) (kind tag : Byte) (owner : Nat → State → State) (s : State) : State :=
  let s := s.clock us
  if s.link.lineBroken then s
  else
    let s := { s with link := { s.link with parser := Parser.hunt } }
    if 16 ≤ s.link.pending.length then
      { s with link := { s.link with droppedRequests := bump s.link.droppedRequests } }
    else
      let id := s.link.nextEntry
      owner id { s with link := { s.link with
        pending := s.link.pending ++ [{ id := id, kind := kind, tag := tag, reply := none }]
        nextEntry := id + 1 } }

/-- A request of a known kind: answered BAD_FIELD 0 when its payload has another length than its fields make up
(R190), and otherwise handed to its owner. -/
def State.request (q : Req) (kind : Byte) (owner : Nat → State → State) (s : State) : State :=
  s.accept q.us kind q.tag fun id s =>
    if q.lengthOk then owner id s else s.run (Core.reply id (.badField 0) .empty)

/-- A request whose owner is one of the blocks. -/
def State.ask (q : Req) (kind : Byte) (f : Nat → Core → Core) (s : State) : State :=
  s.request q kind fun id s => s.run (f id)

/-! ### The frame check and the receive parser -/

/-- One bit of the check register shifted (R189). -/
def crcShift (r : BitVec 16) : BitVec 16 := if r.getLsbD 15 then (r <<< 1) ^^^ 0x1021#16 else r <<< 1

/-- One byte fed into the check register, most significant bit first (R189). -/
def crcByte (r : BitVec 16) (b : Byte) : BitVec 16 :=
  (List.range 8).foldl (fun r _ => crcShift r) (r ^^^ (b.setWidth 16 <<< 8))

/-- The check of the bytes from the first length byte to the last payload byte (R189). -/
def frameCheck (bs : List Byte) : BitVec 16 := bs.foldl crcByte 0xFFFF#16

/-- The bytes of a frame that its check covers (section 11.6). -/
def frameBody (kind tag : Byte) (payload : List Byte) : List Byte :=
  [BitVec.ofNat 8 payload.length, BitVec.ofNat 8 (payload.length / 256), kind, tag] ++ payload

/-- The parser after some bytes, with the fragments they counted and whether they completed a frame. -/
structure Fed where
  parser : Parser
  fragments : Nat
  completed : Bool
deriving DecidableEq, Repr

/-- The payload length a partial frame has given. -/
def givenLength : List Byte → Nat
  | lo :: hi :: _ => lo.toNat + 256 * hi.toNat
  | _ => 0

/-- One byte taken by the parser (R188). -/
def Parser.feed (b : Byte) (p : Parser) : Fed :=
  let buf := p.buf ++ [b]
  match p.phase with
  | .hunt =>
    if b = 0xA5#8 then ⟨{ phase := .length, buf := [] }, 0, false⟩ else ⟨Parser.hunt, 0, false⟩
  | .length =>
    if buf.length < 2 then ⟨{ phase := .length, buf := buf }, 0, false⟩
    else if 1024 < givenLength buf then ⟨Parser.hunt, 1, false⟩
    else ⟨{ phase := .header, buf := buf }, 0, false⟩
  | .header =>
    if buf.length < 4 then ⟨{ phase := .header, buf := buf }, 0, false⟩
    else ⟨{ phase := if givenLength buf = 0 then .check else .payload, buf := buf }, 0, false⟩
  | .payload =>
    if buf.length < 4 + givenLength buf then ⟨{ phase := .payload, buf := buf }, 0, false⟩
    else ⟨{ phase := .check, buf := buf }, 0, false⟩
  | .check =>
    if buf.length < 6 + givenLength buf then ⟨{ phase := .check, buf := buf }, 0, false⟩
    else ⟨Parser.hunt, 0, true⟩

/-- Bytes taken one at a time. -/
def Parser.feedAll (p : Parser) (bs : List Byte) : Fed :=
  bs.foldl (fun f b =>
    let g := f.parser.feed b
    ⟨g.parser, f.fragments + g.fragments, f.completed || g.completed⟩) ⟨p, 0, false⟩

/-- A partial frame discarded and counted; in HUNT there is none (R188). -/
def Fed.discard (f : Fed) : Fed :=
  if f.parser.phase = .hunt then f else { f with parser := Parser.hunt, fragments := f.fragments + 1 }

/-- What the parser has made of bytes kept: its phase and the fragments counted. -/
def Link.keep (f : Fed) (l : Link) : Link :=
  { l with parser := f.parser, fragments := satAdd max32 l.fragments f.fragments }

/-! ### Link reset -/

/-- A link reset (R195): the parser, the report queue, the pending-reply list and the counts; a frame being sent goes
on. -/
def Link.reset (l : Link) : Link :=
  { l with parser := Parser.hunt, pending := [], reports := [], fragments := 0, checkErrors := 0,
           droppedReports := 0, droppedRequests := 0 }

end Sys2Proof.Machine
end

