-- ==== Sys2Proof/Decode.lean ====
section
/-! DEFINITION. Reading commands: a word of the operation table, and a whole received frame (section 11.6, R199).
The table gives its rows no bits, so no word spells a command. A frame whose check passes and whose kind is in the
catalogue is read into the command of its row, with its payload's length judged as R190 asks. -/

namespace Sys2Proof

open Machine

/-- The command that a word of the operation table spells: none, as the table gives its rows no bits (notes 1). -/
def decodeTableWord (_nbits _w : Nat) : Option Instr := none

/-! ### Fields of a payload -/

/-- A number from its bytes, the least significant first (section 11.6). -/
def fromBytes : List Byte → Nat
  | [] => 0
  | b :: bs => b.toNat + 256 * fromBytes bs

/-- A number of `n` bytes read as a signed one in two's complement (section 11.6). -/
def signed (n x : Nat) : Int := if x < 2 ^ (8 * n - 1) then x else (x : Int) - 2 ^ (8 * n)

/-- The numbers of a payload read with given widths; `ok` says that the payload has just those bytes (R190). -/
structure Fields where
  ok : Bool
  vals : List Nat
deriving DecidableEq, Repr

/-- The fields of a payload by their widths in bytes. -/
def readFields : List Nat → List Byte → Fields
  | [], p => ⟨p.isEmpty, []⟩
  | w :: ws, p =>
    let rest := readFields ws (p.drop w)
    ⟨decide (w ≤ p.length) && rest.ok, fromBytes (p.take w) :: rest.vals⟩

/-- A number of the payload, by its place. -/
def Fields.nat (f : Fields) (i : Nat) : Nat := f.vals.getD i 0

/-- A flag of the payload: 0 for false and 1 otherwise (R199). A byte of 2 to 255, for which R199 gives no code, is read as
1: DESIGN CHOICE (notes 49). -/
def Fields.flag (f : Fields) (i : Nat) : Bool := f.nat i != 0

/-- A presence or clear mask of the payload. -/
def Fields.mask (f : Fields) (i : Nat) : Mask := BitVec.ofNat 16 (f.nat i)

/-- A signed number of 2 or 4 bytes. -/
def Fields.int (f : Fields) (i n : Nat) : Int := signed n (f.nat i)

/-- A text: a count byte, then its characters (R199); the rest of the payload after it. -/
def takeText (p : List Byte) : Option (List Byte × List Byte) :=
  match p with
  | [] => none
  | c :: rest => if c.toNat ≤ rest.length then some (rest.take c.toNat, rest.drop c.toNat) else none

/-- Segments of 7 bytes each (R199), as many as `n`, with nothing after them. -/
def takeSegments : Nat → List Byte → Option (List SegmentSpec)
  | 0, [] => some []
  | 0, _ :: _ => none
  | n + 1, p =>
    let f := readFields [1, 1, 2, 2, 1] (p.take 7)
    match takeSegments n (p.drop 7) with
    | some gs =>
      if f.ok then
        some ({ kind := f.nat 0, style := f.nat 1, first := f.nat 2, last := f.nat 3, foldout := f.flag 4 } :: gs)
      else none
    | none => none

/-- A segment list: a count byte, then the segments, to the end of the payload (R199). -/
def readSegments (p : List Byte) : Option (List SegmentSpec) :=
  match p with
  | [] => none
  | c :: rest => takeSegments c.toNat rest

/-! ### Requests -/

/-- The seven fields of a lamp setting, from a place on (section 4.1.1). -/
def Fields.setting (f : Fields) (i : Nat) : Setting :=
  { cVU := f.nat i, cVL := f.nat (i + 1), cRU := f.nat (i + 2), cRL := f.nat (i + 3), d := f.nat (i + 4),
    eFloor := f.nat (i + 5), cV := f.nat (i + 6) }

/-- The widths of the seven fields. -/
def settingWidths : List Nat := [2, 2, 2, 2, 4, 4, 2]

/-- The eleven fields of a class that follow its name (section 1.2). -/
def Fields.cls (f : Fields) (name : List Byte) : ClassFields :=
  { name := name, eMat := f.nat 0, cOpen := f.nat 1, warn := f.int 2 2, limit := f.int 3 2, maxAngle := f.nat 4,
    vacuum := f.nat 5, puff := f.nat 6, retryLimit := f.nat 7, openFloor := f.nat 8, singleFloor := f.nat 9,
    force := f.nat 10 }

/-- The widths of those eleven. -/
def classWidths : List Nat := [4, 4, 2, 2, 1, 1, 2, 1, 2, 2, 2]

/-- How a request is taken, as its payload's length stands. -/
abbrev Taking := Bool → Req

/-- CLASS_SET: class; mask; name and the eleven fields after it. -/
def readClassSet (q : Taking) (p : List Byte) : Instr :=
  let h := readFields [1, 2] (p.take 3)
  match takeText (p.drop 3) with
  | some (name, rest) =>
    let f := readFields classWidths rest
    .classSet (q (h.ok && f.ok)) (h.nat 0) (h.mask 1) (f.cls name)
  | none => .classSet (q false) 0 0 ((readFields classWidths []).cls [])

/-- VOLUME_ADD: shelf-mark; class; budget; mask; p; segment list. -/
def readVolumeAdd (q : Taking) (p : List Byte) : Instr :=
  match takeText p with
  | some (shelf, rest) =>
    let h := readFields [1, 6, 2, 1] (rest.take 10)
    match readSegments (rest.drop 10) with
    | some gs => .volumeAdd (q h.ok) shelf (h.nat 0) (h.nat 1) (h.mask 2) (h.nat 3) gs
    | none => .volumeAdd (q false) [] 0 0 0 0 []
  | none => .volumeAdd (q false) [] 0 0 0 0 []

/-- VOLUME_SET: slot; mask; budget; p; class; segment list. -/
def readVolumeSet (q : Taking) (p : List Byte) : Instr :=
  let h := readFields [1, 2, 6, 1, 1] (p.take 11)
  match readSegments (p.drop 11) with
  | some gs => .volumeSet (q h.ok) (h.nat 0) (h.mask 1) (h.nat 2) (h.nat 3) (h.nat 4) gs
  | none => .volumeSet (q false) 0 0 0 0 0 []

/-- CALIBRATE: channel; mask; the channel's fields, T's of 2 bytes, F's of 4 and 2, P's of 4 and G's one of 4. The
fields of a channel that is none of the four have no length, so none is asked of them (notes 13). -/
def readCalibrate (q : Taking) (p : List Byte) : Instr :=
  match (readFields [1] (p.take 1)).nat 0 with
  | 0 => let f := readFields [1, 2, 4, 4] p; .calibrate (q f.ok) 0 (f.mask 1) (f.int 2 4) (f.nat 3)
  | 1 => let f := readFields [1, 2, 4] p; .calibrate (q f.ok) 1 (f.mask 1) (f.int 2 4) 0
  | 2 => let f := readFields [1, 2, 4, 2] p; .calibrate (q f.ok) 2 (f.mask 1) (f.int 2 4) (f.nat 3)
  | 3 => let f := readFields [1, 2, 2, 2] p; .calibrate (q f.ok) 3 (f.mask 1) (f.int 2 2) (f.nat 3)
  | c => .calibrate (q (decide (3 ≤ p.length))) c 0 0 0

/-- The parameters of a step by its kind, with whether they have their length (R136, R199); step kinds are coded in
the order CYCLE, LIGHT, CAPTURE, TURN, MARK, PAUSE (notes 11). A kind outside the six has no length (notes 13). -/
def readWork (kind : Nat) (p : List Byte) : Bool × StepSpec :=
  match kind with
  | 0 => let f := readFields [2, 1] p; (f.ok, .cycle (f.nat 0) (f.nat 1))
  | 1 => let f := readFields (2 :: settingWidths) p; (f.ok, .light (f.mask 0) (f.setting 1))
  | 2 => let f := readFields [1, 1] p; (f.ok, .capture (f.nat 0) (f.nat 1))
  | 3 => (p.isEmpty, .turn)
  | 4 => let f := readFields [2] p; (f.ok, .mark (f.nat 0))
  | 5 => let f := readFields [4] p; (f.ok, .pause (f.nat 0))
  | k => (true, .unknown k)

/-- STEP_QUEUE: kind; guard flag, condition, required value; parameters. -/
def readStepQueue (q : Taking) (p : List Byte) : Instr :=
  let h := readFields [1, 1, 1, 1] (p.take 4)
  let w := readWork (h.nat 0) (p.drop 4)
  .stepQueue (q (h.ok && w.1)) w.2 (if h.flag 1 then some { cond := h.nat 2, want := h.flag 3 } else none)

/-- A request with no fields. -/
def readBare (q : Taking) (p : List Byte) (i : Req → Instr) : Instr := i (q p.isEmpty)

/-- A request whose fields have fixed widths. -/
def readFixed (q : Taking) (p : List Byte) (widths : List Nat) (i : Req → Fields → Instr) : Instr :=
  let f := readFields widths p
  i (q f.ok) f

/-- VIEW: ON or OFF (section 11.5). -/
def readView (q : Taking) (p : List Byte) : Instr :=
  readFixed q p [1] fun r f => if f.flag 0 then .viewOn r else .viewOff r

/-- FAULT_CLEAR: a kind, or ALL, whose code follows the kinds' (notes 11). -/
def readFaultClear (q : Taking) (p : List Byte) : Instr :=
  readFixed q p [1] fun r f => if f.nat 0 = 7 then .faultClearAll r else .faultClear r (f.nat 0)

/-- A request by its kind (section 11.5); none for a kind outside the catalogue. -/
def readRequest (kind : Nat) (q : Taking) (p : List Byte) : Option Instr :=
  match kind with
  | 0x01 => some (readBare q p .identify)
  | 0x02 => some (readFixed q p [1] fun r f => .linkStatus r (f.flag 0))
  | 0x03 => some (readBare q p .statusGet)
  | 0x04 => some (readBare q p .stationReset)
  | 0x05 => some (readBare q p .linkReset)
  | 0x10 => some (readClassSet q p)
  | 0x11 => some (readVolumeAdd q p)
  | 0x12 => some (readFixed q p [1, 2, 2, 1] fun r f => .volumeMount r (f.nat 0) (f.mask 1) (f.nat 2) (f.nat 3))
  | 0x13 => some (readFixed q p [1] fun r f => .volumeUnmount r (f.nat 0))
  | 0x14 => some (readFixed q p [1, 1] fun r f => .volumeClose r (f.nat 0) (f.flag 1))
  | 0x15 => some (readFixed q p [1] fun r f => .volumeWithdraw r (f.nat 0))
  | 0x16 => some (readFixed q p [1] fun r f => .volumeRemove r (f.nat 0))
  | 0x17 => some (readVolumeSet q p)
  | 0x18 => some (readFixed q p [1, 2, 2] fun r f => .volumeGet r (f.nat 0) (f.mask 1) (f.nat 2))
  | 0x19 => some (readFixed q p [2] fun r f => .cursorSet r (f.nat 0))
  | 0x1A => some (readFixed q p [1, 1] fun r f => .exceptionsTake r (f.nat 0) (f.nat 1))
  | 0x20 => some (readFixed q p (2 :: settingWidths) fun r f => .lightStage r (f.mask 0) (f.setting 1))
  | 0x21 => some (readFixed q p [4] fun r f => .limitsSet r (f.nat 0))
  | 0x22 => some (readFixed q p [2, 4, 4, 4, 4, 2] fun r f =>
      .lampsCalibrate r (f.mask 0)
        { nVU := f.nat 1, nVL := f.nat 2, nRU := f.nat 3, nRL := f.nat 4, nView := f.nat 5 })
  | 0x23 => some (readBare q p .calibrationFlash)
  | 0x24 => some (readView q p)
  | 0x28 => some (readCalibrate q p)
  | 0x29 => some (readFixed q p [1] fun r f => .measure r (f.nat 0))
  | 0x30 => some (readBare q p .home)
  | 0x31 => some (readFixed q p [1] fun r f => .angleSet r (f.nat 0))
  | 0x38 => some (readFixed q p [1] fun r f => .captureDrain r (f.nat 0))
  | 0x39 => some (readFixed q p [1] fun r f => .capturePeek r (f.nat 0))
  | 0x3A => some (readFixed q p [2] fun r f => .framesSet r (f.nat 0))
  | 0x40 => some (readStepQueue q p)
  | 0x41 => some (readFixed q p [2, 2] fun r f => .stopSet r (f.nat 0) (f.nat 1))
  | 0x42 => some (readBare q p .halt)
  | 0x43 => some (readBare q p .abort)
  | 0x44 => some (readBare q p .resume)
  | 0x45 => some (readBare q p .stepFlush)
  | 0x46 => some (readFaultClear q p)
  | 0x48 => some (readFixed q p [1] fun r f => .panelSet r (f.nat 0))
  | 0x50 => some (readFixed q p [1, 2, 1, 1, 4, 1, 1] fun r f =>
      .counterSet r (f.nat 0) (f.mask 1) (f.flag 2) (f.nat 3) (f.int 4 4) (f.flag 5) (f.flag 6))
  | 0x51 => some (readFixed q p [2] fun r f => .counterGet r (f.mask 0))
  | 0x52 => some (readFixed q p [4, 4, 4, 4] fun r f => .bandsSet r (f.nat 0) (f.nat 1) (f.nat 2) (f.nat 3))
  | _ => none

/-- The command that a whole received frame is, at an instant: CHECK_ERROR when its check fails (R189), the request of
its kind, or UNKNOWN_KIND (R190). -/
def decodeFrame (us : Nat) (f : RxFrame) : Instr :=
  if frameCheck (frameBody f.kind f.tag f.payload) ≠ f.check then .checkError us f
  else
    (readRequest f.kind.toNat (fun ok => { us := us, tag := f.tag, lengthOk := ok }) f.payload).getD
      (.unknownKind us f.kind f.tag)

end Sys2Proof
end

