-- ==== Sys2Proof/Machine/Resets.lean ====
section
/-! DEFINITION. The power-on reset (R6, R68, R91, R114, R133, R155, R177, R180, R195) and the station reset (R6, R68,
R91, R114, R133, R155, R177, R198). -/

namespace Sys2Proof.Machine

/-! ### Station reset -/

/-- The dose record of a flash that the reset ends, kept for the record of its attempt (R133). -/
def Core.keepDose (p : Core × DoseRecord) : Core :=
  match p.1.cap.attempt with
  | some a => { p.1 with cap := { p.1.cap with attempt := some { a with dose := some p.2 } } }
  | none => p.1

/-- The sequence number of the attempt in hand. -/
def Core.attemptSeq (s : Core) : SeqNo :=
  match s.cap.attempt with
  | some a => a.seq
  | none => 0

/-- A flash past its lamp-off is handed on with a faulted window (R79, R91). -/
def Core.resetClosing (s : Core) : Core :=
  match s.illum.closing with
  | some f =>
    match f.by_, f.adm with
    | .capture _, some adm =>
      Core.keepDose ({ s with illum := { s.illum with closing := none } }.chargeWindow adm none s.attemptSeq)
    | _, _ => s.handWindow none
  | none => s

/-- The lifecycle with no flash in hand (R91): RECOVERING within 150 ms of the last lamp-off. -/
def Core.lifeAfterReset (s : Core) : Lifecycle :=
  match s.illum.lampOffAt with
  | some t => if s.due t 150 then s.restLife else .recovering
  | none => s.restLife

/-- The flash in hand ended as ABORT does (R90, R91); a lit one is charged for the time it was lit.
The body of an unlit calibration flash's reply is DESIGN CHOICE (notes 38). -/
def Core.resetFlash (s : Core) : Core :=
  match s.illum.flash with
  | some f =>
    let t := s.now - f.litAt
    let off := { s with illum := { s.illum with flash := none } }
    let dark := { off with illum := { off.illum with lampOffAt := some s.now } }
    match s.illum.life, f.by_, f.adm with
    | .lit, .capture _, some adm => Core.keepDose (dark.chargeAborted adm t s.attemptSeq)
    | .lit, .calibration e, some adm =>
      (dark.tellFlash adm.eApp adm.dimmed adm.cause).reply e .done (.calFlash (.aborted (some adm) (min t adm.d)))
    | _, .calibration e, adm => off.reply e .done (.calFlash (.aborted adm 0))
    | _, _, _ => off
  | none => s

/-- The illumination unit at a station reset (R91). -/
def Core.resetIllum (s : Core) : Core :=
  let s := s.resetClosing.resetFlash
  let s := s.withView fun v => { v with wanted := false, suppressed := false }
  { s with illum := { s.illum with life := s.lifeAfterReset } }

/-- The capture control unit at a station reset (R133): a lit attempt writes its record with outcome ABORTED. -/
def Core.resetCapture (s : Core) : Core :=
  let s := match s.cap.attempt with
    | some a =>
      match a.phase.unlit, a.dose with
      | false, some dose => s.recordAttempt a .aborted dose
      | _, _ => s
    | none => s
  { s with cap := { s.cap.toIdle with mark := none } }

/-- The cradle motion unit at a station reset (R114). The reply of a homing is formed before the axes become
UNREFERENCED (notes 39). -/
def Core.resetMotion (s : Core) : Core :=
  let s := s.breakHoming .aborted
  let s := if s.motion.angle = .moving then s.angleStopped else s
  { s with motion := { s.motion with
      platen := .unreferenced, settle := none, forceRaise := false, stepRaise := false, platenFailed := false,
      angle := .unreferenced, angleTarget := none, angleFailed := false, arm := .unreferenced, armFailed := false,
      puff := none, turn := none, turnWait := none, lowerHeld := false, homing := none } }

/-- The requesters of a pending entry. -/
def waiters : Option PendingConv → List Requester
  | some e => e.requesters
  | none => []

/-- Every requester of the conversion in progress and of the pending set. -/
def Measure.allWaiting (m : Measure) : List Requester :=
  (match m.conv with
    | some c => c.requesters
    | none => []) ++ waiters m.pending.p ++ waiters m.pending.g ++ waiters m.pending.f ++ waiters m.pending.t

/-- A MEASURE dropped by a station reset (R68). -/
def Core.dropMeasure (s : Core) : Requester → Core
  | .measure e => s.reply e (.refused .state) .empty
  | _ => s

/-- The measurement unit at a station reset (R68). -/
def Core.resetMeasure (s : Core) : Core :=
  let s := s.meas.allWaiting.foldl Core.dropMeasure s
  let s := { s with meas := { s.meas with conv := none, pending := ⟨none, none, none, none⟩ } }
  if s.meas.cal.t.isSome then
    { s with meas := { s.meas with timer := some s.now } }.post .T .spot .timer
  else s

/-- The step sequencer at a station reset (R155). -/
def Core.resetSequencer (s : Core) : Core :=
  { s with sig := [], seq :=
      { s.seq with queue := [], state := .idle, reason := none, interlock := false }.noProgress }

/-- The blocks at a station reset; the fault set is emptied first, so that no entry is judged by it (R177). -/
def Core.stationReset (s : Core) : Core :=
  { s with faults := [], first := none }.resetIllum.resetCapture.resetMotion.resetMeasure.resetSequencer

/-! ### Power-on -/

/-- A camera at power-on with its lines at the levels they stand at. -/
def CameraState.restart (c : CameraState) : CameraState :=
  { CameraState.powerOn with ready := c.ready, fault := c.fault }

/-- An input at power-on with its raw level as it stands. -/
def InputState.restart (i : InputState) : InputState := { InputState.powerOn with raw := i.raw }

/-- The blocks at power-on, with the station's input lines at the levels they stand at: a reset does not move them
(notes 4). The count of free values goes on, so that none comes twice (notes 5). -/
def Core.restart (s : Core) : Core :=
  { Core.powerOn with
    free := s.free
    motion := { Motion.powerOn with vacuumAt := s.motion.vacuumAt }
    cap := { Capture.powerOn with camV := s.cap.camV.restart, camR := s.cap.camR.restart }
    panel := { Panel.powerOn with
      inputs := ⟨s.panel.inputs.advance.restart, s.panel.inputs.retake.restart, s.panel.inputs.turned.restart,
        s.panel.inputs.back.restart, s.panel.inputs.hold.restart, s.panel.inputs.cont.restart⟩
      rawBroken := s.panel.rawBroken
      clearSince := if s.panel.rawBroken then none else some 0 } }

end Sys2Proof.Machine
end

