-- ==== Sys2Proof/Machine/LinkCommands.lean ====
section
/-! DEFINITION. The commands of the link port: IDENTIFY, LINK_STATUS, STATUS_GET, STATION_RESET, LINK_RESET, what the
receive line brings that is no request (R188 to R190, R195), FRAME_SENT (R193), and POWER_ON. -/

namespace Sys2Proof.Machine

open Host (Outcome)

/-- The answer of a command: each ends in a next state. -/
abbrev Result' := Outcome State Fault Refusal

/-- The kinds of the catalogue (section 11.5). -/
def catalogue : List Nat :=
  [0x01, 0x02, 0x03, 0x04, 0x05, 0x10, 0x11, 0x12, 0x13, 0x14, 0x15, 0x16, 0x17, 0x18, 0x19, 0x1A, 0x20, 0x21, 0x22,
    0x23, 0x24, 0x28, 0x29, 0x30, 0x31, 0x38, 0x39, 0x3A, 0x40, 0x41, 0x42, 0x43, 0x44, 0x45, 0x46, 0x48, 0x50, 0x51,
    0x52]

/-- POWER_ON: every block at its power-on state and the link port as after a link reset (R155, R195), a receive line still
held in break included: DESIGN CHOICE (notes 4). -/
def execPowerOn (s : State) : Result' :=
  .next { core := s.core.restart, link := Link.powerOn, counters := Vector.replicate 4 Counter.powerOn,
          pending := s.pending }

/-- IDENTIFY (R196). -/
def execIdentify (q : Req) (s : State) : Result' := .next (s.ask q 0x01 fun id c => c.reply id .done .identity)

/-- LINK_STATUS (R196): the four counts, and their clearing in the same moment. -/
def execLinkStatus (q : Req) (clear : Bool) (s : State) : Result' :=
  .next (s.request q 0x02 fun id s =>
    let l := s.link
    let body : Body := .linkCounts l.fragments l.checkErrors l.droppedReports l.droppedRequests
    let s := if clear then
        { s with link := { l with fragments := 0, checkErrors := 0, droppedReports := 0, droppedRequests := 0 } }
      else s
    s.run fun c => c.reply id .done body)

/-- The channels with a pending entry. -/
def Measure.pendingChannels (m : Measure) : List Channel := channelCodes.filter fun c => (m.pending.get c).isSome

/-- The picture that STATUS_GET returns (R197). The angle reached in the middle of a move is a free value (R96,
notes 5). -/
def Core.statusBody (reportDepth : Nat) (s : Core) : StatusBody :=
  { seqState := s.seq.state, reason := s.seq.reason, awaiting := s.seq.awaiting, suspended := s.headBusy,
    assist := s.assistKinds, depth := s.seq.queue.length,
    head := s.seq.queue.head?.map fun st => (st.id, st.work.kind), nextId := s.seq.nextId, word := s.word,
    mounted := s.mounted.map fun m => (m.1.val, m.2.cursor, s.dose.aOpen.getD 0),
    platen := s.motion.platen, angle := s.motion.angle, arm := s.motion.arm,
    failedMarks := (s.motion.platenFailed, s.motion.angleFailed, s.motion.armFailed),
    valveOpen := s.motion.valveOpen, vacuumAt := s.motion.vacuumAt,
    anglePos := if s.motion.angle = .moving then some (Config.angleInMotion s.free) else s.motion.anglePos,
    angleTarget := s.motion.angleTarget, cRef := s.motion.cRef, turn := s.motion.turn, turnStage := s.motion.stage,
    turnWait := s.motion.turnWait, lowerHeld := s.motion.lowerHeld, homing := s.motion.homing.map (·.phase),
    life := s.illum.life, hold := s.illum.hold, viewState := s.illum.view.state, view := s.illum.view,
    staged := s.illum.staged, active := s.illum.active, eOp := s.illum.eOp, latch := s.meas.latch,
    conv := s.meas.conv.map fun c => (c.channel, c.kind), pendingConv := s.meas.pendingChannels,
    phase := match s.cap.attempt, s.cap.mark with
      | some a, _ => some a.phase
      | none, some _ => some .ringWait
      | none, none => none,
    camV := s.cap.camV, camR := s.cap.camR, ringCount := s.cap.ring.length, reserved := s.cap.reserved,
    nextSeq := s.cap.nextSeq, faults := s.faults, first := s.first, curtainBroken := s.panel.broken,
    readyLamp := s.readyLamp, assistLamp := s.assistLamp, lightLamp := s.lightLamp, reportDepth := reportDepth }

/-- The free value of a picture taken during an angle move is counted (notes 5). -/
def Core.countShown (s : Core) : Core := if s.motion.angle = .moving then { s with free := s.free + 1 } else s

/-- STATUS_GET (R197). -/
def execStatusGet (q : Req) (s : State) : Result' :=
  .next (s.request q 0x03 fun id s =>
    let depth := s.link.reports.length
    s.run fun c => c.countShown.reply id .done (.status (c.statusBody depth)))

/-- STATION_RESET (R198): the reply is formed after those of the requests that the reset ends. -/
def execStationReset (q : Req) (s : State) : Result' :=
  .next (s.ask q 0x04 fun id c => c.stationReset.reply id .done .empty)

/-- LINK_RESET (R195): the reset first, then the request's own entry and its reply. -/
def execLinkReset (q : Req) (s : State) : Result' :=
  .next (s.request q 0x05 fun id s =>
    let l := s.link.reset
    let s := { s with link := { l with pending := [{ id := id, kind := 0x05, tag := q.tag, reply := none }] } }
    s.run fun c => c.reply id .done .empty)

/-- UNKNOWN_KIND (R190): a kind of the catalogue is not this row. -/
def execUnknownKind (us : Nat) (kind tag : Byte) (s : State) : Result' :=
  if catalogue.contains kind.toNat then .next (s.clock us)
  else .next (s.accept us kind tag fun id s => s.run fun c => c.reply id .unknownKind .empty)

/-- DROPPED_REQUEST (R190): it comes about only while 16 entries wait. -/
def execDroppedRequest (us : Nat) (kind tag : Byte) (s : State) : Result' :=
  if 16 ≤ s.link.pending.length then .next (s.accept us kind tag fun _ s => s) else .next (s.clock us)

/-- CHECK_ERROR (R188, R189): a frame whose check fails is discarded and counted; one whose check passes, or whose
length a frame cannot have, is not this row. -/
def execCheckError (us : Nat) (frame : RxFrame) (s : State) : Result' :=
  let s := s.clock us
  if s.link.lineBroken = false ∧ frame.payload.length ≤ 1024
      ∧ frameCheck (frameBody frame.kind frame.tag frame.payload) ≠ frame.check then
    .next { s with link := { s.link with parser := Parser.hunt, checkErrors := bump s.link.checkErrors } }
  else .next s

/-- FRAGMENT (R188): bytes that bring a length above 1,024, or end in a byte with its stop bit missing. Bytes that
complete a frame are not this row. -/
def execFragment (us : Nat) (bytes : List Byte) (cause : FragmentCause) (s : State) : Result' :=
  let s := s.clock us
  let f := s.link.parser.feedAll bytes
  if s.link.lineBroken || f.completed then .next s
  else
    match cause with
    | .lengthOver => .next { s with link := s.link.keep f }
    | .framingError => .next { s with link := s.link.keep f.discard }

/-- INTER_BYTE_GAP (R188): the partial frame is discarded and counted, and the byte that ends the gap is taken in
HUNT. -/
def execInterByteGap (us : Nat) (bytes : List Byte) (next : Byte) (s : State) : Result' :=
  let s := s.clock us
  let f := s.link.parser.feedAll bytes
  if s.link.lineBroken || f.completed then .next s
  else
    let f := f.discard
    .next { s with link := s.link.keep { f with parser := (f.parser.feed next).parser } }

/-- LINE_BREAK (R195): one link reset with no reply. -/
def execLineBreak (us : Nat) (s : State) : Result' :=
  let s := s.clock us
  if s.link.lineBroken then .next s else .next { s with link := { s.link.reset with lineBroken := true } }

/-- LINE_RETURN_TO_IDLE (R195): the parser takes bytes again. -/
def execLineReturnToIdle (us : Nat) (s : State) : Result' :=
  let s := s.clock us
  .next { s with link := { s.link with lineBroken := false } }

/-- The list without the entry whose reply has been sent (R190). -/
def Link.sent (l : Link) : Link :=
  match l.tx with
  | some (.reply id _ _ _) => { l with tx := none, pending := l.pending.filter fun p => p.id != id }
  | _ => { l with tx := none }

/-- FRAME_SENT (R190, R193): the line becomes free, the entry of a sent reply leaves the list, and the next frame is
taken. -/
def execFrameSent (us : Nat) (s : State) : Result' :=
  let s := s.clock us
  .next { s with link := s.link.sent.pump }

end Sys2Proof.Machine
end

