-- ==== Sys2Proof/Machine/VolumeCommands.lean ====
section
/-! DEFINITION. The commands of the volume table (chapter 1): CLASS_SET, the volume requests, CURSOR_SET and
EXCEPTIONS_TAKE. Fields are numbered as the catalogue lists them, the presence mask not counted (R191). -/

namespace Sys2Proof.Machine

/-! ### CLASS_SET -/

/-- The fields of a class with their clamps (R5, section 1.2). -/
def classClamp (x : ClassFields) : ClassFields :=
  { name := x.name, eMat := clamp 500 200000 x.eMat, cOpen := clamp 1000 1000000000 x.cOpen,
    warn := clampInt (-400) 1990 x.warn, limit := min 2000 x.limit, maxAngle := clamp 80 180 x.maxAngle,
    vacuum := clamp 5 200 x.vacuum, puff := clamp 10 500 x.puff, retryLimit := min 3 x.retryLimit,
    openFloor := clamp 1 1000 x.openFloor, singleFloor := x.singleFloor, force := clamp 5 300 x.force }

/-- The class as it would stand: fields from the request where present, and from the class otherwise (R5). -/
def classMerge (m : Mask) (new old : ClassFields) : ClassFields :=
  { name := pick m 2 new.name old.name, eMat := pick m 3 new.eMat old.eMat, cOpen := pick m 4 new.cOpen old.cOpen,
    warn := pick m 5 new.warn old.warn, limit := pick m 6 new.limit old.limit,
    maxAngle := pick m 7 new.maxAngle old.maxAngle, vacuum := pick m 8 new.vacuum old.vacuum,
    puff := pick m 9 new.puff old.puff, retryLimit := pick m 10 new.retryLimit old.retryLimit,
    openFloor := pick m 11 new.openFloor old.openFloor, singleFloor := pick m 12 new.singleFloor old.singleFloor,
    force := pick m 13 new.force old.force }

/-- The mask of the present fields that the clamps change (R5). -/
def classClampMask (m : Mask) (x : ClassFields) : Mask :=
  let y := classClamp x
  maskOf [(3, hasField m 3 && x.eMat != y.eMat), (4, hasField m 4 && x.cOpen != y.cOpen),
    (5, hasField m 5 && x.warn != y.warn), (6, hasField m 6 && x.limit != y.limit),
    (7, hasField m 7 && x.maxAngle != y.maxAngle), (8, hasField m 8 && x.vacuum != y.vacuum),
    (9, hasField m 9 && x.puff != y.puff), (10, hasField m 10 && x.retryLimit != y.retryLimit),
    (11, hasField m 11 && x.openFloor != y.openFloor), (13, hasField m 13 && x.force != y.force)]

/-- The twelve field numbers of a class. -/
def classFieldNumbers : List Nat := [2, 3, 4, 5, 6, 7, 8, 9, 10, 11, 12, 13]

/-- The class is that of the mounted volume (R5). -/
def Core.classLocked (i : Fin 8) (s : Core) : Bool :=
  match s.volume with
  | some v => v.cls == i
  | none => false

/-- What CLASS_SET makes of the table's entry (R5): the class as it stands after the request with the mask of clamped
fields, or the field refused. -/
def classForm (m : Mask) (x : ClassFields) (old : Option ClassFields) : Except Nat (ClassFields × Mask) :=
  match (if old.isNone then firstAbsent m classFieldNumbers else none) with
  | some n => .error n
  | none =>
    if hasField m 2 && !nameOk x.name then .error 2
    else
      let y := classMerge m (classClamp x) (old.getD (classClamp x))
      if y.limit < y.warn + 10 then .error 6
      else if y.openFloor ≤ y.singleFloor then .error 12
      else match strayField m 13 with
        | some n => .error n
        | none => .ok (y, classClampMask m x)

/-- CLASS_SET at the volume table (R5). -/
def Core.classSet (id cls : Nat) (m : Mask) (x : ClassFields) (s : Core) : Core :=
  if h : cls < 8 then
    let i : Fin 8 := ⟨cls, h⟩
    if s.classLocked i then s.reply id (.refused .state) .empty
    else match classForm m x s.vols.classes[i] with
      | .error n => s.reply id (.badField n) .empty
      | .ok (y, clamped) =>
        { s with vols := { s.vols with classes := s.vols.classes.set i (some y) } }.reply id (doneStatus clamped) (.cls y)
  else s.reply id (.badField 1) .empty

/-- CLASS_SET (R5). -/
def execClassSet (q : Req) (cls : Nat) (mask : Mask) (fields : ClassFields) (s : State) : Result' :=
  .next (s.ask q 0x10 fun id c => c.classSet id cls mask fields)

/-! ### VOLUME_ADD -/

/-- A summary at VOLUME_ADD (R186). -/
def Summary.zero : Summary :=
  { below1 := 0, below2 := 0, below3 := 0, below4 := 0, above4 := 0, causeNone := 0, causeThermal := 0,
    causeDose := 0, causeMaterial := 0, causeOperator := 0, highestE := 0, highestT := none, viewMs := 0,
    estimated := 0 }

/-- A record as VOLUME_ADD makes it (R10). -/
def newVolume (inst : InstNo) (shelf : List Byte) (cls : Fin 8) (budget p : Nat) (segs : List Segment) : Volume :=
  { inst := inst, shelf := shelf, cls := cls, state := .registered, budget := budget, uF := 0, uV := 0, p := p,
    low := false, exhausted := false, segs := segs, cursor := 0, captured := [],
    tallies := { captured := 0, attempts := 0, retakes := 0, turns := 0, manualTurns := 0, doublePicks := 0 },
    exceptions := [], summary := Summary.zero }

/-- The lowest-numbered free slot (R10). -/
def Core.freeSlot (s : Core) : Option (Fin 16) := (List.finRange 16).find? fun i => (s.vols.slots[i]).isNone

/-- A shelf-mark is that of a record in the table (R9). -/
def Core.shelfTaken (t : List Byte) (s : Core) : Bool :=
  s.vols.slots.toList.any fun v => match v with
    | some v => v.shelf == t
    | none => false

/-- A budget in its range (R9). -/
def budgetClamp (b : Nat) : Nat := clamp 1 1000000000000 b

/-- The segment list of VOLUME_ADD, when its bit marks it present and it is accepted (R1, R9, R192; notes 34). -/
def addSegments (m : Mask) (segs : List SegmentSpec) : Option (List Segment) :=
  if hasField m 5 then acceptedSegments segs else none

/-- VOLUME_ADD at the volume table (R9, R10). Its mask governs p and the segment list, the fields that the catalogue
lists after it (notes 34). -/
def Core.volumeAdd (id : Nat) (shelf : List Byte) (cls budget : Nat) (m : Mask) (p : Nat) (segs : List SegmentSpec)
    (s : Core) : Core :=
  if !shelfOk shelf then s.reply id (.badField 1) .empty
  else if h : cls < 8 then
    match addSegments m segs, strayField m 5 with
    | none, _ => s.reply id (.badField 5) .empty
    | some _, some n => s.reply id (.badField n) .empty
    | some gs, none =>
      if s.vols.classes[cls] = none then s.reply id .notFound .empty
      else if s.shelfTaken shelf then s.reply id (.refused .duplicate) .empty
      else match s.freeSlot with
        | none => s.reply id .full .empty
        | some i =>
          if s.freeSegments < gs.length then s.reply id .full .empty
          else
            let inst := s.vols.instCount + 1
            let pTaken := pick m 4 (clamp 1 50 p) 10
            let clamped := maskOf [(3, budget != budgetClamp budget), (4, hasField m 4 && p != clamp 1 50 p)]
            let v := newVolume inst shelf ⟨cls, h⟩ (budgetClamp budget) pTaken gs
            ({ s with vols := { s.vols with instCount := inst } }.setSlot i (some v)).reply id (doneStatus clamped)
              (.added i.val inst)
  else s.reply id (.badField 2) .empty

/-- VOLUME_ADD (R9, R10). -/
def execVolumeAdd (q : Req) (shelf : List Byte) (cls budget : Nat) (mask : Mask) (p : Nat) (segs : List SegmentSpec)
    (s : State) : Result' :=
  .next (s.ask q 0x11 fun id c => c.volumeAdd id shelf cls budget mask p segs)

/-! ### Mounting -/

/-- The five latched conditions set false (R11). -/
def Latched.clear : Latched :=
  { turnOne := false, turnDouble := false, captureOk := false, captureDimmed := false, skipped := false }

/-- A volume mounted with a cursor (R11, R26, R82, R133). -/
def Core.mount (i : Fin 16) (cursor : Nat) (s : Core) : Core :=
  let s := s.editSlot i fun v => { v with cursor := cursor }
  { s with
    vols := { s.vols with mounted := some i }
    dose := { s.dose with aOpen := some 0 }
    cap := { s.cap with litCount := 0 }
    seq := { s.seq with latched := Latched.clear } }.thermalAtMount

/-- The angle that a mount asks for (R12). -/
def mountTarget (m : Mask) (angle : Nat) (c : ClassFields) : Nat :=
  if hasField m 3 then clamp 80 c.maxAngle angle else c.maxAngle

/-- VOLUME_MOUNT at the volume table (R11, R12). -/
def Core.volumeMount (id slot : Nat) (m : Mask) (start angle : Nat) (s : Core) : Core :=
  match s.record slot, strayField m 3 with
  | none, _ => s.reply id .notFound .empty
  | some _, some n => s.reply id (.badField n) .empty
  | some (i, v), none =>
    if v.state ≠ .registered ∨ s.vols.mounted ≠ none then s.reply id (.refused .state) .empty
    else match s.unquiet with
      | some st => s.reply id st .empty
      | none =>
        if s.motion.platen ≠ .up then s.reply id (.refused .state) .empty
        else match s.vols.classes[v.cls] with
          | none => s.reply id (.refused .state) .empty
          | some c =>
            let target := mountTarget m angle c
            let clamped := maskOf [(2, hasField m 2 && decide (v.leaves < start)),
              (3, hasField m 3 && angle != clamp 80 c.maxAngle angle)]
            ((s.mount i (pick m 2 (min start v.leaves) v.cursor)).mountAngle target).reply id (doneStatus clamped) .empty

/-- VOLUME_MOUNT (R11, R12). -/
def execVolumeMount (q : Req) (slot : Nat) (mask : Mask) (start angle : Nat) (s : State) : Result' :=
  .next (s.ask q 0x12 fun id c => c.volumeMount id slot mask start angle)

/-- The end of a mounting (R7, R26, R87, R88, R89): the view light is switched off first and its dose charged. -/
def Core.endMounting (s : Core) : Core :=
  let s := s.withView fun v => { v with wanted := false }
  { s with
    vols := { s.vols with mounted := none }
    dose := { aOpen := none, accrual := none }
    illum := { s.illum with view := { s.illum.view with suppressed := false, budget := false, ceiling := false } } }

/-- The slot is that of the mounted volume. -/
def Core.isMounted (i : Fin 16) (s : Core) : Bool := s.vols.mounted == some i

/-- VOLUME_UNMOUNT at the volume table (R13). -/
def Core.volumeUnmount (id slot : Nat) (s : Core) : Core :=
  match s.record slot with
  | none => s.reply id .notFound .empty
  | some (i, _) =>
    if s.isMounted i then
      match s.unquiet with
      | some st => s.reply id st .empty
      | none => s.endMounting.reply id .done .empty
    else s.reply id (.refused .state) .empty

/-- VOLUME_UNMOUNT (R13). -/
def execVolumeUnmount (q : Req) (slot : Nat) (s : State) : Result' :=
  .next (s.ask q 0x13 fun id c => c.volumeUnmount id slot)

/-! ### Closing, withdrawing and removing -/

/-- The record's state changed, after the end of its mounting when it is mounted (R7). -/
def Core.leaveFor (i : Fin 16) (st : RecordState) (s : Core) : Core :=
  let s := if s.isMounted i then s.endMounting else s
  s.editSlot i fun v => { v with state := st }

/-- The answer of the quiet condition for a request that needs it only on the mounted volume (R8). -/
def Core.unquietFor (i : Fin 16) (s : Core) : Option Status := if s.isMounted i then s.unquiet else none

/-- VOLUME_CLOSE at the volume table (R14). FORCED_CLOSE is appended before the mounting ends (notes 35). -/
def Core.volumeClose (id slot : Nat) (force : Bool) (s : Core) : Core :=
  match s.record slot with
  | none => s.reply id .notFound .empty
  | some (i, v) =>
    if v.state ≠ .registered then s.reply id (.refused .state) .empty
    else match s.unquietFor i with
      | some st => s.reply id st .empty
      | none =>
        let missing := v.leaves + 1 - v.captured.length
        if missing = 0 then (s.leaveFor i .complete).reply id .done .empty
        else if force = false then s.reply id (.refused .incomplete) .empty
        else if s.freeExceptions = 0 then s.reply id .full .empty
        else ((s.appendException i .forcedClose v.cursor missing none).leaveFor i .complete).reply id .done .empty

/-- VOLUME_CLOSE (R14). -/
def execVolumeClose (q : Req) (slot : Nat) (force : Bool) (s : State) : Result' :=
  .next (s.ask q 0x14 fun id c => c.volumeClose id slot force)

/-- VOLUME_WITHDRAW at the volume table (R15). -/
def Core.volumeWithdraw (id slot : Nat) (s : Core) : Core :=
  match s.record slot with
  | none => s.reply id .notFound .empty
  | some (i, v) =>
    if v.state = .withdrawn then s.reply id .done .empty
    else match s.unquietFor i with
      | some st => s.reply id st .empty
      | none => (s.leaveFor i .withdrawn).reply id .done .empty

/-- VOLUME_WITHDRAW (R15). -/
def execVolumeWithdraw (q : Req) (slot : Nat) (s : State) : Result' :=
  .next (s.ask q 0x15 fun id c => c.volumeWithdraw id slot)

/-- VOLUME_REMOVE at the volume table (R16). -/
def Core.volumeRemove (id slot : Nat) (s : Core) : Core :=
  match s.record slot with
  | none => s.reply id .notFound .empty
  | some (i, _) =>
    if s.isMounted i then s.reply id (.refused .state) .empty
    else (s.setSlot i none).reply id .done .empty

/-- VOLUME_REMOVE (R16). -/
def execVolumeRemove (q : Req) (slot : Nat) (s : State) : Result' :=
  .next (s.ask q 0x16 fun id c => c.volumeRemove id slot)

/-! ### VOLUME_SET -/

/-- The class that VOLUME_SET gives a record, or the refusal of the field (R17). -/
def Core.setClass (i : Fin 16) (m : Mask) (cls : Nat) (old : Fin 8) (s : Core) : Except Status (Fin 8) :=
  if hasField m 4 then
    if h : cls < 8 then
      if s.vols.classes[cls] = none then .error .notFound
      else if s.isMounted i then .error (.refused .state)
      else .ok ⟨cls, h⟩
    else .error (.badField 4)
  else .ok old

/-- The segment list that VOLUME_SET gives a record, or the refusal of the field (R17). -/
def Core.setSegs (i : Fin 16) (v : Volume) (m : Mask) (segs : List SegmentSpec) (s : Core) : Except Status (List Segment) :=
  if hasField m 5 then
    match acceptedSegments segs with
    | none => .error (.badField 5)
    | some gs =>
      if s.isMounted i || v.state != .registered || v.captured != [] then .error (.refused .state)
      else if s.freeSegments + v.segs.length < gs.length then .error .full
      else .ok gs
  else .ok v.segs

/-- The budget that VOLUME_SET gives: at most the largest, at least the used dose, and at least 1 (R17). Where the used dose
U stands above 1,000,000,000,000, to which the overshoot of R49 can take it, the clamp up to U (R17, R49, R50) and the
largest budget (R25, sections 1.3 and 2.1) cannot both hold: the model keeps the clamp up to U, so that B is then U and
stands above the largest. DESIGN CHOICE (notes 51). -/
def setBudget (u b : Nat) : Nat := max (max 1 u) (min 1000000000000 b)

/-- The budget flags after a change of B or p (R50), before the checks. -/
def Volume.relax (v : Volume) : Volume :=
  if v.w ≤ v.r ∧ 0 < v.r then { v with low := false, exhausted := false } else v

/-- VOLUME_SET at the volume table (R17, R50). -/
def Core.volumeSet (id slot : Nat) (m : Mask) (budget p cls : Nat) (segs : List SegmentSpec) (s : Core) : Core :=
  match s.record slot with
  | none => s.reply id .notFound .empty
  | some (i, v) =>
    match s.setClass i m cls v.cls, s.setSegs i v m segs, strayField m 5 with
    | .error st, _, _ => s.reply id st .empty
    | .ok _, .error st, _ => s.reply id st .empty
    | .ok _, .ok _, some n => s.reply id (.badField n) .empty
    | .ok c, .ok gs, none =>
      let b := setBudget v.u budget
      let v' := { v with
        budget := pick m 2 b v.budget, p := pick m 3 (clamp 1 50 p) v.p, cls := c, segs := gs,
        cursor := if hasField m 5 then min v.cursor (leafCount gs) else v.cursor }
      let clamped := maskOf [(2, hasField m 2 && budget != b), (3, hasField m 3 && p != clamp 1 50 p),
        (5, hasField m 5 && v'.cursor != v.cursor)]
      let s := (s.setSlot i (some v')).reply id (doneStatus clamped) .empty
      if hasField m 2 || hasField m 3 then (s.editSlot i Volume.relax).checks i none else s

/-- VOLUME_SET (R17, R50). -/
def execVolumeSet (q : Req) (slot : Nat) (mask : Mask) (budget p cls : Nat) (segs : List SegmentSpec) (s : State) :
    Result' :=
  .next (s.ask q 0x17 fun id c => c.volumeSet id slot mask budget p cls segs)

/-! ### VOLUME_GET, CURSOR_SET, EXCEPTIONS_TAKE -/

/-- The body of VOLUME_GET (R24). -/
def Core.volumeBody (i : Fin 16) (v : Volume) (m : Mask) (start : Nat) (s : Core) : VolumeBody :=
  let runs := runsOf (v.captured.filter fun k => decide (pick m 2 start 0 ≤ k))
  { slot := i.val, record := v, isMounted := s.isMounted i, leaves := v.leaves, runs := runs.take 100,
    moreRuns := decide (100 < runs.length), exceptionCount := v.exceptions.length,
    left := leftLabel v.segs v.cursor, right := rightLabel v.segs v.cursor,
    gapBefore := Sys2Proof.Machine.gapBefore v.segs v.cursor, freeSegments := s.freeSegments,
    freeExceptions := s.freeExceptions, aOpen := if s.isMounted i then s.dose.aOpen else none }

/-- VOLUME_GET at the volume table (R24). -/
def Core.volumeGet (id slot : Nat) (m : Mask) (start : Nat) (s : Core) : Core :=
  match s.record slot, strayField m 2 with
  | none, _ => s.reply id .notFound .empty
  | some _, some n => s.reply id (.badField n) .empty
  | some (i, v), none => s.reply id .done (.volume (s.volumeBody i v m start))

/-- VOLUME_GET (R24). -/
def execVolumeGet (q : Req) (slot : Nat) (mask : Mask) (start : Nat) (s : State) : Result' :=
  .next (s.ask q 0x18 fun id c => c.volumeGet id slot mask start)

/-- The cursor set or stepped back to k from another opening, with CURSOR_MOVED (R18). -/
def Core.revisit (k : Nat) (s : Core) : Core := (s.appendMounted .cursorMoved k s.cursor none).moveCursor k

/-- CURSOR_SET at the volume table (R19). -/
def Core.cursorSet (id opening : Nat) (s : Core) : Core :=
  match s.volume with
  | none => s.reply id (.refused .noVolume) .empty
  | some v =>
    match s.unquiet with
    | some st => s.reply id st .empty
    | none =>
      let k := min opening v.leaves
      let s := s.reply id (doneStatus (maskOf [(1, opening != k)])) .empty
      if k = v.cursor then s else s.revisit k

/-- CURSOR_SET (R19). -/
def execCursorSet (q : Req) (opening : Nat) (s : State) : Result' := .next (s.ask q 0x19 fun id c => c.cursorSet id opening)

/-- EXCEPTIONS_TAKE at the volume table (R23). -/
def Core.exceptionsTake (id slot n : Nat) (s : Core) : Core :=
  match s.record slot with
  | none => s.reply id .notFound .empty
  | some (i, v) =>
    if 1 ≤ n ∧ n ≤ 16 then
      (s.editSlot i fun v => { v with exceptions := v.exceptions.drop n }).reply id .done
        (.exceptions (v.exceptions.take n))
    else s.reply id (.badField 2) .empty

/-- EXCEPTIONS_TAKE (R23). -/
def execExceptionsTake (q : Req) (slot n : Nat) (s : State) : Result' :=
  .next (s.ask q 0x1A fun id c => c.exceptionsTake id slot n)

end Sys2Proof.Machine
end

