-- ==== Sys2Proof/Machine/LightCommands.lean ====
section
/-! DEFINITION. The commands of the illumination unit and of the dose accounting unit's accrual (chapters 2 and 4). -/

namespace Sys2Proof.Machine

/-! ### Settings -/

/-- LIGHT_STAGE at the illumination unit (R70). -/
def Core.lightStage (id : Nat) (m : Mask) (x : Setting) (s : Core) : Core :=
  match strayField m 7 with
  | some n => s.reply id (.badField n) .empty
  | none =>
    let s := s.stage m x
    s.reply id (doneStatus (settingClampMask m x)) (.setting s.illum.staged)

/-- LIGHT_STAGE (R70). -/
def execLightStage (q : Req) (mask : Mask) (fields : Setting) (s : State) : Result' :=
  .next (s.ask q 0x20 fun id c => c.lightStage id mask fields)

/-- LIMITS_SET at the illumination unit (R72). -/
def Core.limitsSet (id eOp : Nat) (s : Core) : Core :=
  let e := min eOp 200000
  ({ s with illum := { s.illum with eOp := e } }.reviseView).reply id (doneStatus (maskOf [(1, eOp != e)])) (.cap e)

/-- LIMITS_SET (R72). -/
def execLimitsSet (q : Req) (eOp : Nat) (s : State) : Result' := .next (s.ask q 0x21 fun id c => c.limitsSet id eOp)

/-- The lamp calibration with its clamps (R73). -/
def lampClamp (x : LampCal) : LampCal :=
  { nVU := min x.nVU 100000, nVL := min x.nVL 100000, nRU := min x.nRU 100000, nRL := min x.nRL 100000,
    nView := min x.nView 5000 }

/-- The masked fields of a lamp calibration taken, the others kept (R73). -/
def lampMerge (m : Mask) (new old : LampCal) : LampCal :=
  { nVU := pick m 1 new.nVU old.nVU, nVL := pick m 2 new.nVL old.nVL, nRU := pick m 3 new.nRU old.nRU,
    nRL := pick m 4 new.nRL old.nRL, nView := pick m 5 new.nView old.nView }

/-- The mask of the present fields that the clamps change (R73). -/
def lampClampMask (m : Mask) (x : LampCal) : Mask :=
  let y := lampClamp x
  maskOf [(1, hasField m 1 && x.nVU != y.nVU), (2, hasField m 2 && x.nVL != y.nVL),
    (3, hasField m 3 && x.nRU != y.nRU), (4, hasField m 4 && x.nRL != y.nRL),
    (5, hasField m 5 && x.nView != y.nView)]

/-- LAMPS_CALIBRATE at the illumination unit (R73). -/
def Core.lampsCalibrate (id : Nat) (m : Mask) (x : LampCal) (s : Core) : Core :=
  let absent := if s.illum.lampCal.isNone then firstAbsent m [1, 2, 3, 4, 5] else none
  match absent, strayField m 5 with
  | some n, _ => s.reply id (.badField n) .empty
  | none, some n => s.reply id (.badField n) .empty
  | none, none =>
    let y := lampMerge m (lampClamp x) (s.illum.lampCal.getD (lampClamp x))
    ({ s with illum := { s.illum with lampCal := some y } }.reviseView).reply id (doneStatus (lampClampMask m x))
      (.lampCal y)

/-- LAMPS_CALIBRATE (R73). -/
def execLampsCalibrate (q : Req) (mask : Mask) (fields : LampCal) (s : State) : Result' :=
  .next (s.ask q 0x22 fun id c => c.lampsCalibrate id mask fields)

/-! ### CALIBRATION_FLASH -/

/-- The lifecycle has a flash in hand that refuses another (R74, R81). -/
def Lifecycle.taken : Lifecycle → Bool
  | .admitting => true
  | .meterWait => true
  | .lit => true
  | _ => false

/-- CALIBRATION_FLASH at the illumination unit (R81). -/
def Core.calibrationFlash (id : Nat) (s : Core) : Core :=
  if s.vols.mounted.isSome then s.reply id (.refused .state) .empty
  else if s.illum.life.taken then s.reply id .busy .empty
  else if s.illum.lampCal.isNone || s.meas.cal.t.isNone then s.reply id (.refused .notCalibrated) .empty
  else if s.panel.broken then s.reply id (.refused .interlock) .empty
  else if s.illum.life = .thermalHold then s.meetHold (newFlash (.calibration id) s.now)
  else s.enterAdmitting (newFlash (.calibration id) s.now)

/-- CALIBRATION_FLASH (R81). -/
def execCalibrationFlash (q : Req) (s : State) : Result' := .next (s.ask q 0x23 fun id c => c.calibrationFlash id)

/-! ### VIEW -/

/-- VIEW ON at the illumination unit (R86). -/
def Core.viewOn (id : Nat) (s : Core) : Core :=
  match s.volume with
  | none => s.reply id (.refused .noVolume) .empty
  | some v =>
    if s.illum.lampCal.isNone then s.reply id (.refused .notCalibrated) .empty
    else if v.exhausted then s.reply id (.refused .state) .empty
    else
      let s := s.withView fun w => { w with wanted := true, budget := false }
      s.reply id .done (.view s.illum.view.state)

/-- VIEW ON (R86). -/
def execViewOn (q : Req) (s : State) : Result' := .next (s.ask q 0x24 fun id c => c.viewOn id)

/-- VIEW OFF at the illumination unit (R86). -/
def Core.viewOff (id : Nat) (s : Core) : Core :=
  let s := s.withView fun w => { w with wanted := false }
  s.reply id .done (.view s.illum.view.state)

/-- VIEW OFF (R86). -/
def execViewOff (q : Req) (s : State) : Result' := .next (s.ask q 0x24 fun id c => c.viewOff id)

/-! ### Timers -/

/-- Lamp-off when D has elapsed (R78), with the window result of a healthy converter (R55, R79). -/
def Core.lampOffEvent (window : Option Int) (s : Core) : Core :=
  match s.illum.life, s.illum.flash with
  | .lit, some f =>
    match f.adm with
    | some adm =>
      if f.litAt + adm.d ≤ s.now then
        let s := s.lampsOff f
        match window, s.meas.conv with
        | some code, some c => if c.kind = .window then s.deliver c code else s
        | _, _ => s
      else s
    | none => s
  | _, _ => s

/-- LAMP_OFF (R78). -/
def execLampOff (us : Nat) (window : Option Int) (s : State) : Result' :=
  .next (s.event us fun c => c.lampOffEvent window)

/-- The end of recovery (R80): the lifecycle's, and of the wait of a flash in ADMITTING (R76). -/
def Core.recoveryOver (s : Core) : Core :=
  match s.illum.lampOffAt with
  | some t =>
    if s.due t 150 then
      match s.illum.life with
      | .recovering => { s with illum := { s.illum with life := s.restLife } }
      | _ => s.advance
    else s
  | none => s

/-- RECOVERY_END (R80). -/
def execRecoveryEnd (us : Nat) (s : State) : Result' := .next (s.event us Core.recoveryOver)

/-- The 60 s of a flash that waits in the thermal hold expire (R83). -/
def Core.thermalWaitOver (s : Core) : Core :=
  match s.illum.life, s.illum.flash with
  | .thermalHold, some f =>
    match f.metHold with
    | some t => if s.due t 60000 then s.refuseFlash f { reason := .thermal, figures := none } else s
    | none => s
  | _, _ => s

/-- THERMAL_WAIT_EXPIRY (R83). -/
def execThermalWaitExpiry (us : Nat) (s : State) : Result' := .next (s.event us Core.thermalWaitOver)

/-- The end of a full view-light period (R43). -/
def Core.periodOver (s : Core) : Core :=
  match s.dose.accrual with
  | some a => if s.due a.since 100 then s.fullPeriod a else s
  | none => s

/-- VIEW_PERIOD_END (R43). -/
def execViewPeriodEnd (us : Nat) (s : State) : Result' := .next (s.event us Core.periodOver)

end Sys2Proof.Machine
end

