-- ==== Sys2Proof/Machine/MeasureCommands.lean ====
section
/-! DEFINITION. The commands of the measurement unit (chapter 3). -/

namespace Sys2Proof.Machine

/-! ### CALIBRATE -/

/-- The calibration fields of a channel with their clamps (section 3.3). -/
def calClamp (ch : Channel) (x : CalPair) : CalPair :=
  match ch with
  | .P => { x := clampInt (-65536) 65535 x.x, y := clampInt 1000 200000 x.y }
  | .G => { x := clampInt (-65536) 65535 x.x, y := 0 }
  | .F => { x := clampInt (-65536) 65535 x.x, y := clampInt 1 5000 x.y }
  | .T => { x := clampInt (-400) 2000 x.x, y := clampInt 1 3000 x.y }

/-- The fields a channel has, by their numbers in CALIBRATE (section 3.3, R191). -/
def calFields : Channel → List Nat
  | .G => [2]
  | _ => [2, 3]

/-- The number of a channel's last field. -/
def lastCalField : Channel → Nat
  | .G => 2
  | _ => 3

/-- The mask of the present fields that the clamps change (R60). -/
def calClampMask (ch : Channel) (m : Mask) (x : CalPair) : Mask :=
  let y := calClamp ch x
  maskOf [(2, hasField m 2 && x.x != y.x), (3, hasField m 3 && lastCalField ch == 3 && x.y != y.y)]

/-- The periodic timer starts when T becomes calibrated (R60, R65). -/
def Core.startTimer (was : Option CalPair) (ch : Channel) (s : Core) : Core :=
  if ch = .T ∧ was = none then { s with meas := { s.meas with timer := some s.now } }.post .T .spot .timer else s

/-- CALIBRATE at the measurement unit (R60). Bit 0 of its mask, the channel operand, marks nothing (notes 34). -/
def Core.calibrate (id channel : Nat) (m : Mask) (x : CalPair) (s : Core) : Core :=
  match channelCodes[channel]? with
  | none => s.reply id (.badField 1) .empty
  | some ch =>
    let old := s.meas.cal.get ch
    match strayField m (lastCalField ch), (if old.isNone then firstAbsent m (calFields ch) else none) with
    | some n, _ => s.reply id (.badField n) .empty
    | none, some n => s.reply id (.badField n) .empty
    | none, none =>
      let y := calClamp ch x
      let o := old.getD y
      let new : CalPair := { x := pick m 2 y.x o.x, y := pick m 3 y.y o.y }
      let s := { s with meas := { s.meas with cal := s.meas.cal.set ch (some new) } }
      (s.reply id (doneStatus (calClampMask ch m x)) (.channelCal ch (some new))).startTimer old ch

/-- CALIBRATE (R60). -/
def execCalibrate (q : Req) (channel : Nat) (mask : Mask) (x y : Int) (s : State) : Result' :=
  .next (s.ask q 0x28 fun id c => c.calibrate id channel mask { x := x, y := y })

/-! ### MEASURE and the converter -/

/-- MEASURE at the measurement unit (R67). -/
def Core.measureChannel (id channel : Nat) (s : Core) : Core :=
  match channelCodes[channel]? with
  | none => s.reply id (.badField 1) .empty
  | some ch =>
    if ch = .G ∧ s.motion.cRef = none then s.reply id (.refused .notCalibrated) .empty
    else s.post ch .spot (.measure id)

/-- MEASURE (R67). -/
def execMeasure (q : Req) (channel : Nat) (s : State) : Result' :=
  .next (s.ask q 0x29 fun id c => c.measureChannel id channel)

/-- The conversion in progress may deliver now (R51, R58): a spot from 4 ms after its grant, a window once the lamps
are off, and neither past its limit. -/
def Core.mayDeliver (c : Conversion) (s : Core) : Bool :=
  decide (s.now ≤ c.since + c.limit)
    && (match c.kind with
        | .spot => decide (c.since + 4000 ≤ s.now)
        | .window => s.illum.life != .lit)

/-- A result of the conversion in progress (R57). -/
def Core.spotArrives (code : Int) (s : Core) : Core :=
  match s.meas.conv with
  | some c => if s.mayDeliver c then s.deliver c code else s
  | none => s

/-- SPOT_RESULT (R57). -/
def execSpotResult (us : Nat) (code : Int) (s : State) : Result' := .next (s.event us fun c => c.spotArrives code)

/-- The limit of the conversion in progress has passed (R58); a window's cannot while its lamps are lit. -/
def Core.convOver (c : Conversion) (s : Core) : Bool :=
  decide (c.since + c.limit ≤ s.now) && (c.kind == .spot || s.illum.life != .lit)

/-- The conversion in progress passes its limit (R58). -/
def Core.conversionPasses (s : Core) : Core :=
  match s.meas.conv with
  | some c => if s.convOver c then s.declareFault c else s
  | none => s

/-- CONVERSION_FAULT (R58). -/
def execConversionFault (us : Nat) (s : State) : Result' := .next (s.event us Core.conversionPasses)

/-- LATE_RESULT_DISCARDED (R55, R58, R68): the result writes no latch and reaches no requester. -/
def execLateResultDiscarded (us : Nat) (_code : Int) (s : State) : Result' := .next (s.event us id)

/-- An expiry of the periodic timer (R65). -/
def Core.tempTick (s : Core) : Core :=
  match s.meas.timer with
  | some t =>
    if s.due t 500 then { s with meas := { s.meas with timer := some (t + 500000) } }.post .T .spot .timer else s
  | none => s

/-- TEMP_TIMER (R65). -/
def execTempTimer (us : Nat) (s : State) : Result' := .next (s.event us Core.tempTick)

end Sys2Proof.Machine
end

