-- ==== Sys2Proof/Machine/MotionCommands.lean ====
section
/-! DEFINITION. The commands of the cradle motion unit (chapter 5): HOME, ANGLE_SET, and the arrivals, limits and sensor
events of the three axes. An event that comes in a state in which it cannot has no effect (notes 3). -/

namespace Sys2Proof.Machine

/-! ### HOME and ANGLE_SET -/

/-- What keeps HOME from being taken for now (R93). -/
def Core.homeBusy (s : Core) : Bool :=
  s.motion.homing.isSome || s.seq.state == .running || s.seq.state == .halting
    || (s.seq.state == .held && s.headBusy) || !s.illum.life.atRest || s.motion.platen.inMotion
    || s.motion.angle == .moving || s.motion.arm.inMotion

/-- The platen is STOPPED. -/
def PlatenState.isStopped : PlatenState → Bool
  | .stopped _ => true
  | _ => false

/-- The arm is STOPPED. -/
def ArmState.isStopped : ArmState → Bool
  | .stopped _ _ => true
  | _ => false

/-- HOME at the motion unit (R93): its reply is sent when the homing ends. -/
def Core.home (id : Nat) (s : Core) : Core :=
  if s.panel.broken then s.reply id (.refused .interlock) .empty
  else if s.meas.cal.f.isNone then s.reply id (.refused .notCalibrated) .empty
  else if s.homeBusy then s.reply id .busy .empty
  else if s.motion.platen.isStopped || s.motion.angle == .stopped || s.motion.arm.isStopped then
    s.reply id (.refused .state) .empty
  else s.beginHoming id

/-- HOME (R93). -/
def execHome (q : Req) (s : State) : Result' := .next (s.ask q 0x30 fun id c => c.home id)

/-- The widest angle allowed (R96). -/
def Core.angleTop (s : Core) : Nat := (s.cls.map (·.maxAngle)).getD 180

/-- ANGLE_SET at the motion unit (R96). -/
def Core.angleSet (id degrees : Nat) (s : Core) : Core :=
  let target := clamp 80 s.angleTop degrees
  if s.motion.angle = .unreferenced ∨ s.motion.angle = .fault then s.reply id (.refused .state) .empty
  else if s.motion.angle = .moving ∨ s.motion.angle = .stopped ∨ s.motion.platen ≠ .up ∨ s.motion.arm ≠ .parked then
    s.reply id .busy .empty
  else
    let s := s.reply id (doneStatus (maskOf [(1, degrees != target)])) .empty
    if s.motion.anglePos = some target then s else s.moveAngle target

/-- ANGLE_SET (R96). -/
def execAngleSet (q : Req) (degrees : Nat) (s : State) : Result' := .next (s.ask q 0x31 fun id c => c.angleSet id degrees)

/-! ### Homing -/

/-- HOMING_PHASE_DONE at the motion unit (R94). -/
def Core.homingStep (s : Core) : Core :=
  match s.motion.homing with
  | some h => s.phaseDone h
  | none => s

/-- HOMING_PHASE_DONE (R94). -/
def execHomingPhaseDone (us : Nat) (s : State) : Result' := .next (s.event us Core.homingStep)

/-- HOMING_PHASE_TIMEOUT at the motion unit (R94). -/
def Core.homingLimit (s : Core) : Core :=
  match s.motion.homing with
  | some h =>
    match h.phase.limit with
    | some ms => if s.due h.since ms then s.phaseFailed h else s
    | none => s
  | none => s

/-- HOMING_PHASE_TIMEOUT (R94). -/
def execHomingPhaseTimeout (us : Nat) (s : State) : Result' := .next (s.event us Core.homingLimit)

/-! ### The angle -/

/-- The cradle reaches its target (R96). -/
def Core.angleArrives (s : Core) : Core :=
  if s.motion.angle = .moving ∧ s.motion.homing.all (·.phase = .reference) then
    ({ s with motion := { s.motion with anglePos := s.motion.angleTarget, angleTarget := none } }.setAngle .atAngle).takeHeld
  else s

/-- ANGLE_REACHED (R96). -/
def execAngleReached (us : Nat) (s : State) : Result' := .next (s.event us Core.angleArrives)

/-- The angle move passes 10,000 ms (R96). -/
def Core.anglePasses (s : Core) : Core :=
  if s.motion.angle = .moving ∧ s.motion.homing.all (·.phase = .reference) ∧ s.due s.motion.angleSince 10000 then
    let target := s.motion.angleTarget.getD 0
    let s := ({ s.angleStopped with motion := { s.angleStopped.motion with angleTarget := none } }).setAngle .fault
    (s.raiseFault .angleTimeout (.angle target)).takeHeld
  else s

/-- ANGLE_TIMEOUT (R96). -/
def execAngleTimeout (us : Nat) (s : State) : Result' := .next (s.event us Core.anglePasses)

/-! ### The platen -/

/-- A force sample every 20 ms of LOWERING (R98). -/
def Core.sampleDue (s : Core) : Core :=
  if s.motion.platen = .moving .lowering ∧ s.due s.motion.sampleAt 20 then
    { s with motion := { s.motion with sampleAt := s.motion.sampleAt + 20000 } }.post .F .spot .force
  else s

/-- PLATEN_SAMPLE_TIMER (R98). -/
def execPlatenSampleTimer (us : Nat) (s : State) : Result' := .next (s.event us Core.sampleDue)

/-- The end of the settling interval (R98). -/
def Core.settled (s : Core) : Core :=
  match s.motion.platen, s.motion.settle with
  | .moving .lowering, some t =>
    if s.due t 150 then
      (({ s.dropForce with motion := { s.dropForce.motion with settle := none } }).setPlaten .down).signal .platenDown
    else s
  | _, _ => s

/-- SETTLING_END (R98). -/
def execSettlingEnd (us : Nat) (s : State) : Result' := .next (s.event us Core.settled)

/-- The lowering passes 2,000 ms (R99). -/
def Core.loweringPasses (s : Core) : Core :=
  if s.motion.platen = .moving .lowering ∧ s.due s.motion.platenSince 2000 then
    let s := ({ s.dropForce with motion := { s.dropForce.motion with settle := none } }).setPlaten .fault
    (s.raiseFault .platenTimeout .lowering).signal (.platenFailed .timeout)
  else s

/-- LOWERING_TIMEOUT (R99). -/
def execLoweringTimeout (us : Nat) (s : State) : Result' := .next (s.event us Core.loweringPasses)

/-- The platen rises, and not for phase 1 of a homing. -/
def Core.raising (s : Core) : Bool :=
  s.motion.platen == .moving .raising && s.motion.homing.all fun h => h.phase != .platen

/-- PLATEN_UP (R100). -/
def execPlatenUp (us : Nat) (s : State) : Result' :=
  .next (s.event us fun c => if c.raising then c.platenArrived else c)

/-- RAISE_TIMEOUT (R100). -/
def execRaiseTimeout (us : Nat) (s : State) : Result' :=
  .next (s.event us fun c => if c.raising && c.due c.motion.platenSince 2000 then c.raiseFailed else c)

/-! ### The arm -/

/-- The cup reaches the leaf (R102). -/
def Core.cupLands (s : Core) : Core :=
  match s.motion.arm, s.motion.stage, s.motion.turn with
  | .moving .lifting, .descend, some t => s.beginSuck t
  | _, _, _ => s

/-- CUP_CONTACT (R102). -/
def execCupContact (us : Nat) (s : State) : Result' := .next (s.event us Core.cupLands)

/-- VACUUM_AT_LEVEL (R102). -/
def execVacuumAtLevel (us : Nat) (s : State) : Result' :=
  .next (s.event us fun c => { c with motion := { c.motion with vacuumAt := true } }.tryGauging)

/-- The puff ends (R102). -/
def Core.puffOver (s : Core) : Core :=
  match s.motion.puff with
  | some p => if s.due p.since p.ms then { s with motion := { s.motion with puff := none } }.tryGauging else s
  | none => s

/-- PUFF_END (R102). -/
def execPuffEnd (us : Nat) (s : State) : Result' := .next (s.event us Core.puffOver)

/-- 800 ms pass with the vacuum BELOW (R102). -/
def Core.noVacuum (s : Core) : Core :=
  if s.motion.arm = .moving .lifting ∧ s.motion.stage = .suck ∧ s.motion.vacuumAt = false
      ∧ s.due s.motion.armSince 800 then s.putDown .lostLeaf
  else s

/-- VACUUM_TIMEOUT (R102). -/
def execVacuumTimeout (us : Nat) (s : State) : Result' := .next (s.event us Core.noVacuum)

/-- The vacuum sensor reports BELOW (R102, R103, R107); `was` is its report before. -/
def Core.vacuumFalls (s : Core) : Core :=
  let was := s.motion.vacuumAt
  let s := { s with motion := { s.motion with vacuumAt := false } }
  match s.motion.arm, s.motion.stage with
  | .moving .lifting, .suck => if was then s.putDown .lostLeaf else s
  | .moving .gauging, .leafUp => s.putDown .lostLeaf
  | .moving .gauging, .gauge => s.putDown .lostLeaf
  | .moving .sweeping, _ => s.vacuumLoss 1
  | .stopped .sweeping .curtain, _ => s.vacuumLoss 2
  | _, _ => s

/-- VACUUM_BELOW (R107). -/
def execVacuumBelow (us : Nat) (s : State) : Result' := .next (s.event us Core.vacuumFalls)

/-- The leaf is 30 mm up (R103). -/
def Core.leafIsUp (s : Core) : Core :=
  if s.motion.arm = .moving .gauging ∧ s.motion.stage = .leafUp then
    { s with motion := { s.motion with stage := .gauge, armSince := s.now } }.post .G .spot .gauge
  else s

/-- LEAF_RAISED (R103). -/
def execLeafRaised (us : Nat) (s : State) : Result' := .next (s.event us Core.leafIsUp)

/-- The put-down is complete (R104, R111): the valve is closed. The arm puts down in LIFTING and GAUGING. -/
def Core.putDownOver (s : Core) : Core :=
  match s.motion.arm, s.motion.stage, s.motion.turn with
  | .moving m, .putDown why, some t =>
    if m = .lifting ∨ m = .gauging then
      let s := { s with motion := { s.motion with valveOpen := false } }
      if why = .aborted then s.beginReturn else s.attemptFailed why t
    else s
  | _, _, _ => s

/-- PUT_DOWN_DONE (R104). -/
def execPutDownDone (us : Nat) (s : State) : Result' := .next (s.event us Core.putDownOver)

/-- The arm arrives on the left (R105). -/
def Core.sweepEnds (s : Core) : Core :=
  if s.motion.arm = .moving .sweeping then
    { s with motion := { s.motion with valveOpen := false } }.startArm .releasing .release
  else s

/-- SWEEP_ARRIVED (R105). -/
def execSweepArrived (us : Nat) (s : State) : Result' := .next (s.event us Core.sweepEnds)

/-- RELEASING is complete once the vacuum has fallen: the leaf is laid, and the arm returns (R105, R110). -/
def Core.releaseEnds (s : Core) : Core :=
  match s.motion.arm, s.motion.turn with
  | .moving .releasing, some t => if s.motion.vacuumAt then s else (s.layLeaf t).beginReturn
  | _, _ => s

/-- RELEASE_DONE (R105). -/
def execReleaseDone (us : Nat) (s : State) : Result' := .next (s.event us Core.releaseEnds)

/-- The arm moves in a turn and not in a homing. -/
def Core.armInTurn (s : Core) : Bool := s.motion.homing.all fun h => h.phase != .arm

/-- The arm is at PARK (R106). -/
def Core.armParks (s : Core) : Core :=
  if s.motion.arm = .moving .returning ∧ s.motion.stage = .travel ∧ s.armInTurn then
    { s with motion := { s.motion with stage := .reference, armSince := s.now } }.post .G .spot .openRef
  else s

/-- ARM_AT_PARK (R106). -/
def execArmAtPark (us : Nat) (s : State) : Result' := .next (s.event us Core.armParks)

/-- A limit of the arm passes (R108). -/
def Core.armPasses (s : Core) : Core :=
  match s.motion.arm, s.motion.stage.limit with
  | .moving m, some ms => if s.armInTurn && s.due s.motion.armSince ms then s.armFault m else s
  | _, _ => s

/-- ARM_LIMIT_EXPIRY (R108). -/
def execArmLimitExpiry (us : Nat) (s : State) : Result' := .next (s.event us Core.armPasses)

end Sys2Proof.Machine
end

