-- ==== Sys2Proof/Machine/CaptureCommands.lean ====
section
/-! DEFINITION. The commands of the capture control unit (chapter 6). -/

namespace Sys2Proof.Machine

/-! ### The ring and the frame timeout -/

/-- CAPTURE_DRAIN at the capture control unit (R128): the reply is formed before what waits takes its place. -/
def Core.captureDrain (id n : Nat) (s : Core) : Core :=
  if 1 ≤ n ∧ n ≤ 8 then
    let s := s.reply id .done (.records (s.cap.ring.take n))
    { s with cap := { s.cap with ring := s.cap.ring.drop n } }.takeRoom
  else s.reply id (.badField 1) .empty

/-- CAPTURE_DRAIN (R128). -/
def execCaptureDrain (q : Req) (n : Nat) (s : State) : Result' := .next (s.ask q 0x38 fun id c => c.captureDrain id n)

/-- CAPTURE_PEEK at the capture control unit (R129). -/
def Core.capturePeek (id n : Nat) (s : Core) : Core :=
  if 1 ≤ n ∧ n ≤ 8 then s.reply id .done (.records (s.cap.ring.take n)) else s.reply id (.badField 1) .empty

/-- CAPTURE_PEEK (R129). -/
def execCapturePeek (q : Req) (n : Nat) (s : State) : Result' := .next (s.ask q 0x39 fun id c => c.capturePeek id n)

/-- FRAMES_SET at the capture control unit (R131). -/
def Core.framesSet (id ms : Nat) (s : Core) : Core :=
  let t := clamp 1000 30000 ms
  { s with cap := { s.cap with frameTimeout := t } }.reply id (doneStatus (maskOf [(1, ms != t)])) (.frames t)

/-- FRAMES_SET (R131). -/
def execFramesSet (q : Req) (ms : Nat) (s : State) : Result' := .next (s.ask q 0x3A fun id c => c.framesSet id ms)

/-! ### Cameras -/

/-- A camera's lines at new levels, and the judgement of a camera that is watched (R123). -/
def CameraState.lines (ready fault watched : Bool) (c : CameraState) : CameraState :=
  let low := c.sawLow || !ready
  let c := { c with ready := ready, fault := fault }
  if watched && c.frame == .triggered then
    if fault then { c with frame := .failed .fault }
    else if low && ready then { c with frame := .taken }
    else { c with sawLow := low }
  else c

/-- A camera replaced. -/
def Capture.setCam (k : Camera) (x : CameraState) (c : Capture) : Capture :=
  match k with
  | .V => { c with camV := x }
  | .R => { c with camR := x }

/-- The cameras of the attempt in hand are watched, unless it is aborted (R123, R132). -/
def Capture.watched (c : Capture) : Bool :=
  match c.attempt with
  | some a => !a.aborting
  | none => false

/-- The camera wait looked at again (R119). -/
def Core.tryCameras (s : Core) : Core :=
  match s.cap.attempt with
  | some a =>
    match a.phase, a.prep with
    | .preparing, .cameras _ => if s.cap.camerasReady a.side then s.enterAdmission a else s
    | _, _ => s
  | none => s

/-- CAMERA_LINE_CHANGE at the capture control unit (R115, R119, R123, R134). -/
def Core.cameraLines (k : Camera) (ready fault : Bool) (s : Core) : Core :=
  let cam := (s.cap.cam k).lines ready fault s.cap.watched
  ({ s with cap := s.cap.setCam k cam }.judgeFaults).tryCameras.tryFinish

/-- CAMERA_LINE_CHANGE (R123). -/
def execCameraLineChange (us : Nat) (camera : Camera) (ready fault : Bool) (s : State) : Result' :=
  .next (s.event us fun c => c.cameraLines camera ready fault)

/-- The needed cameras that are not ready. -/
def Capture.unready (c : Capture) (side : Side) : List Camera :=
  [Camera.V, Camera.R].filter fun k => side.needs k && !(c.cam k).isReady

/-- The camera wait passes 2,000 ms (R119). -/
def Core.cameraWaitOver (s : Core) : Core :=
  match s.cap.attempt with
  | some a =>
    match a.phase, a.prep with
    | .preparing, .cameras t =>
      if s.due t 2000 then s.endUnlitWith (.cameraNotReady (s.cap.unready a.side)) else s
    | _, _ => s
  | none => s

/-- CAMERA_WAIT_EXPIRY (R119). -/
def execCameraWaitExpiry (us : Nat) (s : State) : Result' := .next (s.event us Core.cameraWaitOver)

/-- A camera still TRIGGERED at the frame timeout fails, and CAMERA_TIMEOUT is raised for it (R123). -/
def Core.timeOutCamera (k : Camera) (s : Core) : Core :=
  if (s.cap.cam k).frame = .triggered then
    { s with cap := s.cap.setCam k { s.cap.cam k with frame := .failed .timeout } }.raiseFault .cameraTimeout (.cameras [k])
  else s

/-- The frame timeout expires (R123); camera V is named before R (notes 42). -/
def Core.framesOver (s : Core) : Core :=
  match s.cap.attempt with
  | some a =>
    match a.frameSince with
    | some t =>
      if s.due t a.frameLimit then
        (((s.setAttempt { a with frameSince := none }).timeOutCamera .V).timeOutCamera .R).tryFinish
      else s
    | none => s
  | none => s

/-- FRAME_TIMEOUT (R123). -/
def execFrameTimeout (us : Nat) (s : State) : Result' := .next (s.event us Core.framesOver)

end Sys2Proof.Machine
end

