-- ==== Sys2Proof/Machine/StepCommands.lean ====
section
/-! DEFINITION. The commands of the step sequencer (chapters 7 and 9): STEP_QUEUE, STOP_SET, HALT, ABORT, RESUME,
STEP_FLUSH, FAULT_CLEAR and PAUSE_END. -/

namespace Sys2Proof.Machine

/-! ### STEP_QUEUE -/

/-- The id after one (R135): after 65,535 comes 1. -/
def nextStepId (n : Nat) : Nat := if 65535 ≤ n then 1 else n + 1

/-- A step appended at the tail with the next id (R135, R160). -/
def Core.appendStep (origin : Origin) (w : StepWork) (gate : Option Guard) (s : Core) : Core :=
  let st : Step := { id := s.seq.nextId, origin := origin, work := w, gate := gate }
  { s with seq := { s.seq with queue := s.seq.queue ++ [st], nextId := nextStepId s.seq.nextId } }

/-- The head started when a step was accepted in IDLE (R136, R141). -/
def Core.startIfIdle (s : Core) : Core :=
  if s.seq.state = .idle then (s.setSeq .running).signal .startHead else s

/-- The parameters of a step with their clamp mask, or the field refused (R136). The fields are numbered from 5, after
the kind and the three guard fields; the mask of a LIGHT uses the same numbers (R191, notes 12). -/
def stepWork : StepSpec → Except Nat (StepWork × Mask)
  | .capture side mode =>
    match sideCodes[side]?, modeCodes[mode]? with
    | none, _ => .error 5
    | some _, none => .error 6
    | some a, some r => .ok (.capture a r, 0)
  | .turn => .ok (.turn, 0)
  | .cycle stop retakes =>
    .ok (.cycle (min stop 4096) (min retakes 2), maskOf [(5, decide (4096 < stop)), (6, decide (2 < retakes))])
  | .light m x =>
    if (m >>> 4) &&& 0x7F#16 = 0 then .error 5
    else match strayField m 11 with
      | some n => .error n
      | none => .ok (.light ((m >>> 4) &&& 0x7F#16) x, 0)
  | .pause ms => .ok (.pause (clamp 10 600000 ms), maskOf [(5, ms != clamp 10 600000 ms)])
  | .mark note => .ok (.mark note, 0)
  | .unknown _ => .error 1

/-- The guard of a step, or the field refused (R136). -/
def stepGuard : Option GuardSpec → Except Nat (Option Guard)
  | none => .ok none
  | some g =>
    match conditionCodes[g.cond]? with
    | some c => .ok (some { cond := c, want := g.want })
    | none => .error 3

/-- The kind is none of the six (R136). -/
def StepSpec.isUnknown : StepSpec → Bool
  | .unknown _ => true
  | _ => false

/-- STEP_QUEUE at the step sequencer (R136): the reply is formed before the start. -/
def Core.stepQueue (id : Nat) (w : StepSpec) (g : Option GuardSpec) (s : Core) : Core :=
  if StepSpec.isUnknown w then s.reply id (.badField 1) .empty
  else match stepGuard g, stepWork w with
    | .error n, _ => s.reply id (.badField n) .empty
    | .ok _, .error n => s.reply id (.badField n) .empty
    | .ok gate, .ok (work, clamped) =>
      if 16 ≤ s.seq.queue.length then s.reply id .full .empty
      else ((s.reply id (.queued s.seq.nextId) (.stepClamps clamped)).appendStep .link work gate).startIfIdle

/-- STEP_QUEUE (R136). -/
def execStepQueue (q : Req) (work : StepSpec) (gate : Option GuardSpec) (s : State) : Result' :=
  .next (s.ask q 0x40 fun id c => c.stepQueue id work gate)

/-! ### STOP_SET -/

/-- The stop of a CYCLE replaced (R147). -/
def Step.withStop (stop : Nat) (st : Step) : Step :=
  match st.work with
  | .cycle _ retakes => { st with work := .cycle stop retakes }
  | _ => st

/-- The largest stop (R147). -/
def Core.stopTop (s : Core) : Nat :=
  match s.volume with
  | some v => v.leaves
  | none => 4096

/-- STOP_SET at the step sequencer (R147). -/
def Core.stopSet (id step opening : Nat) (s : Core) : Core :=
  match s.seq.queue.find? fun (st : Step) => st.id == step with
  | none => s.reply id .notFound .empty
  | some st =>
    match st.work with
    | .cycle _ _ =>
      let stop := min opening s.stopTop
      { s with seq := { s.seq with
          queue := s.seq.queue.map fun (t : Step) => if t.id = step then Step.withStop stop t else t } }.reply id
        (doneStatus (maskOf [(2, opening != stop)])) .empty
    | _ => s.reply id (.refused .state) .empty

/-- STOP_SET (R147). -/
def execStopSet (q : Req) (id opening : Nat) (s : State) : Result' :=
  .next (s.ask q 0x41 fun entry c => c.stopSet entry id opening)

/-! ### HALT, ABORT, RESUME, STEP_FLUSH, PAUSE_END -/

/-- HALT (R150). -/
def execHalt (q : Req) (s : State) : Result' := .next (s.ask q 0x42 fun id c => (c.reply id .done .empty).halt)

/-- ABORT (R151). -/
def execAbort (q : Req) (s : State) : Result' := .next (s.ask q 0x43 fun id c => (c.reply id .done .empty).abort)

/-- The answer to RESUME (R152). -/
def Core.resumeAnswer (s : Core) : Status :=
  if s.seq.state = .held then s.resumeTests.getD .done else .refused .state

/-- RESUME at the step sequencer (R152). -/
def Core.resume (id : Nat) (s : Core) : Core :=
  let answer := s.resumeAnswer
  let s := s.reply id answer .empty
  if answer = .done then s.release else s

/-- RESUME (R152). -/
def execResume (q : Req) (s : State) : Result' := .next (s.ask q 0x44 fun id c => c.resume id)

/-- STEP_FLUSH at the step sequencer (R154). -/
def Core.stepFlush (id : Nat) (s : Core) : Core :=
  let split := s.seq.flushSplit
  let s := { s with seq := { s.seq with queue := split.1 } }
  (s.reply id .done (.flushed split.2.length)).reportCancelled .flush 0 split.2

/-- STEP_FLUSH (R154). -/
def execStepFlush (q : Req) (s : State) : Result' := .next (s.ask q 0x45 fun id c => c.stepFlush id)

/-- The timer of the head PAUSE expires (R144). -/
def Core.pauseOver (s : Core) : Core :=
  match s.seq.pause with
  | some { left := left, since := some t } => if t + left ≤ s.now then s.endStep .done none .none else s
  | _ => s

/-- PAUSE_END (R144). -/
def execPauseEnd (us : Nat) (s : State) : Result' := .next (s.event us Core.pauseOver)

/-! ### FAULT_CLEAR -/

/-- The entries that a FAULT_CLEAR of all kinds keeps, each acknowledged (R173). -/
def Core.keptFaults (s : Core) : List FaultEntry :=
  (s.faults.filter s.faultPresent).map fun e => { e with acked := true }

/-- The kinds that it removes, in the order of section 9.1. R173 and R199 give the list in the reply no order: DESIGN
CHOICE (notes 50). -/
def Core.endedKinds (s : Core) : List FaultKind := (s.faults.filter fun e => !s.faultPresent e).map (·.kind)

/-- What a FAULT_CLEAR reply carries (R173): the kinds removed, and the entries that remain in the order in which the set
holds them, that of section 9.1. R173 and R199 give neither list an order: DESIGN CHOICE (notes 50). -/
def clearedBody (removed : List FaultKind) (left : List FaultEntry) : Body :=
  .cleared removed (left.map fun e => (e.kind, e.detail))

/-- FAULT_CLEAR ALL at the step sequencer (R173, R174). -/
def Core.clearAll (id : Nat) (s : Core) : Core :=
  let left := s.keptFaults
  { s with faults := left }.reply id (if left = [] then .done else .refused .stillPresent) (clearedBody s.endedKinds left)

/-- The set with the entry of a kind acknowledged (R173). -/
def ackFault (k : FaultKind) (es : List FaultEntry) : List FaultEntry :=
  es.map fun e => if e.kind = k then { e with acked := true } else e

/-- FAULT_CLEAR of one kind at the step sequencer (R173, R174). Its NOT_FOUND reply has an empty body: R191 gives a
refusal none, where R173 speaks of each reply: DESIGN CHOICE (notes 46). -/
def Core.clearKind (id : Nat) (k : FaultKind) (s : Core) : Core :=
  match findFault k s.faults with
  | none => s.reply id .notFound .empty
  | some e =>
    if s.faultPresent e then
      let left := ackFault k s.faults
      { s with faults := left }.reply id (.refused .stillPresent) (clearedBody [] left)
    else
      let left := dropFault k s.faults
      { s with faults := left }.reply id .done (clearedBody [k] left)

/-- FAULT_CLEAR by the code its frame carries: one of the seven kinds, or ALL after them (R173, R199). -/
def Core.faultClear (id code : Nat) (s : Core) : Core :=
  match faultKindCodes[code]? with
  | some k => s.clearKind id k
  | none => if code = 7 then s.clearAll id else s.reply id (.badField 1) .empty

/-- FAULT_CLEAR (R173). -/
def execFaultClear (q : Req) (kind : Nat) (s : State) : Result' := .next (s.ask q 0x46 fun id c => c.faultClear id kind)

/-- FAULT_CLEAR_ALL (R173). -/
def execFaultClearAll (q : Req) (s : State) : Result' := .next (s.ask q 0x46 fun id c => c.clearAll id)

end Sys2Proof.Machine
end

