-- ==== Sys2Proof/Machine/PanelCommands.lean ====
section
/-! DEFINITION. The commands of the panel interface (chapter 8): the presses, the debounce, the light curtain and the
refusal tone. -/

namespace Sys2Proof.Machine

/-! ### Inputs -/

/-- The state of one input. -/
def PerInput.get {α : Type} (x : PerInput α) : PanelInput → α
  | .advance => x.advance
  | .retake => x.retake
  | .turned => x.turned
  | .back => x.back
  | .hold => x.hold
  | .cont => x.cont

/-- The state of one input replaced. -/
def PerInput.set {α : Type} (x : PerInput α) (i : PanelInput) (v : α) : PerInput α :=
  match i with
  | .advance => { x with advance := v }
  | .retake => { x with retake := v }
  | .turned => { x with turned := v }
  | .back => { x with back := v }
  | .hold => { x with hold := v }
  | .cont => { x with cont := v }

/-- The state of one input. -/
def Core.input (i : PanelInput) (s : Core) : InputState := s.panel.inputs.get i

/-- The state of one input replaced. -/
def Core.setInput (i : PanelInput) (x : InputState) (s : Core) : Core :=
  { s with panel := { s.panel with inputs := s.panel.inputs.set i x } }

/-- The raw level of an input has stood for the debounce time (R156). -/
def Core.stable (i : PanelInput) (s : Core) : Bool := s.due (s.input i).since s.panel.debounce

/-- A press of an input is due (R156): settled before, RELEASED, and pressed for the debounce time. -/
def Core.pressDue (i : PanelInput) (s : Core) : Bool :=
  let x := s.input i
  x.settled && x.raw && !x.pressed && s.stable i

/-- The debounced state of an input becomes PRESSED (R156). -/
def Core.setPressed (i : PanelInput) (s : Core) : Core := s.setInput i { s.input i with pressed := true, settled := true }

/-! ### Actions -/

/-- The refusal tone sounds for 150 ms from now (R166). -/
def Core.tone (s : Core) : Core := { s with panel := { s.panel with tone := some s.now } }

/-- A PANEL report of a press (R161). -/
def Core.reportPress (i : PanelInput) (a : PanelAction) (s : Core) : Core := s.report (.panelKey i s.stamp a)

/-- A step queued by the pedal or a key (R160): its PANEL report comes before its start. -/
def Core.queueByPanel (i : PanelInput) (w : StepWork) (s : Core) : Core :=
  let n := s.seq.nextId
  ((s.appendStep .panel w none).reportPress i (.queued n w.kind)).startIfIdle

/-- A VACUUM_LOST fault cleared, as FAULT_CLEAR of that kind does (R165, R173). -/
def Core.clearVacuum (s : Core) : Core := { s with faults := dropFault .vacuumLost s.faults }

/-- CONTINUE, pressed on the key or on the pedal (R162, R165). Its PANEL report comes before the reports that the released
hold sends, an order R165 does not fix: DESIGN CHOICE (notes 43). -/
def Core.pressContinue (i : PanelInput) (s : Core) : Core :=
  let cleared := (findFault .vacuumLost s.faults).isSome
  let s := s.clearVacuum
  let answer := s.resumeAnswer
  let s := s.reportPress i (.cont cleared answer)
  if answer = .done then s.release else s.tone

/-- ADVANCE (R162). -/
def Core.pressAdvance (s : Core) : Core :=
  if s.seq.state = .held ∧ s.assisting then s.pressContinue .advance
  else match s.seq.state, s.volume with
    | .idle, some v =>
      if !s.openingCaptured then s.queueByPanel .advance (.capture .auto false)
      else if v.cursor < v.leaves then s.queueByPanel .advance .turn
      else s.tone
    | _, _ => s.tone

/-- RETAKE (R163). -/
def Core.pressRetake (s : Core) : Core :=
  if s.seq.state = .idle ∧ s.mounted.isSome then s.queueByPanel .retake (.capture .auto true) else s.tone

/-- TURNED may be accepted (R164). -/
def Core.mayConfirm (v : Volume) (s : Core) : Bool :=
  decide (v.cursor < v.leaves) && s.motion.arm == .parked && s.motion.platen == .up
    && (s.seq.state == .idle || (s.seq.state == .held && s.seq.awaiting.isSome))

/-- TURNED (R18, R153, R164). -/
def Core.pressTurned (s : Core) : Core :=
  match s.volume with
  | some v =>
    if s.mayConfirm v then
      let k := v.cursor + 1
      let s := s.editMounted fun v =>
        { v with tallies := { v.tallies with manualTurns := bump v.tallies.manualTurns } }
      let s := (s.appendMounted .manualTurn k 0 none).moveCursor k
      (s.reportPress .turned (.turned v.cursor k s.seq.awaiting.isSome)).confirmTurn
    else s.tone
  | none => s.tone

/-- BACK (R18, R165). Its PANEL report comes after the BUDGET reports of the view period that the visit closes, an order
R165 does not fix: DESIGN CHOICE (notes 43). -/
def Core.pressBack (s : Core) : Core :=
  match s.volume with
  | some v =>
    if 0 < v.cursor ∧ s.quiet then
      (s.revisit (v.cursor - 1)).reportPress .back (.back v.cursor (v.cursor - 1))
    else s.tone
  | none => s.tone

/-- HOLD (R165): its report carries the state that results, and comes after the HOLD report (notes 43). -/
def Core.pressHold (s : Core) : Core :=
  let s := s.halt
  s.reportPress .hold (.halt s.seq.state)

/-- The action of an input's press (section 8.1). -/
def Core.pressAction (i : PanelInput) (s : Core) : Core :=
  match i with
  | .advance => s.pressAdvance
  | .retake => s.pressRetake
  | .turned => s.pressTurned
  | .back => s.pressBack
  | .hold => s.pressHold
  | .cont => s.pressContinue .cont

/-- A press taken when it is due (R156, R159). -/
def Core.press (i : PanelInput) (s : Core) : Core := if s.pressDue i then (s.setPressed i).pressAction i else s

/-- ADVANCE (R162). -/
def execAdvance (us : Nat) (s : State) : Result' := .next (s.event us (Core.press .advance))

/-- RETAKE_KEY (R163). -/
def execRetakeKey (us : Nat) (s : State) : Result' := .next (s.event us (Core.press .retake))

/-- TURNED_KEY (R164). -/
def execTurnedKey (us : Nat) (s : State) : Result' := .next (s.event us (Core.press .turned))

/-- BACK_KEY (R165). -/
def execBackKey (us : Nat) (s : State) : Result' := .next (s.event us (Core.press .back))

/-- HOLD_KEY (R165). -/
def execHoldKey (us : Nat) (s : State) : Result' := .next (s.event us (Core.press .hold))

/-- CONTINUE_KEY (R165). -/
def execContinueKey (us : Nat) (s : State) : Result' := .next (s.event us (Core.press .cont))

/-! ### Debounce -/

/-- A release of an input (R156). -/
def Core.releaseInput (i : PanelInput) (s : Core) : Core :=
  let x := s.input i
  if x.pressed && !x.raw && s.stable i then s.setInput i { x with pressed := false, settled := true } else s

/-- KEY_RELEASE (R156). -/
def execKeyRelease (us : Nat) (input : PanelInput) (s : State) : Result' := .next (s.event us (Core.releaseInput input))

/-- The first settling of an input (R156), to the level it stands at: not a press. -/
def Core.settleInput (i : PanelInput) (s : Core) : Core :=
  let x := s.input i
  if !x.settled && s.stable i then s.setInput i { x with pressed := x.raw, settled := true } else s

/-- FIRST_SETTLING (R156). -/
def execFirstSettling (us : Nat) (input : PanelInput) (s : State) : Result' := .next (s.event us (Core.settleInput input))

/-- A change of an input's raw level (R156): an input that had settled by then is marked so, and the count of stable
time starts afresh. -/
def Core.inputLevel (i : PanelInput) (pressed : Bool) (s : Core) : Core :=
  if (s.input i).raw = pressed then s
  else
    let s := s.settleInput i
    s.setInput i { s.input i with raw := pressed, since := s.now }

/-- RAW_INPUT_LEVEL_CHANGE (R156). -/
def execRawInputLevelChange (us : Nat) (input : PanelInput) (pressed : Bool) (s : State) : Result' :=
  .next (s.event us fun c => c.inputLevel input pressed)

/-- The six inputs in the order of section 8.1. -/
def panelInputs : List PanelInput := [.advance, .retake, .turned, .back, .hold, .cont]

/-- An input measured against a new debounce setting (R157): its first settling, its release or its press. What the
press hands on is taken up before the next input is measured, so that each press is tested on the state that the one
before has left (R156, R159). -/
def Core.measureInput (s : Core) (i : PanelInput) : Core := (((s.settleInput i).releaseInput i).press i).settle

/-- PANEL_SET at the panel interface (R157). -/
def Core.panelSet (id ms : Nat) (s : Core) : Core :=
  if ms = 10 ∨ ms = 20 ∨ ms = 40 ∨ ms = 80 then
    let s := { s with panel := { s.panel with debounce := ms } }.reply id .done (.debounce ms)
    panelInputs.foldl Core.measureInput s
  else s.reply id (.badField 1) .empty

/-- PANEL_SET (R157). -/
def execPanelSet (q : Req) (ms : Nat) (s : State) : Result' := .next (s.ask q 0x48 fun id c => c.panelSet id ms)

/-- The tone falls silent 150 ms after the last refusal (R166). -/
def Core.toneOver (s : Core) : Core :=
  match s.panel.tone with
  | some t => if s.due t 150 then { s with panel := { s.panel with tone := none } } else s
  | none => s

/-- TONE_END (R166). -/
def execToneEnd (us : Nat) (s : State) : Result' := .next (s.event us Core.toneOver)

/-! ### The light curtain -/

/-- The curtain breaks (R158, R158a): the state, the PANEL report, and the deliveries to the four units. -/
def Core.curtainBreaks (s : Core) : Core :=
  if s.panel.broken then s
  else
    let s := { s with panel := { s.panel with broken := true, rawBroken := true, clearSince := none } }
    ((((s.report (.panelCurtain s.stamp true)).motionBreak).illumBreak).captureBreak).seqBreak

/-- CURTAIN_BROKEN (R158). -/
def execCurtainBroken (us : Nat) (s : State) : Result' := .next (s.event us Core.curtainBreaks)

/-- The curtain has been clear for 200 ms (R158, R158a). -/
def Core.curtainClears (s : Core) : Core :=
  match s.panel.clearSince with
  | some t =>
    if s.panel.broken && s.due t 200 then
      let s := { s with panel := { s.panel with broken := false, clearSince := none } }
      ((s.report (.panelCurtain s.stamp false)).motionClear).advance
    else s
  | none => s

/-- CURTAIN_CLEAR (R158). -/
def execCurtainClear (us : Nat) (s : State) : Result' := .next (s.event us Core.curtainClears)

/-- The raw curtain input changes (R158): while BROKEN it starts or clears the count of clear time, and while CLEAR an
interruption breaks the curtain. -/
def Core.rawCurtain (interrupted : Bool) (s : Core) : Core :=
  if s.panel.broken then
    if interrupted then { s with panel := { s.panel with rawBroken := true, clearSince := none } }
    else if s.panel.rawBroken then { s with panel := { s.panel with rawBroken := false, clearSince := some s.now } }
    else s
  else if interrupted then s.curtainBreaks
  else s

/-- RAW_CURTAIN_INPUT_CHANGE (R158). -/
def execRawCurtainInputChange (us : Nat) (interrupted : Bool) (s : State) : Result' :=
  .next (s.event us fun c => c.rawCurtain interrupted)

end Sys2Proof.Machine
end

