-- ==== Sys2Proof/Machine/CounterCommands.lean ====
section
/-! DEFINITION. The commands of the activity counters (chapter 10) and the tick of the millisecond. -/

namespace Sys2Proof.Machine

/-! ### Configuration -/

/-- The configuration of a counter under a mask (R180): a change of event, threshold, invert or edge starts the count
afresh. -/
def counterForm (m : Mask) (enable : Bool) (event : CounterEvent) (threshold : Int) (invert edge : Bool) (c : Counter) :
    Counter :=
  let new := { c with
    enable := pick m 2 enable c.enable, event := pick m 3 event c.event, threshold := pick m 4 threshold c.threshold,
    invert := pick m 5 invert c.invert, edge := pick m 6 edge c.edge }
  if new.event = c.event ∧ new.threshold = c.threshold ∧ new.invert = c.invert ∧ new.edge = c.edge then new
  else { new with value := 0, overflow := false, memory := false }

/-- The event that COUNTER_SET names, absent when its field is present and no event has the code (R180). -/
def eventOf (m : Mask) (code : Nat) (held : CounterEvent) : Option CounterEvent :=
  if hasField m 3 then counterEventCodes[code]? else some held

/-- COUNTER_SET at the activity counters (R180). -/
def State.counterSet (id n : Nat) (m : Mask) (enable : Bool) (event : Nat) (threshold : Int) (invert edge : Bool)
    (s : State) : State :=
  if h : n < 4 then
    let c := s.counters[n]
    match eventOf m event c.event, strayField m 6 with
    | none, _ => s.run fun x => x.reply id (.badField 3) .empty
    | some _, some k => s.run fun x => x.reply id (.badField k) .empty
    | some e, none =>
      let c' := counterForm m enable e threshold invert edge c
      { s with counters := s.counters.set n c' }.run fun x => x.reply id .done (.counter c')
  else s.run fun x => x.reply id (.badField 1) .empty

/-- COUNTER_SET (R180). -/
def execCounterSet (q : Req) (n : Nat) (mask : Mask) (enable : Bool) (event : Nat) (threshold : Int) (invert edge : Bool)
    (s : State) : Result' :=
  .next (s.request q 0x50 fun id s => s.counterSet id n mask enable event threshold invert edge)

/-- A counter cleared (R183): its edge memory and configuration stand. -/
def Counter.zero (c : Counter) : Counter := { c with value := 0, overflow := false }

/-- COUNTER_GET (R183): the four counters, and those marked cleared in the same moment. Bit n of the clear mask stands
for counter n. -/
def execCounterGet (q : Req) (mask : Mask) (s : State) : Result' :=
  .next (s.request q 0x51 fun id s =>
    let body : Body := .counters s.counters.toList
    let cleared := Vector.ofFn fun i : Fin 4 => if mask.getLsbD i then (s.counters[i]).zero else s.counters[i]
    { s with counters := cleared }.run fun x => x.reply id .done body)

/-! ### BANDS_SET -/

/-- A threshold outside its range (R185). -/
def badBand (t : Nat) : Bool := decide (t < 1) || decide (200000 < t)

/-- The field that BANDS_SET is refused for: a value outside its range, or else the first not above the one before it
(R185). -/
def bandsFault (t1 t2 t3 t4 : Nat) : Option Nat :=
  if badBand t1 then some 1
  else if badBand t2 then some 2
  else if badBand t3 then some 3
  else if badBand t4 then some 4
  else if t2 ≤ t1 then some 2
  else if t3 ≤ t2 then some 3
  else if t4 ≤ t3 then some 4
  else none

/-- BANDS_SET at the activity counters (R185). -/
def Core.bandsSet (id t1 t2 t3 t4 : Nat) (s : Core) : Core :=
  match bandsFault t1 t2 t3 t4 with
  | some n => s.reply id (.badField n) .empty
  | none =>
    let b : Bands := { t1 := t1, t2 := t2, t3 := t3, t4 := t4 }
    { s with bands := b }.reply id .done (.bands b)

/-- BANDS_SET (R185). -/
def execBandsSet (q : Req) (t1 t2 t3 t4 : Nat) (s : State) : Result' :=
  .next (s.ask q 0x52 fun id c => c.bandsSet id t1 t2 t3 t4)

/-! ### Timers -/

/-- The queue-depth sample (R184). -/
def Core.depthSample (s : Core) : Core :=
  if s.due s.depthAt 100 then { s with depthAt := s.depthAt + 100000 }.tell .queueDepth s.seq.queue.length else s

/-- QUEUE_DEPTH_SAMPLE (R184). -/
def execQueueDepthSample (us : Nat) (s : State) : Result' := .next (s.event us Core.depthSample)

/-- The time stamp is incremented: the next millisecond begins, and it finds the view light lit or not and the thermal
hold in force or not (R184). -/
def Core.tick (s : Core) : Core :=
  let s := { s with now := (s.now / 1000 + 1) * 1000 }
  let s := if s.illum.view.state = .lit then s.tell .viewLightMs 0 else s
  if s.illum.hold then s.tell .thermalHoldMs 0 else s

/-- MS_TICK (R184). -/
def execMsTick (s : State) : Result' := .next (s.run Core.tick)

end Sys2Proof.Machine
end

