-- ==== Sys2Proof/Machine/Dispatch.lean ====
section
/-! DEFINITION. One arm for each command, each a direct call of its meaning. -/

namespace Sys2Proof.Machine

open Host (Outcome)

/-- The effect of a command on everything but the queue. -/
def exec (i : Instr) (s : State) : Host.Outcome State Fault Refusal :=
  match i with
  -- the link
  | .powerOn => Sys2Proof.Machine.execPowerOn s
  | .identify q => Sys2Proof.Machine.execIdentify q s
  | .linkStatus q clear => Sys2Proof.Machine.execLinkStatus q clear s
  | .statusGet q => Sys2Proof.Machine.execStatusGet q s
  | .stationReset q => Sys2Proof.Machine.execStationReset q s
  | .linkReset q => Sys2Proof.Machine.execLinkReset q s
  -- the volume table
  | .classSet q cls mask fields => Sys2Proof.Machine.execClassSet q cls mask fields s
  | .volumeAdd q shelf cls budget mask p segs => Sys2Proof.Machine.execVolumeAdd q shelf cls budget mask p segs s
  | .volumeMount q slot mask start angle => Sys2Proof.Machine.execVolumeMount q slot mask start angle s
  | .volumeUnmount q slot => Sys2Proof.Machine.execVolumeUnmount q slot s
  | .volumeClose q slot force => Sys2Proof.Machine.execVolumeClose q slot force s
  | .volumeWithdraw q slot => Sys2Proof.Machine.execVolumeWithdraw q slot s
  | .volumeRemove q slot => Sys2Proof.Machine.execVolumeRemove q slot s
  | .volumeSet q slot mask budget p cls segs => Sys2Proof.Machine.execVolumeSet q slot mask budget p cls segs s
  | .volumeGet q slot mask start => Sys2Proof.Machine.execVolumeGet q slot mask start s
  | .cursorSet q opening => Sys2Proof.Machine.execCursorSet q opening s
  | .exceptionsTake q slot n => Sys2Proof.Machine.execExceptionsTake q slot n s
  -- the illumination unit
  | .lightStage q mask fields => Sys2Proof.Machine.execLightStage q mask fields s
  | .limitsSet q eOp => Sys2Proof.Machine.execLimitsSet q eOp s
  | .lampsCalibrate q mask fields => Sys2Proof.Machine.execLampsCalibrate q mask fields s
  | .calibrationFlash q => Sys2Proof.Machine.execCalibrationFlash q s
  | .viewOn q => Sys2Proof.Machine.execViewOn q s
  | .viewOff q => Sys2Proof.Machine.execViewOff q s
  -- the measurement unit
  | .calibrate q channel mask x y => Sys2Proof.Machine.execCalibrate q channel mask x y s
  | .measure q channel => Sys2Proof.Machine.execMeasure q channel s
  -- the cradle motion unit
  | .home q => Sys2Proof.Machine.execHome q s
  | .angleSet q degrees => Sys2Proof.Machine.execAngleSet q degrees s
  -- the capture control unit
  | .captureDrain q n => Sys2Proof.Machine.execCaptureDrain q n s
  | .capturePeek q n => Sys2Proof.Machine.execCapturePeek q n s
  | .framesSet q ms => Sys2Proof.Machine.execFramesSet q ms s
  -- the step sequencer
  | .stepQueue q work gate => Sys2Proof.Machine.execStepQueue q work gate s
  | .stopSet q id opening => Sys2Proof.Machine.execStopSet q id opening s
  | .halt q => Sys2Proof.Machine.execHalt q s
  | .abort q => Sys2Proof.Machine.execAbort q s
  | .resume q => Sys2Proof.Machine.execResume q s
  | .stepFlush q => Sys2Proof.Machine.execStepFlush q s
  | .faultClear q kind => Sys2Proof.Machine.execFaultClear q kind s
  | .faultClearAll q => Sys2Proof.Machine.execFaultClearAll q s
  -- the panel setting
  | .panelSet q ms => Sys2Proof.Machine.execPanelSet q ms s
  -- the activity counters
  | .counterSet q n mask enable event threshold invert edge => Sys2Proof.Machine.execCounterSet q n mask enable event threshold invert edge s
  | .counterGet q mask => Sys2Proof.Machine.execCounterGet q mask s
  | .bandsSet q t1 t2 t3 t4 => Sys2Proof.Machine.execBandsSet q t1 t2 t3 t4 s
  -- the receive line and the transmitter
  | .unknownKind us kind tag => Sys2Proof.Machine.execUnknownKind us kind tag s
  | .droppedRequest us kind tag => Sys2Proof.Machine.execDroppedRequest us kind tag s
  | .checkError us frame => Sys2Proof.Machine.execCheckError us frame s
  | .fragment us bytes cause => Sys2Proof.Machine.execFragment us bytes cause s
  | .interByteGap us bytes next => Sys2Proof.Machine.execInterByteGap us bytes next s
  | .lineBreak us => Sys2Proof.Machine.execLineBreak us s
  | .frameSent us => Sys2Proof.Machine.execFrameSent us s
  -- the panel and the curtain
  | .advance us => Sys2Proof.Machine.execAdvance us s
  | .retakeKey us => Sys2Proof.Machine.execRetakeKey us s
  | .turnedKey us => Sys2Proof.Machine.execTurnedKey us s
  | .backKey us => Sys2Proof.Machine.execBackKey us s
  | .holdKey us => Sys2Proof.Machine.execHoldKey us s
  | .continueKey us => Sys2Proof.Machine.execContinueKey us s
  | .keyRelease us input => Sys2Proof.Machine.execKeyRelease us input s
  | .curtainBroken us => Sys2Proof.Machine.execCurtainBroken us s
  | .curtainClear us => Sys2Proof.Machine.execCurtainClear us s
  | .toneEnd us => Sys2Proof.Machine.execToneEnd us s
  -- the converter
  | .spotResult us code => Sys2Proof.Machine.execSpotResult us code s
  | .conversionFault us => Sys2Proof.Machine.execConversionFault us s
  | .lateResultDiscarded us code => Sys2Proof.Machine.execLateResultDiscarded us code s
  | .tempTimer us => Sys2Proof.Machine.execTempTimer us s
  -- lamps and the view light
  | .lampOff us window => Sys2Proof.Machine.execLampOff us window s
  | .recoveryEnd us => Sys2Proof.Machine.execRecoveryEnd us s
  | .thermalWaitExpiry us => Sys2Proof.Machine.execThermalWaitExpiry us s
  | .viewPeriodEnd us => Sys2Proof.Machine.execViewPeriodEnd us s
  -- the cradle
  | .homingPhaseDone us => Sys2Proof.Machine.execHomingPhaseDone us s
  | .homingPhaseTimeout us => Sys2Proof.Machine.execHomingPhaseTimeout us s
  | .angleReached us => Sys2Proof.Machine.execAngleReached us s
  | .angleTimeout us => Sys2Proof.Machine.execAngleTimeout us s
  | .platenSampleTimer us => Sys2Proof.Machine.execPlatenSampleTimer us s
  | .settlingEnd us => Sys2Proof.Machine.execSettlingEnd us s
  | .loweringTimeout us => Sys2Proof.Machine.execLoweringTimeout us s
  | .platenUp us => Sys2Proof.Machine.execPlatenUp us s
  | .raiseTimeout us => Sys2Proof.Machine.execRaiseTimeout us s
  | .cupContact us => Sys2Proof.Machine.execCupContact us s
  | .vacuumAtLevel us => Sys2Proof.Machine.execVacuumAtLevel us s
  | .puffEnd us => Sys2Proof.Machine.execPuffEnd us s
  | .vacuumTimeout us => Sys2Proof.Machine.execVacuumTimeout us s
  | .vacuumBelow us => Sys2Proof.Machine.execVacuumBelow us s
  | .leafRaised us => Sys2Proof.Machine.execLeafRaised us s
  | .putDownDone us => Sys2Proof.Machine.execPutDownDone us s
  | .sweepArrived us => Sys2Proof.Machine.execSweepArrived us s
  | .releaseDone us => Sys2Proof.Machine.execReleaseDone us s
  | .armAtPark us => Sys2Proof.Machine.execArmAtPark us s
  | .armLimitExpiry us => Sys2Proof.Machine.execArmLimitExpiry us s
  -- the cameras
  | .cameraLineChange us camera ready fault => Sys2Proof.Machine.execCameraLineChange us camera ready fault s
  | .cameraWaitExpiry us => Sys2Proof.Machine.execCameraWaitExpiry us s
  | .frameTimeout us => Sys2Proof.Machine.execFrameTimeout us s
  -- timers and raw lines
  | .pauseEnd us => Sys2Proof.Machine.execPauseEnd us s
  | .queueDepthSample us => Sys2Proof.Machine.execQueueDepthSample us s
  | .msTick => Sys2Proof.Machine.execMsTick s
  | .rawCurtainInputChange us interrupted => Sys2Proof.Machine.execRawCurtainInputChange us interrupted s
  | .rawInputLevelChange us input pressed => Sys2Proof.Machine.execRawInputLevelChange us input pressed s
  | .firstSettling us input => Sys2Proof.Machine.execFirstSettling us input s
  | .lineReturnToIdle us => Sys2Proof.Machine.execLineReturnToIdle us s

end Sys2Proof.Machine
end

