-- ==== Sys2Proof/Machine/Wire.lean ====
section
/-! DEFINITION. What the transmitter puts on the line (section 11.6, R191, R194, R199): the bytes of a reply and of a
report, with their check. The layouts of section 11.6 are the manual's. Where it gives an enumeration no codes, they
follow R199 by the first place of the manual where each value stands for its enumeration; the order of the parts of a composite field is that of the rule
that forms it: DEDUCED (notes 11, 14). -/

namespace Sys2Proof.Machine

/-! ### Numbers, texts, lists -/

/-- A number in `n` bytes, the least significant first (section 11.6). -/
def le : Nat → Nat → List Byte
  | 0, _ => []
  | n + 1, x => BitVec.ofNat 8 x :: le n (x / 256)

/-- A signed number in `n` bytes in two's complement (section 11.6). -/
def leInt (n : Nat) (x : Int) : List Byte := le n (x % 256 ^ n).toNat

/-- A flag (R199). -/
def flag (b : Bool) : List Byte := [if b then 1#8 else 0#8]

/-- A text: its count byte and its characters (R199). -/
def text (t : List Byte) : List Byte := le 1 t.length ++ t

/-- A list: a count of 1 byte and its entries (R199). -/
def listOf {α : Type} (f : α → List Byte) (xs : List α) : List Byte := le 1 xs.length ++ xs.flatMap f

/-- A field that may be absent, with the width of its own bytes (R199). -/
def opt {α : Type} (n : Nat) (f : α → List Byte) : Option α → List Byte
  | some x => 1#8 :: f x
  | none => 0#8 :: List.replicate n 0#8

/-- The code of a value: its place in the list of its enumeration. -/
def codeIn {α : Type} [BEq α] (xs : List α) (x : α) : List Byte := le 1 (xs.idxOf x)

/-! ### Enumerations -/

/-- Side codes of a resolved side (section 11.6). -/
def Side.code : Side → Nat
  | .both => 1
  | .verso => 2
  | .recto => 3

/-- Limiting causes in the order of section 11.6. -/
def causeCodes : List Cause := [.none, .thermal, .dose, .material, .operator]

/-- Sources (R199, notes 11). -/
def sourceCodes : List Source := [.nominal, .meter]

/-- Exception kinds in the order of section 1.6. -/
def exceptionCodes : List ExceptionKind :=
  [.doublePick, .noPick, .turnFailed, .vacuumLost, .manualTurn, .cursorMoved, .gapNoted, .ceilingReached,
    .budgetExhausted, .captureFailed, .doseEstimated, .forcedClose]

/-- Flash refusal reasons (R199, notes 11). -/
def flashReasonCodes : List FlashReason :=
  [.ceiling, .budget, .thermal, .material, .operator, .notCalibrated, .busy, .noVolume]

/-- Lifecycle states (R199, notes 11). -/
def lifecycleCodes : List Lifecycle := [.idle, .thermalHold, .lit, .admitting, .meterWait, .recovering]

/-- View light states (R199, notes 11). -/
def viewStateCodes : List ViewState := [.off, .lit, .forcedOff, .suppressed]

/-- Kinds of conversion (R199, notes 11). -/
def convKindCodes : List ConvKind := [.spot, .window]

/-- Sequencer states (R199, notes 11). -/
def seqStateCodes : List SeqState := [.running, .halting, .held, .idle]

/-- Hold reasons (R199, notes 11). -/
def holdReasonCodes : List HoldReason := [.exceptionsFull, .assist, .fault, .stepFailed, .halt, .interlock]

/-- Kinds of assistance (R199, notes 11). -/
def assistCodes : List AssistKind := [.turnFailed, .vacuumLost, .manualTurn, .interlock]

/-- The awaited assistance as a kind of assistance. -/
def Awaited.kind : Awaited → AssistKind
  | .manualTurn => .manualTurn
  | .turnFailed => .turnFailed
  | .vacuumLost => .vacuumLost

/-- Step kinds (R199, notes 11). -/
def stepKindCodes : List StepKind := [.cycle, .light, .capture, .turn, .mark, .pause]

/-- Origins (R199, notes 11). -/
def originCodes : List Origin := [.link, .panel]

/-- Step results (R199, notes 11). -/
def stepResultCodes : List StepResult := [.cancelled, .skipped, .done, .failed]

/-- Reasons of a step's result (R199, notes 11). -/
def stepReasonCodes : List StepReason :=
  [.guard, .alreadyCaptured, .capture, .ceiling, .budget, .thermal, .material, .operator, .notCalibrated,
    .cameraNotReady, .platen, .noVolume, .busy, .fault, .notReady, .noReference, .atEnd, .stopPassed, .stopReached,
    .abort, .flush, .turn, .manualTurn]

/-- Why the platen did not come down (R199, notes 11). -/
def platenReasonCodes : List PlatenReason := [.armOut, .busy, .notReady, .sensor, .force, .timeout]

/-- Homing outcomes (R199, notes 11). -/
def homingOutcomeCodes : List HomingOutcome := [.interlock, .aborted, .completed, .failed]

/-- The inputs of a PANEL report: the six of the panel, and CURTAIN, which follows them (R161, R199, notes 11). -/
def panelInputCodes : List PanelInput := [.advance, .turned, .back, .cont, .hold, .retake]

/-- Stop causes (R199, notes 11). -/
def stopCauseCodes : List StopCause := [.curtain, .vacuumLost]

/-- The phase of a homing as a number: phase 3 has two legs (R94). -/
def HomingPhase.number : HomingPhase → Nat
  | .platen => 1
  | .arm => 2
  | .angleSensor => 3
  | .angleTarget => 3
  | .reference => 4

/-- Platen states: UNREFERENCED, UP, DOWN, LOWERING, RAISING, STOPPED, FAULT (R199, notes 11). -/
def PlatenState.code : PlatenState → Nat
  | .unreferenced => 0
  | .up => 1
  | .down => 2
  | .moving .lowering => 3
  | .moving .raising => 4
  | .stopped _ => 5
  | .fault => 6

/-- Angle states (R199, notes 11). -/
def angleCodes : List AngleState := [.unreferenced, .atAngle, .moving, .stopped, .fault]

/-- The moving states of the arm among its states (R199, notes 11). -/
def ArmMove.code : ArmMove → Nat
  | .releasing => 2
  | .sweeping => 3
  | .lifting => 4
  | .gauging => 5
  | .returning => 6

/-- Arm states: UNREFERENCED, PARKED, RELEASING, SWEEPING, LIFTING, GAUGING, RETURNING, STOPPED, FAULT (R199,
notes 11). -/
def ArmState.code : ArmState → Nat
  | .unreferenced => 0
  | .parked => 1
  | .moving m => m.code
  | .stopped _ _ => 7
  | .fault => 8

/-- The stage that a turn has reached, in the order a turn goes through them (section 5.1, notes 14). -/
def ArmStage.code : ArmStage → Nat
  | .descend => 0
  | .suck => 1
  | .leafUp => 2
  | .gauge => 3
  | .putDown _ => 4
  | .sweep => 5
  | .release => 6
  | .travel => 7
  | .reference => 8

/-- Frame states (R199, notes 11). -/
def FrameState.code : FrameState → Nat
  | .notNeeded => 0
  | .waiting => 1
  | .triggered => 2
  | .taken => 3
  | .failed _ => 4

/-- Causes of a failed camera (R199, notes 11). -/
def cameraCauseCodes : List CameraCause := [.notReady, .fault, .timeout]

/-- Phases of an attempt; IDLE is the absence of one (R199, notes 11). -/
def phaseCodes : List (Option AttemptPhase) :=
  [some .ringWait, some .lit, none, some .preparing, some .admitting, some .collecting]

/-- Endings of an attempt (section 6.2.6, R199, notes 11). An attempt refused BUSY has none of them (notes 40). -/
def AttemptEnding.code : AttemptEnding → Option Nat
  | .lit .ok _ _ _ => some 0
  | .noVolume => some 1
  | .platenFailed _ => some 2
  | .cameraNotReady _ => some 3
  | .notLit _ => some 4
  | .lit .versoFailed _ _ _ => some 5
  | .lit .rectoFailed _ _ _ => some 6
  | .lit .bothFailed _ _ _ => some 7
  | .lit .aborted _ _ _ => some 8
  | .busy => none

/-- Refusal reasons in the order of R191. -/
def reasonCodes : List Reason :=
  [.state, .duplicate, .noVolume, .notCalibrated, .notQuiet, .incomplete, .stillPresent, .interlock]

/-- Status codes in the order of R191. -/
def Status.code : Status → Nat
  | .done => 0
  | .doneClamped _ => 1
  | .queued _ => 2
  | .busy => 3
  | .refused _ => 4
  | .badField _ => 5
  | .notFound => 6
  | .full => 7
  | .unknownKind => 8

/-- The qualifier of a status (R191). -/
def Status.qualifier : Status → Nat
  | .doneClamped m => m.toNat
  | .queued id => id
  | .refused r => reasonCodes.idxOf r
  | .badField n => n
  | _ => 0

/-! ### Layouts of section 11.6 -/

/-- A page label, 6 bytes. -/
def PageLabel.bytes : PageLabel → List Byte
  | .leaf i st n recto => le 1 0 ++ le 1 i ++ codeIn styleCodes st ++ le 1 (if recto then 3 else 2) ++ le 2 n
  | .frontBoard => le 6 1
  | .backBoard => le 6 2

/-- A label that may be absent, zero then. -/
def labelBytes : Option PageLabel → List Byte
  | some l => l.bytes
  | none => le 6 0

/-- An exception entry, 16 bytes. -/
def ExceptionEntry.bytes (e : ExceptionEntry) : List Byte :=
  codeIn exceptionCodes e.kind ++ flag e.seq.isSome ++ le 2 e.opening ++ le 4 e.detail
    ++ le 4 (e.seq.map BitVec.toNat |>.getD 0) ++ le 4 e.stamp.toNat

/-- Flags packed into one byte, bit 0 first. -/
def bits : List Bool → Nat
  | [] => 0
  | b :: bs => (if b then 1 else 0) + 2 * bits bs

/-- A CAPTURE record, 60 bytes. Section 11.6 gives the T at offset 58 no absent form: a T that the dose record does not
hold (notes 6) is sent as 0, the model's choice (notes 14). -/
def CaptureRecord.bytes (r : CaptureRecord) : List Byte :=
  le 1 1 ++ le 4 r.seq.toNat ++ le 4 r.stamp.toNat ++ le 1 r.slot ++ le 2 r.inst.toNat ++ le 2 r.opening
    ++ le 1 (bits [r.left.isSome, r.right.isSome, r.gapBefore, r.dose.saturated, r.dose.dimmed,
      r.dose.source == .nominal])
    ++ le 1 r.side.code ++ le 1 r.outcome.code ++ codeIn causeCodes r.dose.cause ++ le 2 (min r.number 65535)
    ++ labelBytes r.left ++ labelBytes r.right ++ le 4 r.dose.eUsed ++ le 4 r.dose.eApp ++ le 4 r.dose.d
    ++ le 4 r.dose.q ++ le 4 r.dose.aOpenAfter ++ le 6 r.dose.uAfter ++ leInt 2 (r.dose.t.getD 0)

/-- A MARK record, 15 bytes. -/
def MarkRecord.bytes (r : MarkRecord) : List Byte :=
  le 1 2 ++ le 4 r.seq.toNat ++ le 4 r.stamp.toNat ++ flag r.place.isSome
    ++ le 1 (r.place.map (·.1) |>.getD 0) ++ le 2 (r.place.map (·.2) |>.getD 0) ++ le 2 r.note

/-- A record of the ring. -/
def Record.bytes : Record → List Byte
  | .capture r => r.bytes
  | .mark r => r.bytes

/-! ### Fields of bodies and reports -/

/-- A segment, 7 bytes (R199). -/
def Segment.bytes (g : Segment) : List Byte :=
  codeIn segKindCodes g.kind ++ codeIn styleCodes g.style ++ le 2 g.first ++ le 2 g.last ++ flag g.foldout

/-- A class (section 1.2). -/
def classBytes (c : ClassFields) : List Byte :=
  text c.name ++ le 4 c.eMat ++ le 4 c.cOpen ++ leInt 2 c.warn ++ leInt 2 c.limit ++ le 1 c.maxAngle ++ le 1 c.vacuum
    ++ le 2 c.puff ++ le 1 c.retryLimit ++ le 2 c.openFloor ++ le 2 c.singleFloor ++ le 2 c.force

/-- A lamp setting (section 4.1.1). -/
def settingBytes (x : Setting) : List Byte :=
  le 2 x.cVU ++ le 2 x.cVL ++ le 2 x.cRU ++ le 2 x.cRL ++ le 4 x.d ++ le 4 x.eFloor ++ le 2 x.cV

/-- The tallies of a record (R21). -/
def Tallies.bytes (t : Tallies) : List Byte :=
  le 4 t.captured ++ le 4 t.attempts ++ le 4 t.retakes ++ le 4 t.turns ++ le 4 t.manualTurns ++ le 4 t.doublePicks

/-- The conservation summary (section 10.3). -/
def Summary.bytes (x : Summary) : List Byte :=
  le 4 x.below1 ++ le 4 x.below2 ++ le 4 x.below3 ++ le 4 x.below4 ++ le 4 x.above4 ++ le 4 x.causeNone
    ++ le 4 x.causeThermal ++ le 4 x.causeDose ++ le 4 x.causeMaterial ++ le 4 x.causeOperator ++ le 4 x.highestE
    ++ opt 2 (leInt 2) x.highestT ++ le 4 x.viewMs ++ le 4 x.estimated

/-- The state of a record, MOUNTED, REGISTERED, COMPLETE, WITHDRAWN (R199, notes 11). -/
def recordStateByte (mounted : Bool) (st : RecordState) : List Byte :=
  if mounted then le 1 0
  else match st with
    | .registered => le 1 1
    | .complete => le 1 2
    | .withdrawn => le 1 3

/-- The body of VOLUME_GET, in the order of R24. -/
def VolumeBody.bytes (b : VolumeBody) : List Byte :=
  let v := b.record
  le 1 b.slot ++ le 2 v.inst.toNat ++ text v.shelf ++ le 1 v.cls.val ++ recordStateByte b.isMounted v.state
    ++ le 6 v.budget ++ le 6 v.uF ++ le 6 v.uV ++ le 1 v.p ++ flag v.low ++ flag v.exhausted ++ le 2 b.leaves
    ++ listOf Segment.bytes v.segs ++ le 2 v.cursor ++ listOf (fun r => le 2 r.1 ++ le 2 r.2) b.runs ++ flag b.moreRuns
    ++ v.tallies.bytes ++ le 2 b.exceptionCount ++ v.summary.bytes ++ b.left.bytes ++ b.right.bytes ++ flag b.gapBefore
    ++ le 2 b.freeSegments ++ le 2 b.freeExceptions ++ opt 4 (le 4) b.aOpen

/-- The flags of a result, of which at most one is set: HIGH_SAT, LOW_SAT and FAULT, each a flag of 1 byte (R199), in the
order of section 3.2 (notes 14). -/
def resultFlagBytes (f : Option ResultFlag) : List Byte :=
  [ResultFlag.highSat, .lowSat, .fault].flatMap fun x => flag (f == some x)

/-- A latched result (section 3.2): code, time stamp, flags, value, kind. -/
def Result.bytes (r : Result) : List Byte :=
  leInt 4 r.code ++ le 4 r.stamp.toNat ++ resultFlagBytes r.flag ++ opt 4 (leInt 4) r.value ++ codeIn convKindCodes r.kind

/-- A channel. -/
def channelByte (c : Channel) : List Byte := codeIn channelCodes c

/-- Cameras: V, R (R199, notes 11). -/
def cameraCodes : List Camera := [.V, .R]

/-- A camera. -/
def cameraByte (c : Camera) : List Byte := codeIn cameraCodes c

/-- The detail of an entry of the fault set: a number of 2 bytes, or a set of names (section 9.2, R199, notes 14). -/
def FaultDetail.bytes : FaultDetail → List Byte
  | .lowering => le 2 (PlatenState.code (.moving .lowering))
  | .raising => le 2 (PlatenState.code (.moving .raising))
  | .homing p => le 2 p.number
  | .force f => leInt 2 f
  | .arm m => le 2 m.code
  | .angle a => le 2 a
  | .vacuum n => le 2 n
  | .cameras cs => listOf cameraByte cs
  | .channels cs => listOf channelByte cs

/-- The detail of one raise (R171): one camera or one channel for the two kinds whose entries hold a set, its code in
the 2 bytes of every other detail (notes 14). -/
def FaultDetail.raiseBytes : FaultDetail → List Byte
  | .cameras [c] => le 2 (cameraCodes.idxOf c)
  | .channels [c] => le 2 (channelCodes.idxOf c)
  | d => d.bytes

/-- An entry of the fault set (section 9.1). -/
def FaultEntry.bytes (e : FaultEntry) : List Byte :=
  codeIn faultKindCodes e.kind ++ e.detail.bytes ++ le 4 e.stamp.toNat ++ le 1 e.count ++ flag e.acked

/-- The first-fault record, with the detail of its raise (R170). -/
def FirstFault.bytes (e : FirstFault) : List Byte :=
  codeIn faultKindCodes e.kind ++ e.detail.raiseBytes ++ le 4 e.stamp.toNat

/-- The ten conditions, in the order of section 7.2. -/
def StatusWord.bytes (w : StatusWord) : List Byte :=
  flag w.turnOne ++ flag w.turnDouble ++ flag w.captureOk ++ flag w.captureDimmed ++ flag w.skipped
    ++ flag w.openingCaptured ++ flag w.atLastOpening ++ flag w.nextFoldout ++ flag w.budgetLow ++ flag w.ceilingNear

/-- The stopped state of an axis, as a code, and the cause of the stop, each absent unless the axis is STOPPED
(section 5.1, R197). -/
def stopBytes (x : Option (Nat × StopCause)) : List Byte :=
  opt 1 (le 1) (x.map (·.1)) ++ opt 1 (codeIn stopCauseCodes) (x.map (·.2))

/-- The platen's state with its stopped state and cause: only the curtain stops it. -/
def PlatenState.bytes (p : PlatenState) : List Byte :=
  le 1 p.code ++ stopBytes (match p with
    | .stopped m => some (PlatenState.code (.moving m), .curtain)
    | _ => none)

/-- The angle's state with its stopped state, MOVING, and the cause: only the curtain stops it. -/
def AngleState.bytes (a : AngleState) : List Byte :=
  codeIn angleCodes a ++ stopBytes (if a = .stopped then some (angleCodes.idxOf .moving, .curtain) else none)

/-- The arm's state with its stopped state and cause. -/
def ArmState.bytes (a : ArmState) : List Byte :=
  le 1 a.code ++ stopBytes (match a with
    | .stopped m c => some (m.code, c)
    | _ => none)

/-- A camera's levels, READY and FAULT, and its frame state (R115). -/
def CameraState.bytes (c : CameraState) : List Byte :=
  flag c.ready ++ flag c.fault ++ le 1 c.frame.code
    ++ opt 1 (codeIn cameraCauseCodes) (match c.frame with
      | .failed x => some x
      | _ => none)

/-- The turn in hand with the stage it has reached, in the order of section 5.1. -/
def turnBytes (t : Turn) (stage : ArmStage) : List Byte :=
  le 2 t.opening ++ le 1 t.attempt ++ le 1 t.retries ++ flag t.many ++ le 1 stage.code

/-- What a turn request waits for: the angle 0, its preliminary raise 1 (R101, notes 14). -/
def TurnWait.code : TurnWait → Nat
  | .angle => 0
  | .raise => 1

/-- Forces on the view light (R85, R199, notes 11). -/
inductive ViewForce where
  | ceiling | budget | thermal
deriving DecidableEq, Repr

/-- The codes of the forces by their first places, the BUDGET force of section 2.6.4, the THERMAL force of R82 and
CEILING of R85 (R199, notes 11), and the order in which their set is sent (notes 48). -/
def viewForceCodes : List ViewForce := [.budget, .thermal, .ceiling]

/-- A force stands. -/
def ViewLight.holdsForce (v : ViewLight) : ViewForce → Bool
  | .ceiling => v.ceiling
  | .budget => v.budget
  | .thermal => v.thermal

/-- The force set as it is sent (R85). -/
def ViewLight.forceBytes (v : ViewLight) : List Byte := listOf (codeIn viewForceCodes) (viewForceCodes.filter v.holdsForce)

/-- The picture of STATUS_GET, in the order of R197; the failed marks and the waiting requests, which section 5.1 lists
and R197 does not, follow the turn and the homing (notes 14). DESIGN CHOICE (notes 14): all of camera V, its READY, FAULT,
frame state and cause, comes before all of camera R; of the conversion in progress its channel and its kind are sent, each
with its own presence byte, and so are the head's id and kind. Codes: valve OPEN, CLOSED; vacuum report AT_LEVEL, BELOW;
curtain CLEAR, BROKEN (notes 11). -/
def StatusBody.bytes (b : StatusBody) : List Byte :=
  codeIn seqStateCodes b.seqState ++ opt 1 (codeIn holdReasonCodes) b.reason
    ++ opt 1 (fun a => codeIn assistCodes (Awaited.kind a)) b.awaiting ++ flag b.suspended
    ++ listOf (codeIn assistCodes) b.assist ++ le 1 b.depth ++ opt 2 (le 2) (b.head.map (·.1))
    ++ opt 1 (codeIn stepKindCodes) (b.head.map (·.2)) ++ le 2 b.nextId ++ b.word.bytes
    ++ opt 1 (le 1) (b.mounted.map (·.1)) ++ opt 2 (le 2) (b.mounted.map (·.2.1)) ++ opt 4 (le 4) (b.mounted.map (·.2.2))
    ++ b.platen.bytes ++ b.angle.bytes ++ b.arm.bytes
    ++ le 1 (if b.valveOpen then 0 else 1) ++ le 1 (if b.vacuumAt then 0 else 1)
    ++ opt 1 (le 1) b.anglePos ++ opt 1 (le 1) b.angleTarget ++ opt 4 (leInt 4) b.cRef
    ++ opt 6 (fun t => turnBytes t b.turnStage) b.turn
    ++ opt 1 (fun p => le 1 (HomingPhase.number p)) b.homing
    ++ flag b.failedMarks.1 ++ flag b.failedMarks.2.1 ++ flag b.failedMarks.2.2
    ++ flag b.lowerHeld ++ opt 1 (fun w => le 1 (TurnWait.code w)) b.turnWait
    ++ codeIn lifecycleCodes b.life ++ flag b.hold ++ codeIn viewStateCodes b.viewState ++ flag b.view.wanted
    ++ b.view.forceBytes ++ flag b.view.suppressed
    ++ settingBytes b.staged ++ settingBytes b.active ++ le 4 b.eOp
    ++ [b.latch.p, b.latch.g, b.latch.f, b.latch.t].flatMap (opt 17 Result.bytes)
    ++ opt 1 (fun c => channelByte c.1) b.conv ++ opt 1 (fun c => codeIn convKindCodes c.2) b.conv
    ++ listOf channelByte b.pendingConv
    ++ codeIn phaseCodes b.phase ++ b.camV.bytes ++ b.camR.bytes ++ le 1 b.ringCount ++ le 1 b.reserved
    ++ le 4 b.nextSeq.toNat ++ listOf FaultEntry.bytes b.faults ++ opt 7 FirstFault.bytes b.first
    ++ le 1 (if b.curtainBroken then 1 else 0) ++ flag b.readyLamp ++ flag b.assistLamp ++ flag b.lightLamp
    ++ le 1 b.reportDepth

/-- The applied codes of a flash, one field of 8 bytes where it may be absent (notes 14). -/
def appliedBytes (a : Admission) : List Byte := le 2 a.cVU ++ le 2 a.cVL ++ le 2 a.cRU ++ le 2 a.cRL

/-- The figures of a refusal (R34), one field of 25 bytes where they may be absent as a whole; A_open and U, which the
reduced admission of R36 does not have, each with a presence byte of its own (notes 14). -/
def RefusalFigures.bytes (f : RefusalFigures) : List Byte :=
  codeIn causeCodes f.cause ++ le 4 f.eReq ++ le 4 f.eEff ++ le 4 f.floor ++ opt 4 (le 4) f.aOpen ++ opt 6 (le 6) f.u

/-- A refused flash: its reason, and the figures of an admission's refusal. -/
def FlashRefusal.bytes (r : FlashRefusal) : List Byte :=
  codeIn flashReasonCodes r.reason ++ opt 25 RefusalFigures.bytes r.figures

/-- The body of CALIBRATION_FLASH (R81); outcomes are coded LIT, NOT_LIT, ABORTED (notes 11). -/
def CalFlash.bytes : CalFlash → List Byte
  | .lit a r e src =>
    le 1 0 ++ appliedBytes a ++ le 4 a.eReq ++ le 4 a.eEff ++ le 4 a.eApp ++ codeIn causeCodes a.cause ++ flag a.dimmed
      ++ leInt 4 r.code ++ resultFlagBytes r.flag ++ le 4 e ++ codeIn sourceCodes src
  | .notLit r => le 1 1 ++ FlashRefusal.bytes r
  | .aborted codes t => le 1 2 ++ opt 8 appliedBytes codes ++ le 4 t

/-- The calibration fields of a channel (section 3.3). -/
def calBytes (ch : Channel) (c : CalPair) : List Byte :=
  match ch with
  | .P => leInt 4 c.x ++ leInt 4 c.y
  | .G => leInt 4 c.x
  | .F => leInt 4 c.x ++ leInt 2 c.y
  | .T => leInt 2 c.x ++ leInt 2 c.y

/-- The configuration of a counter (R180). -/
def Counter.configBytes (c : Counter) : List Byte :=
  flag c.enable ++ codeIn counterEventCodes c.event ++ leInt 4 c.threshold ++ flag c.invert ++ flag c.edge

/-- A counter as COUNTER_GET carries it: value, overflow flag and configuration (R183). -/
def Counter.bytes (c : Counter) : List Byte := le 4 c.value ++ flag c.overflow ++ c.configBytes

/-- "Kesvari" and "Foliant FT-3 Cradle Controller" in ASCII (R196). -/
def vendorText : List Byte := [0x4B#8, 0x65#8, 0x73#8, 0x76#8, 0x61#8, 0x72#8, 0x69#8]

/-- The part text of R196. -/
def partText : List Byte :=
  [0x46#8, 0x6F#8, 0x6C#8, 0x69#8, 0x61#8, 0x6E#8, 0x74#8, 0x20#8, 0x46#8, 0x54#8, 0x2D#8, 0x33#8, 0x20#8, 0x43#8,
    0x72#8, 0x61#8, 0x64#8, 0x6C#8, 0x65#8, 0x20#8, 0x43#8, 0x6F#8, 0x6E#8, 0x74#8, 0x72#8, 0x6F#8, 0x6C#8, 0x6C#8,
    0x65#8, 0x72#8]

/-- The body of IDENTIFY (R196): texts, revision 1 and the capacities. -/
def identityBytes : List Byte :=
  text vendorText ++ text partText ++ le 2 1 ++ le 1 8 ++ le 1 16 ++ le 2 256 ++ le 2 256 ++ le 1 16 ++ le 1 64 ++ le 1 32
    ++ le 1 4 ++ le 1 16 ++ le 2 1024

/-- The body of a reply. The body of CALIBRATE is the channel's calibration alone, its fields in the order of section 3.3
(R60). The model's choices (notes 14): the axes of a HOME reply stand in the order of section 5.1, and whether C_ref was
renewed, which R95 gives with COMPLETED alone, is a field that may be absent, absent with every other outcome; and the clamp
mask of a QUEUED takes 2 bytes (notes 49). -/
def Body.bytes : Body → List Byte
  | .empty => []
  | .identity => identityBytes
  | .linkCounts f c r q => le 4 f ++ le 4 c ++ le 4 r ++ le 4 q
  | .status b => b.bytes
  | .cls c => classBytes c
  | .added slot inst => le 1 slot ++ le 2 inst.toNat
  | .volume b => b.bytes
  | .exceptions es => listOf ExceptionEntry.bytes es
  | .setting x => settingBytes x
  | .cap e => le 4 e
  | .lampCal c => le 4 c.nVU ++ le 4 c.nVL ++ le 4 c.nRU ++ le 4 c.nRL ++ le 2 c.nView
  | .calFlash c => c.bytes
  | .view v => codeIn viewStateCodes v
  | .channelCal ch c => c.map (calBytes ch) |>.getD []
  | .measured ch r =>
    channelByte ch ++ codeIn convKindCodes r.kind ++ leInt 4 r.code ++ resultFlagBytes r.flag
      ++ le 4 r.stamp.toNat ++ opt 4 (leInt 4) r.value
  | .homed o p pl arm ang renewed =>
    codeIn homingOutcomeCodes o ++ le 1 p.number ++ le 1 pl.code ++ codeIn angleCodes ang ++ le 1 arm.code
      ++ opt 1 flag (if o = .completed then some renewed else none)
  | .records rs => listOf Record.bytes rs
  | .frames ms => le 2 ms
  | .stepClamps m => le 2 m.toNat
  | .flushed n => le 1 n
  | .cleared removed remaining =>
    listOf (codeIn faultKindCodes) removed ++ listOf (fun e => codeIn faultKindCodes e.1 ++ e.2.bytes) remaining
  | .debounce ms => le 1 ms
  | .counter c => c.configBytes ++ le 4 c.value
  | .counters cs => cs.flatMap Counter.bytes
  | .bands b => le 4 b.t1 ++ le 4 b.t2 ++ le 4 b.t3 ++ le 4 b.t4

/-! ### Reports -/

/-- The kind codes of the reports, F0h to F7h in the order of R194. -/
def Report.kind : Report → Byte
  | .stepDone _ _ _ _ _ _ _ => 0xF0
  | .hold _ _ _ _ => 0xF1
  | .captureReady _ _ _ => 0xF2
  | .faultRaised _ _ _ _ _ _ => 0xF3
  | .faultEnded _ _ _ _ => 0xF3
  | .assist _ _ _ _ _ => 0xF4
  | .budgetLow _ _ _ _ _ => 0xF5
  | .budgetExhausted _ _ _ _ => 0xF5
  | .thermal _ _ _ => 0xF6
  | .panelKey _ _ _ => 0xF7
  | .panelCurtain _ _ => 0xF7

/-- The sequence number, attempt number and Q_plan of an ending, when the attempt was lit (R148). -/
def AttemptEnding.figures : AttemptEnding → Option (SeqNo × Nat × Nat)
  | .lit _ seq n q => some (seq, n, q)
  | _ => none

/-- What an ending carries of its own (section 6.2.6). -/
def AttemptEnding.detailBytes : AttemptEnding → List Byte
  | .notLit r => r.bytes
  | .cameraNotReady cs => listOf cameraByte cs
  | .platenFailed r => codeIn platenReasonCodes r
  | _ => []

/-- What an attempt adds to a STEP_DONE (R148): its ending, sequence number, attempt number and Q_plan, each absent
when there is none (R199), and then what the ending carries. -/
def endingBytes (e : Option AttemptEnding) : List Byte :=
  let f := e.bind AttemptEnding.figures
  opt 1 (le 1) (e.bind AttemptEnding.code) ++ opt 4 (fun x => le 4 x.1.toNat) f
    ++ opt 2 (fun x => le 2 (min x.2.1 65535)) f ++ opt 4 (fun x => le 4 x.2.2) f
    ++ (e.map AttemptEnding.detailBytes |>.getD [])

/-- What a STEP_DONE adds for its kind (R148). The clamp mask of a LIGHT takes 2 bytes: DESIGN CHOICE (notes 49). -/
def StepExtra.bytes : StepExtra → List Byte
  | .none => []
  | .capture e => endingBytes e
  | .cycle n stop => le 2 n ++ le 2 stop
  | .mark seq => opt 4 (fun x => le 4 (BitVec.toNat x)) seq
  | .light m => le 2 m.toNat

/-- The answer to RESUME in a PANEL report, DONE or its refusal reason (R161). Section 11.6 and R199 give an answer that
may be either no layout: the model sends it as the opening of a reply, the status (1 byte) and the qualifier (4 bytes),
which also carries an answer that is neither, FULL. The model's choice (notes 14). -/
def answerBytes (st : Status) : List Byte := le 1 st.code ++ le 4 st.qualifier

/-- The action of a PANEL report of an input, QUEUED 0, CONTINUE 1, HALT 2 (R161, notes 11, 14). The row of CONTINUE
itself names no action, and those of TURNED and BACK none either. -/
def PanelAction.bytes (i : PanelInput) : PanelAction → List Byte
  | .cont cleared st => (if i = .cont then [] else le 1 1) ++ flag cleared ++ answerBytes st
  | .queued id k => le 1 0 ++ le 2 id ++ codeIn stepKindCodes k
  | .halt st => le 1 2 ++ codeIn seqStateCodes st
  | .turned old new answered => le 2 old ++ le 2 new ++ flag answered
  | .back old new => le 2 old ++ le 2 new

/-- The fields of a report (R194). A FAULT report has the fields of its event. Codes: RAISED,
ENDED; LOW, EXHAUSTED; ENTERED, LEFT; curtain CLEAR, BROKEN (notes 11). The value of a THERMAL report is absent
where the manual says FAULT, and the W of a BUDGET report EXHAUSTED is absent (notes 14). -/
def Report.payload : Report → List Byte
  | .stepDone id k o r reason w x =>
    le 2 id ++ codeIn stepKindCodes k ++ codeIn originCodes o ++ codeIn stepResultCodes r
      ++ opt 1 (codeIn stepReasonCodes) reason ++ w.bytes ++ x.bytes
  | .hold r a h susp =>
    codeIn holdReasonCodes r ++ opt 1 (fun x => codeIn assistCodes (Awaited.kind x)) a ++ opt 2 (le 2) h ++ flag susp
  | .captureReady n o nw => le 1 n ++ le 4 o.toNat ++ le 4 nw.toNat
  | .faultRaised k d t n first total =>
    le 1 0 ++ codeIn faultKindCodes k ++ d.raiseBytes ++ le 4 t.toNat ++ le 1 n ++ flag first ++ le 1 total
  | .faultEnded k d t total => le 1 1 ++ codeIn faultKindCodes k ++ d.bytes ++ le 4 t.toNat ++ le 1 total
  | .assist k t h place op =>
    codeIn assistCodes k ++ le 4 t.toNat ++ opt 2 (le 2) h ++ opt 1 (le 1) (place.map (·.1))
      ++ opt 2 (le 2) (place.map (·.2)) ++ opt 2 (le 2) op
  | .budgetLow slot inst b u w => le 1 0 ++ le 1 slot ++ le 2 inst.toNat ++ le 6 b ++ le 6 u ++ opt 6 (le 6) (some w)
  | .budgetExhausted slot inst b u =>
    le 1 1 ++ le 1 slot ++ le 2 inst.toNat ++ le 6 b ++ le 6 u ++ opt 6 (le 6) none
  | .thermal entered v limits =>
    le 1 (if entered then 0 else 1) ++ opt 2 (leInt 2) v ++ opt 2 (leInt 2) (limits.map (·.1))
      ++ opt 2 (leInt 2) (limits.map (·.2))
  | .panelKey i t a => codeIn panelInputCodes i ++ le 4 t.toNat ++ a.bytes i
  | .panelCurtain t broken => le 1 panelInputCodes.length ++ le 4 t.toNat ++ le 1 (if broken then 1 else 0)

/-! ### Frames -/

/-- The payload of a reply: status, qualifier and body (R191). -/
def Reply.payload (r : Reply) : List Byte := le 1 r.status.code ++ le 4 r.status.qualifier ++ r.body.bytes

/-- The bytes of a frame from its sync byte to its check, the check's high byte first (R189, section 11.6). -/
def frameBytes (kind tag : Byte) (payload : List Byte) : List Byte :=
  let body := frameBody kind tag payload
  let c := frameCheck body
  0xA5#8 :: body ++ [(c >>> 8).setWidth 8, c.setWidth 8]

/-- The bytes on the line of the frame that the transmitter sends: a reply carries its request's kind plus 80h and its
tag (R191), a report its own kind and tag 0 (R194). The sum for a request kind of 80h or above is taken modulo 256: DESIGN
CHOICE (notes 49). -/
def TxFrame.bytes : TxFrame → List Byte
  | .reply _ kind tag r => frameBytes (kind + 0x80#8) tag r.payload
  | .report r => frameBytes r.kind 0#8 r.payload

end Sys2Proof.Machine
end

