-- ==== Sys2Proof/Safety.lean ====
section
/-! DEFINITION. The words in which statements about the FT-3 are put: when a request reaches its owner, the state that
one reply leaves, what the station keeps bounded, and when the cradle stands still. -/

namespace Sys2Proof

/-- The request that a command is, with its kind (section 11.5); none for an event. -/
def Instr.request? : Instr → Option (Req × Byte)
  | .identify q => some (q, 0x01)
  | .linkStatus q _ => some (q, 0x02)
  | .statusGet q => some (q, 0x03)
  | .stationReset q => some (q, 0x04)
  | .linkReset q => some (q, 0x05)
  | .classSet q _ _ _ => some (q, 0x10)
  | .volumeAdd q _ _ _ _ _ _ => some (q, 0x11)
  | .volumeMount q _ _ _ _ => some (q, 0x12)
  | .volumeUnmount q _ => some (q, 0x13)
  | .volumeClose q _ _ => some (q, 0x14)
  | .volumeWithdraw q _ => some (q, 0x15)
  | .volumeRemove q _ => some (q, 0x16)
  | .volumeSet q _ _ _ _ _ _ => some (q, 0x17)
  | .volumeGet q _ _ _ => some (q, 0x18)
  | .cursorSet q _ => some (q, 0x19)
  | .exceptionsTake q _ _ => some (q, 0x1A)
  | .lightStage q _ _ => some (q, 0x20)
  | .limitsSet q _ => some (q, 0x21)
  | .lampsCalibrate q _ _ => some (q, 0x22)
  | .calibrationFlash q => some (q, 0x23)
  | .viewOn q => some (q, 0x24)
  | .viewOff q => some (q, 0x24)
  | .calibrate q _ _ _ _ => some (q, 0x28)
  | .measure q _ => some (q, 0x29)
  | .home q => some (q, 0x30)
  | .angleSet q _ => some (q, 0x31)
  | .captureDrain q _ => some (q, 0x38)
  | .capturePeek q _ => some (q, 0x39)
  | .framesSet q _ => some (q, 0x3A)
  | .stepQueue q _ _ => some (q, 0x40)
  | .stopSet q _ _ => some (q, 0x41)
  | .halt q => some (q, 0x42)
  | .abort q => some (q, 0x43)
  | .resume q => some (q, 0x44)
  | .stepFlush q => some (q, 0x45)
  | .faultClear q _ => some (q, 0x46)
  | .faultClearAll q => some (q, 0x46)
  | .panelSet q _ => some (q, 0x48)
  | .counterSet q _ _ _ _ _ _ _ => some (q, 0x50)
  | .counterGet q _ => some (q, 0x51)
  | .bandsSet q _ _ _ _ => some (q, 0x52)
  | _ => none

/-! ### Ranges -/

/-- A lamp setting within the ranges of section 4.1.1 (R70). -/
def Setting.Legal (x : Setting) : Prop :=
  x.cVU ≤ 4095 ∧ x.cVL ≤ 4095 ∧ x.cRU ≤ 4095 ∧ x.cRL ≤ 4095 ∧ 200 ≤ x.d ∧ x.d ≤ 500000 ∧ x.eFloor ≤ 200000
    ∧ x.cV ≤ 4095

/-- A lamp calibration within its ranges (R73). -/
def LampCal.Legal (x : LampCal) : Prop :=
  x.nVU ≤ 100000 ∧ x.nVL ≤ 100000 ∧ x.nRU ≤ 100000 ∧ x.nRL ≤ 100000 ∧ x.nView ≤ 5000

/-- A material class within the ranges of section 1.2, its limit temperature at least 10 above its warn temperature and
its single floor below its open floor (R5). -/
def ClassFields.Legal (x : ClassFields) : Prop :=
  Machine.nameOk x.name = true ∧ 500 ≤ x.eMat ∧ x.eMat ≤ 200000 ∧ 1000 ≤ x.cOpen ∧ x.cOpen ≤ 1000000000
    ∧ -400 ≤ x.warn ∧ x.warn ≤ 1990 ∧ x.warn + 10 ≤ x.limit ∧ x.limit ≤ 2000
    ∧ 80 ≤ x.maxAngle ∧ x.maxAngle ≤ 180 ∧ 5 ≤ x.vacuum ∧ x.vacuum ≤ 200 ∧ 10 ≤ x.puff ∧ x.puff ≤ 500
    ∧ x.retryLimit ≤ 3 ∧ x.singleFloor < x.openFloor ∧ x.openFloor ≤ 1000 ∧ 5 ≤ x.force ∧ x.force ≤ 300

end Sys2Proof

namespace Sys2Proof.Machine

/-! ### Requests -/

/-- A request reaches its owner (R190, R195): the line is not held in break, the pending-reply list has room, the payload
has its length, and no entry of the list has the number that the request's entry takes. -/
structure Taken (q : Req) (s : State) : Prop where
  line : s.link.lineBroken = false
  room : s.link.pending.length < 16
  length : q.lengthOk = true
  fresh : ∀ p ∈ s.link.pending, p.id ≠ s.link.nextEntry

/-- The link port after a request whose one reply is formed at once (R190, R193): the parser in HUNT, the entry added
with its reply, and the transmitter given a frame when it was idle. -/
def Link.after (q : Req) (kind : Byte) (r : Reply) (l : Link) : Link :=
  ({ l with
    parser := { phase := .hunt, buf := [] }
    pending := l.pending ++ [{ id := l.nextEntry, kind := kind, tag := q.tag, reply := some r }]
    nextEntry := l.nextEntry + 1 } : Link).pump

/-- The state after a request that one reply answers at once: the blocks as given, the link port with the reply, and
the counters and the queue as they were. -/
def State.answered (q : Req) (kind : Byte) (st : Status) (b : Body) (c : Core) (s : State) : State :=
  { s with
    core := { c with out := [], sig := [] }
    link := s.link.after q kind { status := st, body := b } }

/-- The reply of a request stands in the pending-reply list, in the newest place. -/
def Replied (q : Req) (kind : Byte) (st : Status) (b : Body) (s t : State) : Prop :=
  t.link.pending = s.link.pending ++
    [{ id := s.link.nextEntry, kind := kind, tag := q.tag, reply := some { status := st, body := b } }]

/-- The entry of a request stands in the pending-reply list without a reply. -/
def Waits (q : Req) (kind : Byte) (s t : State) : Prop :=
  t.link.pending = s.link.pending ++ [{ id := s.link.nextEntry, kind := kind, tag := q.tag, reply := none }]

/-- The blocks as a command finds them: at its instant, with no message in hand. -/
def State.found (s : State) (us : Nat) : Core := { s.core.atUs us with out := [], sig := [] }

/-- A change of the blocks that hands nothing over: the link port, the counters and the queue stand, but for the
frame that an idle transmitter takes. -/
def State.quietly (c : Core) (s : State) : State :=
  { s with core := { c with out := [], sig := [] }, link := s.link.pump }

/-! ### Bounds -/

/-- What the link port keeps (R190, R194, R196): at most 16 entries, numbered in the order taken, at most 32 reports,
and counts of 32 bits. -/
structure Link.Bounded (l : Link) : Prop where
  entries : l.pending.length ≤ 16
  order : l.pending.Pairwise fun p r => p.id < r.id
  fresh : ∀ p ∈ l.pending, p.id < l.nextEntry
  reports : l.reports.length ≤ 32
  fragments : l.fragments ≤ 4294967295
  checkErrors : l.checkErrors ≤ 4294967295
  droppedReports : l.droppedReports ≤ 4294967295
  droppedRequests : l.droppedRequests ≤ 4294967295

/-- The link port and the four counters are within their bounds (R183, R190, R194, R196). -/
def State.Bounded (s : State) : Prop := s.link.Bounded ∧ ∀ i : Fin 4, (s.counters[i]).value ≤ 4294967295

/-- The entry numbers that work in hand keeps for its reply were given out before (R190; the numbers are the model's,
notes 7): those of a calibration flash in hand and of one past its lamp-off, of a homing, and of each MEASURE that waits
for a conversion. -/
structure State.NumbersIssued (s : State) : Prop where
  flash : ∀ (f : Flash) (e : Nat), s.core.illum.flash = some f → f.by_ = .calibration e → e < s.link.nextEntry
  closing : ∀ (f : Flash) (e : Nat), s.core.illum.closing = some f → f.by_ = .calibration e → e < s.link.nextEntry
  homing : ∀ h : Homing, s.core.motion.homing = some h → h.entry < s.link.nextEntry
  measures : ∀ e : Nat, .measure e ∈ s.core.meas.allWaiting → e < s.link.nextEntry

/-! ### Mountings -/

/-- The blocks after the end of a mounting whose view light is not lit (R7, R89): nothing mounted, the slots as given, no
accumulator, and the wanted flag, the suppression and the forces BUDGET and CEILING gone; THERMAL stands. -/
def Core.unmounted (slots : Vector (Option Volume) 16) (s : Core) : Core :=
  { s with
    vols := { s.vols with mounted := none, slots := slots }
    dose := { aOpen := none, accrual := none }
    illum := { s.illum with
      view := { s.illum.view with wanted := false, suppressed := false, budget := false, ceiling := false } } }

/-! ### Capacities -/

/-- The entries that the exception lists of the records hold, of the pool of 256 (R6, R22). -/
def Core.exceptionTotal (s : Core) : Nat :=
  (s.vols.slots.toList.map fun v => match v with
    | some v => v.exceptions.length
    | none => 0).sum

/-- The entries that the segment lists of the records hold, of the pool of 256 (R6). -/
def Core.segmentTotal (s : Core) : Nat :=
  (s.vols.slots.toList.map fun v => match v with
    | some v => v.segs.length
    | none => 0).sum

/-- The arm is on the way of a turn, moving or stopped, before its return to PARK. -/
def ArmState.carrying : ArmState → Bool
  | .moving m => m != .returning
  | .stopped m _ => m != .returning
  | _ => false

/-- What the blocks keep within their capacities: the ring with its reservation (R117, R127), the step queue (R135), which
is empty in IDLE, the two pools (R6, R22), and the cursors, which stand at most at L (R18). A turn on its way has a leaf to
carry: the cursor of the mounted volume stands below L (R101). -/
structure Core.WithinCapacities (s : Core) : Prop where
  ring : s.cap.ring.length + s.cap.reserved ≤ 64
  queue : s.seq.queue.length ≤ 16
  idle : s.seq.state = .idle → s.seq.queue = []
  exceptions : s.exceptionTotal ≤ 256
  segments : s.segmentTotal ≤ 256
  cursors : ∀ (i : Fin 16) (v : Volume), s.vols.slots[i] = some v → v.cursor ≤ v.leaves
  carried : s.motion.turn.isSome → s.motion.arm.carrying → ∃ v, s.volume = some v ∧ v.cursor < v.leaves

/-! ### Stillness -/

/-- The cradle stands still while the curtain is BROKEN (R94, R95, R109): no axis is in a moving state and no homing is
in hand. -/
def Core.Still (s : Core) : Prop :=
  s.panel.broken = true →
    s.motion.platen.inMotion = false ∧ s.motion.angle ≠ .moving ∧ s.motion.arm.inMotion = false ∧ s.motion.homing = none

/-! ### Steps -/

/-- The id after one (R135): after 65,535 comes 1. -/
def stepIdAfter (n : Nat) : Nat := if n < 65535 then n + 1 else 1

/-- The sequencer with a step of the link at the head of an empty queue, RUNNING and started (R135, R136, R141). -/
def Sequencer.begun (w : StepWork) (gate : Option Guard) (x : Sequencer) : Sequencer :=
  { x with
    queue := [{ id := x.nextId, origin := .link, work := w, gate := gate }], nextId := stepIdAfter x.nextId
    state := .running, reason := none, started := true }

/-- The sequencer after the end of its only step (R148): the queue empty, no progress kept, IDLE, and
STEP_SKIPPED_LAST written. -/
def Sequencer.ended (skipped : Bool) (x : Sequencer) : Sequencer :=
  { x with
    queue := [], awaiting := none, started := false, op := none, cycle := none, pause := none
    state := .idle, reason := none, latched := { x.latched with skipped := skipped } }

/-- The side that a CAPTURE resolves to at an opening of a volume of L leaves (R116). -/
def SideAsked.resolved (opening leaves : Nat) : SideAsked → Side
  | .both => .both
  | .verso => .verso
  | .recto => .recto
  | .auto => if opening = 0 then .recto else if opening = leaves then .verso else .both

/-- A turn at its first attempt (R101, R102). -/
def Turn.first (opening : Nat) : Turn :=
  { opening := opening, attempt := 1, retries := 0, many := false, laid := false, failed := false, vacLost := false,
    aborting := false }

/-- The cradle is ready to lower the platen or to turn a leaf (R97, R101): the platen UP, the angle not moving and not
stopped, the arm PARKED and the curtain CLEAR. -/
structure Core.CradleReady (s : Core) : Prop where
  platen : s.motion.platen = .up
  moving : s.motion.angle ≠ .moving
  stopped : s.motion.angle ≠ .stopped
  arm : s.motion.arm = .parked
  curtain : s.panel.broken = false

/-- The measurement unit has nothing in hand (R51, R52). -/
structure Core.ConverterFree (s : Core) : Prop where
  conv : s.meas.conv = none
  pending : s.meas.pending = ⟨none, none, none, none⟩

/-- The blocks as the platen begins to come down for an attempt (R97, R98, R118): LOWERING with its first force sample, and
the view light suppressed. -/
def Core.lowered (s : Core) : Core :=
  { s with
    illum := { s.illum with view := { s.illum.view with suppressed := true } }
    motion := { s.motion with settle := none, platen := .moving .lowering, platenSince := s.now, sampleAt := s.now }
    meas := { s.meas with
      conv := some { channel := .F, kind := .spot, requesters := [.force], since := s.now, limit := 12000 } } }

/-- The sequencer as a released hold leaves it (R152): RUNNING with no hold record and no interlock hold. -/
def Sequencer.resumed (x : Sequencer) : Sequencer := { x with state := .running, reason := none, interlock := false }

/-- A mounted record whose operator has turned a leaf by hand (R18): the cursor one on, the manual turn counted and
MANUAL_TURN appended at the new opening. -/
def Volume.turnedByHand (t : Stamp) (v : Volume) : Volume :=
  { v with
    cursor := v.cursor + 1
    tallies := { v.tallies with manualTurns := v.tallies.manualTurns + 1 }
    exceptions := v.exceptions ++
      [{ kind := .manualTurn, opening := v.cursor + 1, detail := 0, seq := none, stamp := t }] }

/-- The blocks after the volume table has taken a hand turn, with no view light to account for (R18): the record replaced,
A_open back at 0 and the count of lit attempts at 0. -/
def Core.turnedByHand (i : Fin 16) (v : Volume) (s : Core) : Core :=
  { s with
    vols := { s.vols with slots := s.vols.slots.set i (some (v.turnedByHand s.stamp)) }
    dose := { s.dose with aOpen := s.dose.aOpen.map fun _ => 0 }
    cap := { s.cap with litCount := 0 } }

/-! ### The curtain -/

/-- The attempt as a break of the curtain leaves it (R120): one not yet lit takes the interlock mark, and its camera wait
is stopped. -/
def Attempt.interrupted (a : Attempt) : Attempt :=
  if a.phase = .ringWait ∨ a.phase = .preparing ∨ a.phase = .admitting then
    { a with
      interlock := true
      prep := match a.prep with
        | .cameras _ => .stopped
        | p => p }
  else a

/-- The sequencer as a break leaves it (R149, R178): HELD for the interlock from RUNNING and HALTING, and else as it is. -/
def Sequencer.interrupted (x : Sequencer) : Sequencer :=
  if x.state = .running ∨ x.state = .halting then
    { x with state := .held, reason := some .interlock, interlock := true }
  else x

/-- The blocks as a break of the curtain leaves them where nothing moves and no flash waits (R109, R120, R149, R158). -/
def Core.interrupted (s : Core) : Core :=
  { s with
    panel := { s.panel with broken := true, rawBroken := true, clearSince := none }
    motion := { s.motion with puff := none }
    cap := { s.cap with attempt := s.cap.attempt.map Attempt.interrupted }
    seq := s.seq.interrupted }

/-- The blocks as the clearing of the curtain leaves them where nothing waits for it (R158). -/
def Core.cleared (s : Core) : Core := { s with panel := { s.panel with broken := false, clearSince := none } }

/-- The measurement unit once some requesters have withdrawn from a channel (R56, R109): they leave the channel's pending
entry, which is a spot from then on and goes when nobody else waits on it, and they are no longer handed the result of a
conversion of the channel in progress. -/
def Measure.without (ch : Channel) (gone : List Requester) (m : Measure) : Measure :=
  { m with
    conv := m.conv.map fun c =>
      if c.channel = ch then { c with requesters := c.requesters.filter fun r => decide (r ∉ gone) } else c
    pending := m.pending.set ch ((m.pending.get ch).bind fun e =>
      let others := e.requesters.filter fun r => decide (r ∉ gone)
      if others = [] then none else some { kind := .spot, requesters := others }) }

/-- No window waits in the entry of a channel: only P has windows (R53). -/
def Measure.SpotsOnly (ch : Channel) (m : Measure) : Prop :=
  ∀ e, m.pending.get ch = some e → .window ∉ e.requesters

/-! ### Settings -/

/-- A channel's calibration within the ranges of section 3.3 (R60); G has the one field O_G. -/
def CalPair.Legal (x : CalPair) : Channel → Prop
  | .P => -65536 ≤ x.x ∧ x.x ≤ 65535 ∧ 1000 ≤ x.y ∧ x.y ≤ 200000
  | .G => -65536 ≤ x.x ∧ x.x ≤ 65535
  | .F => -65536 ≤ x.x ∧ x.x ≤ 65535 ∧ 1 ≤ x.y ∧ x.y ≤ 5000
  | .T => -400 ≤ x.x ∧ x.x ≤ 2000 ∧ 1 ≤ x.y ∧ x.y ≤ 3000

/-- The settings of the station are ones their requests allow: the debounce time (R157), the bands (R185), the operator
cap (R72), the frame timeout (R131), the staged and the active lamp setting (R70, R71), the lamp calibration (R73), the
calibrations of the channels (R60) and the defined classes (R5). -/
structure Core.SettingsLegal (s : Core) : Prop where
  debounce : s.panel.debounce ∈ [10, 20, 40, 80]
  bands : 1 ≤ s.bands.t1 ∧ s.bands.t1 < s.bands.t2 ∧ s.bands.t2 < s.bands.t3 ∧ s.bands.t3 < s.bands.t4
    ∧ s.bands.t4 ≤ 200000
  cap : s.illum.eOp ≤ 200000
  frameTimeout : 1000 ≤ s.cap.frameTimeout ∧ s.cap.frameTimeout ≤ 30000
  staged : s.illum.staged.Legal
  active : s.illum.active.Legal
  lamps : ∀ x : LampCal, s.illum.lampCal = some x → x.Legal
  channels : ∀ (ch : Channel) (x : CalPair), s.meas.cal.get ch = some x → x.Legal ch
  classes : ∀ (i : Fin 8) (x : ClassFields), s.vols.classes[i] = some x → x.Legal

end Sys2Proof.Machine
end

