-- ==== Sys2Proof/Certificates/Slice0/Obligations.lean ====
section
/-! DEFINITION. The statements about the FT-3, in the words of `Sys2Proof.Safety`. Each docstring names the rules of the
manual that it follows and the notes of the choices that it rests on. -/

open Sys2Proof Sys2Proof.Machine

/-! ### The machine -/

/-- A step takes the command at the front of the queue and runs it with the queue's rest. -/
def Obligations.StepRunsTheFrontCommand : Prop :=
  ∀ (c : Instr) (s : State),
    step { s with pending := c :: s.pending } = exec c s
      ∧ (s.pending = [] → step s = .next s)

/-- No command changes the queue of those that wait, and none stops the machine. That POWER_ON keeps the queue too,
and that an event which cannot come goes on, are the model's choices (notes 24 and 3). -/
def Obligations.EveryCommandGoesOn : Prop :=
  ∀ (c : Instr) (s : State), ∃ t, exec c s = .next t ∧ t.pending = s.pending

/-- The power-on state keeps the bounds and the capacities, stands still, has legal settings, and no work in hand
keeps an entry number. -/
def Obligations.ResetKeepsTheInvariants : Prop :=
  State.reset.Bounded ∧ State.reset.core.Still ∧ State.reset.core.SettingsLegal ∧ State.reset.core.WithinCapacities
    ∧ State.reset.NumbersIssued

/-- Every step keeps the bounds of the link port and of the counters (R183, R190, R194, R196). Every step keeps the
capacities of the blocks: the ring with its reservation holds at most 64, the step queue at most 16, the exception
pool and the segment pool at most 256 each, and the cursor of a record stands at most at its L (R6, R18, R22, R117,
R135). Every step keeps the entry numbers of the work in hand below the next one to be given (R190; the numbers are
the model's, notes 7). -/
def Obligations.StepKeepsBounds : Prop :=
  (∀ (s t : State), s.Bounded → step s = .next t → t.Bounded)
    ∧ ((∀ (s t : State), s.core.WithinCapacities → step s = .next t → t.core.WithinCapacities)
          ∧ (∀ (s t : State), s.NumbersIssued → step s = .next t → t.NumbersIssued))

/-- Every step keeps the cradle still while the curtain is BROKEN (R94, R95, R109). -/
def Obligations.StepKeepsStill : Prop :=
  ∀ (s t : State), s.core.Still → step s = .next t → t.core.Still

/-- Every step keeps the settings in the ranges their requests allow: the debounce time (R157), the bands (R185), the
operator cap (R72), the frame timeout (R131), the staged and the active lamp setting (R70, R71), the lamp calibration
(R73), the calibrations of the channels (R60) and the defined classes (R5). -/
def Obligations.StepKeepsSettingsLegal : Prop :=
  ∀ (s t : State), s.core.SettingsLegal → step s = .next t → t.core.SettingsLegal

/-- Time does not go back, and the millisecond ends only with MS_TICK. That the instant of a command lies inside the
present millisecond is the model's choice (notes 2). -/
def Obligations.TimeGoesOn : Prop :=
  ∀ (c : Instr) (s t : State), exec c s = .next t → c ≠ .powerOn →
    s.core.now ≤ t.core.now
      ∧ t.core.now / 1000 = if c = .msTick then s.core.now / 1000 + 1 else s.core.now / 1000

/-- Each setting has one owner: the class table changes only by CLASS_SET, the band thresholds only by BANDS_SET, the
debounce time only by PANEL_SET, the frame timeout only by FRAMES_SET, the operator cap only by LIMITS_SET, the lamp
calibration only by LAMPS_CALIBRATE and the channel calibrations only by CALIBRATE; POWER_ON resets them all. -/
def Obligations.SettingsHaveOneOwner : Prop :=
  ∀ (c : Instr) (s t : State), exec c s = .next t → c ≠ .powerOn →
    ((∀ q n m x, c ≠ .classSet q n m x) → t.core.vols.classes = s.core.vols.classes)
      ∧ ((∀ q a b d e, c ≠ .bandsSet q a b d e) → t.core.bands = s.core.bands)
      ∧ ((∀ q ms, c ≠ .panelSet q ms) → t.core.panel.debounce = s.core.panel.debounce)
      ∧ ((∀ q ms, c ≠ .framesSet q ms) → t.core.cap.frameTimeout = s.core.cap.frameTimeout)
      ∧ ((∀ q e, c ≠ .limitsSet q e) → t.core.illum.eOp = s.core.illum.eOp)
      ∧ ((∀ q m x, c ≠ .lampsCalibrate q m x) → t.core.illum.lampCal = s.core.illum.lampCal)
      ∧ ((∀ q ch m x y, c ≠ .calibrate q ch m x y) → t.core.meas.cal = s.core.meas.cal)

/-- POWER_ON brings every block to its power-on state (R5, R6, R26, R68, R91, R114, R133, R155, R157, R158, R177,
R180, R185, R195), whatever came before: the illumination unit has no flash and no last lamp-off, and the view light
no flag and no force (R91); the homing-failed marks are clear, and no request is held for the angle (R114); both
triggers are released, every frame state is NOT_NEEDED and no lit attempt is counted (R133); no hold record exists,
and the five latched conditions are false (R155). -/
def Obligations.PowerOnStartsFromNothing : Prop :=
  ∀ s : State, ∃ t, exec .powerOn s = .next t
    ∧ t.core.now = 0
    ∧ (∀ i : Fin 8, t.core.vols.classes[i] = none) ∧ (∀ i : Fin 16, t.core.vols.slots[i] = none)
    ∧ t.core.vols.mounted = none ∧ t.core.vols.instCount = 0
    ∧ t.core.dose = { aOpen := none, accrual := none }
    ∧ t.core.meas = { conv := none, pending := ⟨none, none, none, none⟩, latch := ⟨none, none, none, none⟩,
                      cal := ⟨none, none, none, none⟩, timer := none }
    ∧ t.core.illum.staged = { cVU := 0, cVL := 0, cRU := 0, cRL := 0, d := 10000, eFloor := 0, cV := 0 }
    ∧ t.core.illum.active = t.core.illum.staged ∧ t.core.illum.eOp = 200000 ∧ t.core.illum.lampCal = none
    ∧ t.core.illum.life = .idle ∧ t.core.illum.hold = false ∧ t.core.illum.view.state = .off
    ∧ t.core.illum.view = { wanted := false, suppressed := false, thermal := false, budget := false, ceiling := false }
    ∧ t.core.illum.flash = none ∧ t.core.illum.closing = none ∧ t.core.illum.lampOffAt = none
    ∧ t.core.motion.platen = .unreferenced ∧ t.core.motion.angle = .unreferenced ∧ t.core.motion.arm = .unreferenced
    ∧ t.core.motion.valveOpen = false ∧ t.core.motion.cRef = none ∧ t.core.motion.turn = none
    ∧ t.core.motion.homing = none ∧ t.core.motion.turnWait = none ∧ t.core.motion.lowerHeld = false
    ∧ t.core.motion.platenFailed = false ∧ t.core.motion.angleFailed = false ∧ t.core.motion.armFailed = false
    ∧ t.core.motion.anglePos = none
    ∧ (t.core.cap.camV.trigger = false ∧ t.core.cap.camV.frame = .notNeeded)
    ∧ (t.core.cap.camR.trigger = false ∧ t.core.cap.camR.frame = .notNeeded) ∧ t.core.cap.litCount = 0
    ∧ t.core.cap.attempt = none ∧ t.core.cap.mark = none ∧ t.core.cap.ring = [] ∧ t.core.cap.nextSeq = 1
    ∧ t.core.cap.frameTimeout = 8000
    ∧ t.core.seq.queue = [] ∧ t.core.seq.nextId = 1 ∧ t.core.seq.state = .idle ∧ t.core.seq.interlock = false
    ∧ t.core.seq.reason = none ∧ t.core.seq.awaiting = none
    ∧ t.core.seq.latched = { turnOne := false, turnDouble := false, captureOk := false, captureDimmed := false,
                             skipped := false }
    ∧ t.core.faults = [] ∧ t.core.first = none
    ∧ t.core.panel.debounce = 20 ∧ t.core.panel.broken = true ∧ t.core.panel.tone = none
    ∧ (t.core.panel.inputs.advance.pressed = false ∧ t.core.panel.inputs.retake.pressed = false
        ∧ t.core.panel.inputs.turned.pressed = false ∧ t.core.panel.inputs.back.pressed = false
        ∧ t.core.panel.inputs.hold.pressed = false ∧ t.core.panel.inputs.cont.pressed = false)
    ∧ t.core.bands = { t1 := 1000, t2 := 5000, t3 := 10000, t4 := 20000 }
    ∧ (∀ i : Fin 4, t.counters[i] =
        { value := 0, overflow := false, enable := false, event := .flashes, threshold := 0, invert := false,
          edge := false, memory := false })
    ∧ t.link.pending = [] ∧ t.link.reports = [] ∧ t.link.tx = none ∧ t.link.fragments = 0 ∧ t.link.checkErrors = 0
    ∧ t.link.droppedReports = 0 ∧ t.link.droppedRequests = 0 ∧ t.link.parser.phase = .hunt

/-! ### The link port -/

/-- A request whose payload has another length than its fields make up is answered BAD_FIELD with field index 0,
whatever its kind, and nothing of it is applied (R190, R191). While 16 entries wait, a request of any kind is
discarded unanswered and one dropped request is counted; while the line is held in break nothing is taken (R190, R195,
R196). A request of a kind outside the catalogue is answered UNKNOWN_KIND at once; with 16 entries waiting it is
discarded and counted as one dropped request (R190). -/
def Obligations.RequestsMayBeTurnedAway : Prop :=
  ((∀ (i : Instr) (q : Req) (kind : Byte) (s : State), i.request? = some (q, kind) →
          Taken { q with lengthOk := true } s → q.lengthOk = false →
            exec i s = .next (s.answered q kind (.badField 0) .empty (s.found q.us)))
       ∧ (∀ (i : Instr) (q : Req) (kind : Byte) (s : State), i.request? = some (q, kind) →
             (s.link.lineBroken = false → 16 ≤ s.link.pending.length →
               exec i s = .next { s with
                 core := s.core.atUs q.us
                 link := { s.link with
                   parser := { phase := .hunt, buf := [] }
                   droppedRequests := min 4294967295 (s.link.droppedRequests + 1) } })
               ∧ (s.link.lineBroken = true → exec i s = .next { s with core := s.core.atUs q.us })))
    ∧ (∀ (us : Nat) (kind tag : Byte) (s : State),
          (kind.toNat ∉ catalogue → Taken { us := us, tag := tag, lengthOk := true } s →
            exec (.unknownKind us kind tag) s = .next
              (s.answered { us := us, tag := tag, lengthOk := true } kind .unknownKind .empty (s.found us)))
            ∧ (s.link.lineBroken = false → 16 ≤ s.link.pending.length →
              exec (.droppedRequest us kind tag) s = .next { s with
                core := s.core.atUs us
                link := { s.link with
                  parser := { phase := .hunt, buf := [] }
                  droppedRequests := min 4294967295 (s.link.droppedRequests + 1) } }))

/-- IDENTIFY is answered with the identity, and LINK_STATUS with the four counts, which a set clear flag sets to 0 in
the same moment; neither changes anything else (R196). STATUS_GET is answered with a picture of the controller as it
stands, and changes nothing but the count of free values, which an angle in the middle of a move takes (R96, R197;
notes 5). -/
def Obligations.ControllerIsRead : Prop :=
  (∀ (q : Req) (s : State), Taken q s →
       exec (.identify q) s = .next (s.answered q 0x01 .done .identity (s.found q.us))
         ∧ exec (.linkStatus q false) s = .next (s.answered q 0x02 .done
             (.linkCounts s.link.fragments s.link.checkErrors s.link.droppedReports s.link.droppedRequests) (s.found q.us))
         ∧ exec (.linkStatus q true) s = .next (State.answered q 0x02 .done
             (.linkCounts s.link.fragments s.link.checkErrors s.link.droppedReports s.link.droppedRequests) (s.found q.us)
             { s with link := { s.link with fragments := 0, checkErrors := 0, droppedReports := 0, droppedRequests := 0 } }))
    ∧ (∀ (q : Req) (s : State), Taken q s → ∃ b : StatusBody,
          exec (.statusGet q) s = .next (s.answered q 0x03 .done (.status b)
            { s.found q.us with free := if s.core.motion.angle = .moving then s.core.free + 1 else s.core.free })
            ∧ b.seqState = s.core.seq.state ∧ b.reason = s.core.seq.reason ∧ b.awaiting = s.core.seq.awaiting
            ∧ b.depth = s.core.seq.queue.length ∧ b.nextId = s.core.seq.nextId ∧ b.word = s.core.word
            ∧ b.mounted = s.core.mounted.map (fun m => (m.1.val, m.2.cursor, s.core.dose.aOpen.getD 0))
            ∧ b.platen = s.core.motion.platen ∧ b.angle = s.core.motion.angle ∧ b.arm = s.core.motion.arm
            ∧ b.valveOpen = s.core.motion.valveOpen ∧ b.vacuumAt = s.core.motion.vacuumAt ∧ b.cRef = s.core.motion.cRef
            ∧ (s.core.motion.angle ≠ .moving → b.anglePos = s.core.motion.anglePos)
            ∧ b.angleTarget = s.core.motion.angleTarget ∧ b.turn = s.core.motion.turn
            ∧ b.life = s.core.illum.life ∧ b.hold = s.core.illum.hold ∧ b.view = s.core.illum.view
            ∧ b.staged = s.core.illum.staged ∧ b.active = s.core.illum.active ∧ b.eOp = s.core.illum.eOp
            ∧ b.latch = s.core.meas.latch ∧ b.camV = s.core.cap.camV ∧ b.camR = s.core.cap.camR
            ∧ b.ringCount = s.core.cap.ring.length ∧ b.nextSeq = s.core.cap.nextSeq
            ∧ b.faults = s.core.faults ∧ b.first = s.core.first ∧ b.curtainBroken = s.core.panel.broken
            ∧ b.reportDepth = s.link.reports.length)

/-- LINK_RESET returns the parser to HUNT, empties the report queue and the pending-reply list, sets the four counts
to 0 and then answers DONE; nothing of the blocks or the counters changes, and a frame being sent goes on (R195). A
break makes one link reset and sends no reply; the line takes bytes again once it has returned to idle (R195). -/
def Obligations.LinkResetsStartAfresh : Prop :=
  (∀ (q : Req) (s : State), Taken q s →
       exec (.linkReset q) s = .next { s with
         core := s.found q.us
         link := Link.after q 0x05 { status := .done, body := .empty }
           { s.link with
             parser := { phase := .hunt, buf := [] }, pending := [], reports := [], fragments := 0, checkErrors := 0,
             droppedReports := 0, droppedRequests := 0 } })
    ∧ (∀ (us : Nat) (s : State),
          (s.link.lineBroken = false →
            exec (.lineBreak us) s = .next { s with
              core := s.core.atUs us
              link := { s.link with
                parser := { phase := .hunt, buf := [] }, pending := [], reports := [], fragments := 0, checkErrors := 0,
                droppedReports := 0, droppedRequests := 0, lineBroken := true } })
            ∧ (s.link.lineBroken = true → exec (.lineBreak us) s = .next { s with core := s.core.atUs us })
            ∧ exec (.lineReturnToIdle us) s = .next { s with
                core := s.core.atUs us, link := { s.link with lineBroken := false } })

/-- STATION_RESET empties the step queue and the fault set, ends the turn, the attempt and the flash in hand and makes
every axis UNREFERENCED, while the class table, the ring's records, the calibrations, the latches, the staged setting,
the cap and the panel stay; its DONE stands in the newest place of the pending-reply list. Every record stays with its
budget, its cursor and its captured set, and its dose does not fall; with no flash lit or past its lamp-off and no
period of the view light running, the whole volume table and A_open stay as they are. A lit attempt leaves its record,
with outcome ABORTED, in the ring, and so does one in COLLECTING, with the dose record in hand or with the one
delivered at the reset for a flash whose window result has not come (R6, R25, R26, R68, R79, R91, R114, R133, R155,
R177, R198). -/
def Obligations.StationResetKeepsAccounts : Prop :=
  ∀ (q : Req) (s : State), Taken q s → ∃ t, exec (.stationReset q) s = .next t
    ∧ t.core.seq.queue = [] ∧ t.core.seq.state = .idle ∧ t.core.seq.awaiting = none ∧ t.core.seq.interlock = false
    ∧ t.core.faults = [] ∧ t.core.first = none
    ∧ t.core.motion.platen = .unreferenced ∧ t.core.motion.angle = .unreferenced ∧ t.core.motion.arm = .unreferenced
    ∧ t.core.motion.turn = none ∧ t.core.motion.homing = none ∧ t.core.motion.valveOpen = s.core.motion.valveOpen
    ∧ t.core.cap.attempt = none ∧ t.core.cap.mark = none ∧ s.core.cap.ring <+: t.core.cap.ring
    ∧ t.core.illum.flash = none ∧ t.core.illum.closing = none ∧ t.core.illum.view.wanted = false
    ∧ t.core.illum.staged = s.core.illum.staged ∧ t.core.illum.hold = s.core.illum.hold
    ∧ t.core.illum.eOp = s.core.illum.eOp ∧ t.core.illum.lampCal = s.core.illum.lampCal
    ∧ t.core.meas.latch = s.core.meas.latch ∧ t.core.meas.cal = s.core.meas.cal
    ∧ t.core.vols.classes = s.core.vols.classes ∧ t.core.vols.instCount = s.core.vols.instCount
    ∧ t.core.vols.mounted = s.core.vols.mounted
    ∧ t.core.cap.frameTimeout = s.core.cap.frameTimeout ∧ t.core.bands = s.core.bands
    ∧ t.core.panel = s.core.panel
    ∧ (∃ p, t.link.pending.getLast? = some p ∧ p.kind = 0x04 ∧ p.tag = q.tag
        ∧ p.reply = some { status := .done, body := .empty })
    ∧ (∀ j : Fin 16, s.core.vols.slots[j] = none → t.core.vols.slots[j] = none)
    ∧ (∀ (j : Fin 16) (v : Volume), s.core.vols.slots[j] = some v → ∃ w, t.core.vols.slots[j] = some w
        ∧ w.inst = v.inst ∧ w.shelf = v.shelf ∧ w.cls = v.cls ∧ w.state = v.state ∧ w.budget = v.budget ∧ w.p = v.p
        ∧ w.segs = v.segs ∧ w.cursor = v.cursor ∧ w.captured = v.captured ∧ w.tallies = v.tallies
        ∧ (v.uF ≤ 1099511627775 → v.uF ≤ w.uF) ∧ (v.uV ≤ 1099511627775 → v.uV ≤ w.uV)
        ∧ v.exceptions <+: w.exceptions)
    ∧ (s.core.illum.life ≠ .lit → s.core.illum.closing = none → s.core.dose.accrual = none →
        (∀ a, s.core.cap.attempt = some a → a.phase ≠ .lit ∧ a.phase ≠ .collecting) →
        t.core.vols = s.core.vols ∧ t.core.dose = s.core.dose ∧ t.core.cap.ring = s.core.cap.ring)
    ∧ (∀ (a : Attempt) (f : Flash) (side : Side) (adm : Admission) (i : Fin 16) (v : Volume),
        s.core.cap.attempt = some a → a.phase = .lit → s.core.illum.life = .lit → s.core.illum.flash = some f →
        f.by_ = .capture side → f.adm = some adm → s.core.illum.closing = none → s.core.vols.mounted = some i →
        s.core.vols.slots[i] = some v →
        ∃ r, t.core.cap.ring = s.core.cap.ring ++ [.capture r] ∧ r.seq = a.seq ∧ r.stamp = a.litStamp
          ∧ r.slot = i.val ∧ r.inst = v.inst ∧ r.opening = a.opening ∧ r.number = a.number ∧ r.outcome = .aborted)
    ∧ (∀ (a : Attempt) (i : Fin 16) (v : Volume), s.core.cap.attempt = some a → a.phase = .collecting →
        s.core.illum.flash = none → s.core.vols.mounted = some i → s.core.vols.slots[i] = some v →
        (∀ d : DoseRecord, a.dose = some d → s.core.illum.closing = none →
            ∃ r, t.core.cap.ring = s.core.cap.ring ++ [.capture r] ∧ r.dose = d ∧ r.seq = a.seq ∧ r.stamp = a.litStamp
              ∧ r.slot = i.val ∧ r.inst = v.inst ∧ r.opening = a.opening ∧ r.number = a.number ∧ r.outcome = .aborted)
          ∧ (∀ (f : Flash) (side : Side) (adm : Admission), a.dose = none → s.core.illum.closing = some f →
            f.by_ = .capture side → f.adm = some adm →
            ∃ r, t.core.cap.ring = s.core.cap.ring ++ [.capture r] ∧ r.dose.eApp = adm.eApp ∧ r.dose.cause = adm.cause
              ∧ r.dose.source = .nominal ∧ r.seq = a.seq ∧ r.stamp = a.litStamp ∧ r.slot = i.val ∧ r.inst = v.inst
              ∧ r.opening = a.opening ∧ r.number = a.number ∧ r.outcome = .aborted))

/-- The check of R189: the register starts at FFFFh, each byte is fed in from its most significant bit with the
generator 1021h, neither input nor result reflected and the result not inverted; every frame sent carries it high byte
first, formed over its bytes from the first length byte to the last of the payload; and a received frame is counted as
a check error just when its check differs from that result. -/
def Obligations.CheckIsFormed : Prop :=
  frameCheck [] = 0xFFFF#16
    ∧ (∀ (bs : List Byte) (b : Byte), frameCheck (bs ++ [b]) =
        [7, 6, 5, 4, 3, 2, 1, 0].foldl (fun (r : BitVec 16) k =>
          if r.getLsbD 15 != b.getLsbD k then (r <<< 1) ^^^ 0x1021#16 else r <<< 1) (frameCheck bs))
    ∧ (∀ (kind tag : Byte) (payload : List Byte), ∃ hi lo : Byte,
        frameBytes kind tag payload =
            0xA5#8 :: ([BitVec.ofNat 8 payload.length, BitVec.ofNat 8 (payload.length / 256), kind, tag] ++ payload
              ++ [hi, lo])
          ∧ hi ++ lo = frameCheck
              ([BitVec.ofNat 8 payload.length, BitVec.ofNat 8 (payload.length / 256), kind, tag] ++ payload))
    ∧ (∀ f : TxFrame, ∃ kind tag payload, f.bytes = frameBytes kind tag payload)
    ∧ ∀ (us : Nat) (f : RxFrame) (s t : State), s.link.lineBroken = false → f.payload.length ≤ 1024 →
        s.link.checkErrors < 4294967295 → exec (.checkError us f) s = .next t →
        (t.link.checkErrors = s.link.checkErrors + 1 ↔
          frameCheck ([BitVec.ofNat 8 f.payload.length, BitVec.ofNat 8 (f.payload.length / 256), f.kind, f.tag]
            ++ f.payload) ≠ f.check)

/-- A frame whose check fails is discarded and counted as one check error, and the parser returns to HUNT (R188,
R189). A length above 1,024, a byte with its stop bit missing inside a frame and a gap inside a frame each discard the
partial frame and count one fragment; a framing error in HUNT is not counted; the byte that ends a gap is taken in
HUNT (R188). -/
def Obligations.DamagedFramesAreCounted : Prop :=
  (∀ (us : Nat) (f : RxFrame) (s : State), s.link.lineBroken = false → f.payload.length ≤ 1024 →
       frameCheck (frameBody f.kind f.tag f.payload) ≠ f.check →
         exec (.checkError us f) s = .next { s with
           core := s.core.atUs us
           link := { s.link with
             parser := { phase := .hunt, buf := [] }
             checkErrors := min 4294967295 (s.link.checkErrors + 1) } })
    ∧ (∀ (us : Nat) (s : State), s.link.lineBroken = false →
          (∀ lo hi : Byte, s.link.parser = { phase := .hunt, buf := [] } → 1024 < lo.toNat + 256 * hi.toNat →
            exec (.fragment us [0xA5#8, lo, hi] .lengthOver) s = .next { s with
              core := s.core.atUs us
              link := { s.link with
                parser := { phase := .hunt, buf := [] }
                fragments := min 4294967295 (s.link.fragments + 1) } })
            ∧ (s.link.parser.phase ≠ .hunt →
              exec (.fragment us [] .framingError) s = .next { s with
                core := s.core.atUs us
                link := { s.link with
                  parser := { phase := .hunt, buf := [] }
                  fragments := min 4294967295 (s.link.fragments + 1) } })
            ∧ (s.link.parser = { phase := .hunt, buf := [] } → s.link.fragments ≤ 4294967295 →
              exec (.fragment us [] .framingError) s = .next { s with core := s.core.atUs us })
            ∧ (∀ next : Byte, s.link.parser.phase ≠ .hunt →
              exec (.interByteGap us [] next) s = .next { s with
                core := s.core.atUs us
                link := { s.link with
                  parser := { phase := if next = 0xA5#8 then .length else .hunt, buf := [] }
                  fragments := min 4294967295 (s.link.fragments + 1) } }))

/-- When a frame has been sent, the entry of a sent reply leaves the list, and the transmitter takes the formed reply
whose request was taken earliest, or else the oldest report, or else falls idle (R190, R193, R194). -/
def Obligations.TransmitterTakesTheNextFrame : Prop :=
  ∀ (us : Nat) (s : State), ∃ t, exec (.frameSent us) s = .next t
    ∧ t.core = s.core.atUs us ∧ t.counters = s.counters
    ∧ t.link.pending = (match s.link.tx with
        | some (.reply id _ _ _) => s.link.pending.filter (fun p => p.id != id)
        | _ => s.link.pending)
    ∧ (∀ a p b r, t.link.pending = a ++ p :: b → p.reply = some r → (∀ x ∈ a, x.reply = none) →
        t.link.tx = some (.reply p.id p.kind p.tag r) ∧ t.link.reports = s.link.reports)
    ∧ ((∀ p ∈ t.link.pending, p.reply = none) → ∀ r rest, s.link.reports = r :: rest →
        t.link.tx = some (.report r) ∧ t.link.reports = rest)
    ∧ ((∀ p ∈ t.link.pending, p.reply = none) → s.link.reports = [] → t.link.tx = none ∧ t.link.reports = [])

/-! ### The volume table -/

/-- CLASS_SET with all twelve fields present defines the class with each field clamped into its range, answered with
the class as it stands; the class of the mounted volume is refused STATE and nothing changes; a class number above 7
is BAD_FIELD 1 (R5, section 1.2). -/
def Obligations.ClassSetDefinesTheClass : Prop :=
  ∀ (q : Req) (x : ClassFields) (s : State), Taken q s →
    (∀ n : Nat, 7 < n → ∀ m, exec (.classSet q n m x) s =
        .next (s.answered q 0x10 (.badField 1) .empty (s.found q.us)))
      ∧ (∀ (i : Fin 8) (m : Mask) (v : Volume), s.core.volume = some v → v.cls = i →
        exec (.classSet q i m x) s = .next (s.answered q 0x10 (.refused .state) .empty (s.found q.us)))
      ∧ ∀ (i : Fin 8) (y : ClassFields), (∀ v, s.core.volume = some v → v.cls ≠ i) →
        y = { name := x.name, eMat := max 500 (min 200000 x.eMat), cOpen := max 1000 (min 1000000000 x.cOpen),
              warn := max (-400) (min 1990 x.warn), limit := min 2000 x.limit,
              maxAngle := max 80 (min 180 x.maxAngle), vacuum := max 5 (min 200 x.vacuum),
              puff := max 10 (min 500 x.puff), retryLimit := min 3 x.retryLimit,
              openFloor := max 1 (min 1000 x.openFloor), singleFloor := x.singleFloor,
              force := max 5 (min 300 x.force) } →
        (1 ≤ x.name.length ∧ x.name.length ≤ 12 ∧ ∀ b ∈ x.name, 0x20 ≤ b.toNat ∧ b.toNat ≤ 0x7E) →
        y.warn + 10 ≤ y.limit → y.singleFloor < y.openFloor →
        ∃ st, exec (.classSet q i 0x1FFE#16 x) s = .next (s.answered q 0x10 st (.cls y)
            { s.found q.us with
              vols := { s.core.vols with classes := s.core.vols.classes.set i (some y) } })
          ∧ (y = x → st = .done) ∧ (y ≠ x → ∃ m, m ≠ 0#16 ∧ st = .doneClamped m)

/-- VOLUME_ADD makes a REGISTERED record in the lowest free slot, with the next instance number, low-water percent 10
when p is absent and every account at 0, and answers with the slot and the instance number (R9, R10). VOLUME_ADD whose
presence mask leaves the segment list out is BAD_FIELD 5 (R192; notes 34). -/
def Obligations.VolumeAddRegisters : Prop :=
  (∀ (q : Req) (shelf : List Byte) (cls budget : Nat) (segs : List SegmentSpec) (gs : List Segment) (i : Fin 16)
       (s : State) (h : cls < 8), Taken q s →
       shelfOk shelf = true → acceptedSegments segs = some gs → s.core.vols.classes[cls] ≠ none →
       1 ≤ budget → budget ≤ 1000000000000 →
       (∀ (j : Fin 16) (v : Volume), s.core.vols.slots[j] = some v → v.shelf ≠ shelf) →
       s.core.vols.slots[i] = none → (∀ j : Fin 16, j < i → s.core.vols.slots[j] ≠ none) →
       gs.length ≤ s.core.freeSegments →
       exec (.volumeAdd q shelf cls budget 0x0010#16 7 segs) s = .next
         (s.answered q 0x11 .done (.added i.val (s.core.vols.instCount + 1))
           { s.found q.us with
             vols := { s.core.vols with
               instCount := s.core.vols.instCount + 1
               slots := s.core.vols.slots.set i (some
                 { inst := s.core.vols.instCount + 1, shelf := shelf, cls := ⟨cls, h⟩, state := .registered,
                   budget := budget, uF := 0, uV := 0, p := 10, low := false, exhausted := false, segs := gs, cursor := 0,
                   captured := [],
                   tallies := { captured := 0, attempts := 0, retakes := 0, turns := 0, manualTurns := 0, doublePicks := 0 },
                   exceptions := [],
                   summary := { below1 := 0, below2 := 0, below3 := 0, below4 := 0, above4 := 0, causeNone := 0,
                                causeThermal := 0, causeDose := 0, causeMaterial := 0, causeOperator := 0, highestE := 0,
                                highestT := none, viewMs := 0, estimated := 0 } }) } }))
    ∧ (∀ (q : Req) (shelf : List Byte) (cls budget p : Nat) (m : Mask) (segs : List SegmentSpec) (s : State), Taken q s →
          shelfOk shelf = true → cls < 8 → m.getLsbD 4 = false →
          exec (.volumeAdd q shelf cls budget m p segs) s = .next (s.answered q 0x11 (.badField 5) .empty (s.found q.us)))

/-- VOLUME_MOUNT of a REGISTERED record with the station quiet and the platen UP mounts it: A_open starts at 0, the
count of lit attempts at 0 and the five latched conditions false, a present start opening is taken as the cursor, and
the cradle moves to the class's max opening angle unless it stands there (R7, R11, R12, R26, R133). The T latch is
taken as empty, so that the thermal test at the mount leaves the hold as it stands (R82). -/
def Obligations.VolumeMountBegins : Prop :=
  ∀ (q : Req) (i : Fin 16) (v : Volume) (c : ClassFields) (start : Nat) (s : State), Taken q s →
    s.core.vols.slots[i] = some v → v.state = .registered → s.core.vols.mounted = none →
    s.core.vols.classes[v.cls] = some c → start ≤ v.leaves →
    s.core.seq.state = .idle → s.core.motion.arm = .parked → s.core.motion.platen = .up →
    (s.core.illum.life = .idle ∨ s.core.illum.life = .thermalHold) → s.core.meas.latch.t = none → s.core.faults = [] →
    s.core.motion.angle = .atAngle →
    exec (.volumeMount q i 0x0002#16 start 0) s = .next
      (s.answered q 0x12 .done .empty
        { s.found q.us with
          vols := { s.core.vols with
            mounted := some i
            slots := s.core.vols.slots.set i (some { v with cursor := start }) }
          dose := { s.core.dose with aOpen := some 0 }
          cap := { s.core.cap with litCount := 0 }
          seq := { s.core.seq with
            latched := { turnOne := false, turnDouble := false, captureOk := false, captureDimmed := false,
                         skipped := false } }
          motion :=
            if s.core.motion.anglePos = some c.maxAngle then s.core.motion
            else { s.core.motion with
              angleTarget := some c.maxAngle
              angle := if s.core.panel.broken then .stopped else .moving
              angleSince := (s.found q.us).now } })

/-- With the station quiet and the view light not lit, VOLUME_UNMOUNT ends the mounting and the record returns to
REGISTERED unchanged, VOLUME_CLOSE of the mounted record makes it COMPLETE, and VOLUME_WITHDRAW WITHDRAWN: the wanted
flag, the suppression and the forces BUDGET and CEILING are cleared and THERMAL stands; a lit view light is charged
its last partial period first; on a station that is not quiet each is answered BUSY or NOT_QUIET. VOLUME_CLOSE of a
record that lacks openings is refused INCOMPLETE, and with the force flag appends a FORCED_CLOSE exception carrying
the number missing; a record with every opening captured becomes COMPLETE; VOLUME_WITHDRAW makes it WITHDRAWN;
VOLUME_REMOVE frees the slot of a record not mounted and refuses the mounted one (R7, R8, R13, R14, R15, R16, R44,
R89). That FORCED_CLOSE stands before the end of the mounting is the model's choice (notes 35). -/
def Obligations.VolumesLeaveTheCradle : Prop :=
  ∀ (q : Req) (i : Fin 16) (v : Volume) (s : State), Taken q s → s.core.vols.slots[i] = some v →
    (s.core.quiet = true → s.core.vols.mounted = some i → s.core.illum.view.state ≠ .lit → s.core.dose.accrual = none →
        exec (.volumeUnmount q i) s =
            .next (s.answered q 0x13 .done .empty ((s.found q.us).unmounted s.core.vols.slots))
          ∧ (v.state ≠ .withdrawn →
            exec (.volumeWithdraw q i) s = .next (s.answered q 0x15 .done .empty
              ((s.found q.us).unmounted (s.core.vols.slots.set i (some { v with state := .withdrawn })))))
          ∧ (v.state = .registered → v.captured.length = v.leaves + 1 → ∀ force,
            exec (.volumeClose q i force) s = .next (s.answered q 0x14 .done .empty
              ((s.found q.us).unmounted (s.core.vols.slots.set i (some { v with state := .complete })))))
          ∧ (v.state = .registered → v.captured.length < v.leaves + 1 →
            exec (.volumeClose q i false) s = .next (s.answered q 0x14 (.refused .incomplete) .empty (s.found q.us))
              ∧ (0 < s.core.freeExceptions → v.leaves + 1 - v.captured.length ≤ 4294967295 →
                exec (.volumeClose q i true) s = .next (s.answered q 0x14 .done .empty
                  ((s.found q.us).unmounted (s.core.vols.slots.set i (some { v with
                    state := .complete
                    exceptions := v.exceptions ++
                      [{ kind := .forcedClose, opening := v.cursor, detail := v.leaves + 1 - v.captured.length,
                         seq := none, stamp := (s.found q.us).stamp }] })))))))
      ∧ (∀ (a : Accrual) (c : Instr) (kind : Byte) (st : RecordState), s.core.quiet = true →
        s.core.vols.mounted = some i → s.core.illum.view.state = .lit → s.core.dose.accrual = some a →
        ((c = .volumeUnmount q i ∧ kind = 0x13 ∧ st = v.state)
          ∨ (c = .volumeWithdraw q i ∧ kind = 0x15 ∧ st = .withdrawn ∧ v.state ≠ .withdrawn)
          ∨ (∃ force, c = .volumeClose q i force ∧ kind = 0x14 ∧ st = .complete ∧ v.state = .registered
              ∧ v.captured.length = v.leaves + 1)) →
        ∃ t w, exec c s = .next t ∧ Replied q kind .done .empty s t ∧ t.core.vols.mounted = none
          ∧ t.core.dose = { aOpen := none, accrual := none }
          ∧ t.core.illum.view = { s.core.illum.view with
              wanted := false, suppressed := false, budget := false, ceiling := false }
          ∧ t.core.vols.slots[i] = some w ∧ w.state = st ∧ w.uF = v.uF
          ∧ w.uV = min 1099511627775 (v.uV + a.eV * (((s.found q.us).now - a.since + 999) / 1000))
          ∧ w.cursor = v.cursor ∧ w.captured = v.captured ∧ w.budget = v.budget)
      ∧ (∀ st : Status, s.core.quiet = false → s.core.vols.mounted = some i → v.state = .registered →
        st = (if s.core.working = true then .busy else .refused .notQuiet) →
        exec (.volumeUnmount q i) s = .next (s.answered q 0x13 st .empty (s.found q.us))
          ∧ exec (.volumeWithdraw q i) s = .next (s.answered q 0x15 st .empty (s.found q.us))
          ∧ ∀ force, exec (.volumeClose q i force) s = .next (s.answered q 0x14 st .empty (s.found q.us)))
      ∧ (v.state = .registered → s.core.vols.mounted ≠ some i → v.captured.length < v.leaves + 1 →
        exec (.volumeClose q i false) s = .next (s.answered q 0x14 (.refused .incomplete) .empty (s.found q.us))
          ∧ (0 < s.core.freeExceptions → v.leaves + 1 - v.captured.length ≤ 4294967295 →
            exec (.volumeClose q i true) s = .next (s.answered q 0x14 .done .empty
              { s.found q.us with
                vols := { s.core.vols with
                  slots := s.core.vols.slots.set i (some { v with
                    state := .complete
                    exceptions := v.exceptions ++
                      [{ kind := .forcedClose, opening := v.cursor, detail := v.leaves + 1 - v.captured.length,
                         seq := none, stamp := (s.found q.us).stamp }] }) } })))
      ∧ (v.state = .registered → s.core.vols.mounted ≠ some i → v.captured.length = v.leaves + 1 → ∀ force,
        exec (.volumeClose q i force) s = .next (s.answered q 0x14 .done .empty
          { s.found q.us with
            vols := { s.core.vols with slots := s.core.vols.slots.set i (some { v with state := .complete }) } }))
      ∧ (s.core.vols.mounted ≠ some i →
        exec (.volumeWithdraw q i) s = .next (s.answered q 0x15 .done .empty
          { s.found q.us with
            vols := { s.core.vols with slots := s.core.vols.slots.set i (some { v with state := .withdrawn }) } })
          ∧ exec (.volumeRemove q i) s = .next (s.answered q 0x16 .done .empty
            { s.found q.us with vols := { s.core.vols with slots := s.core.vols.slots.set i none } }))
      ∧ (s.core.vols.mounted = some i →
        exec (.volumeRemove q i) s = .next (s.answered q 0x16 (.refused .state) .empty (s.found q.us)))

/-- VOLUME_SET of a budget sets it to at most 10^12 and at least the dose already used, and at least 1; a record whose
R then stands at or above its low-water line loses its two budget flags, and the checks that follow find nothing to do
(R17, R46, R47, R50). So it is with the clamps, mounted or not: the budget becomes y, the greatest of 1, of the dose
used and of the lesser of 10^12 and the request's, and the reply is DONE_CLAMPED with bit 1 where y is not the
request's; a budget clamped to the dose used leaves an exhausted record as it is. A mounted record stands below its
ceiling. That a dose used above 10^12 gives a budget above 10^12 is the model's choice (notes 51). -/
def Obligations.VolumeSetRaisesTheBudget : Prop :=
  (∀ (q : Req) (i : Fin 16) (v : Volume) (budget : Nat) (s : State), Taken q s →
       s.core.vols.slots[i] = some v → s.core.vols.mounted ≠ some i →
       v.u + budget * v.p / 100 ≤ budget → v.u < budget → budget ≤ 1000000000000 →
       exec (.volumeSet q i 0x0002#16 budget 0 0 []) s = .next
         (s.answered q 0x17 .done .empty
           { s.found q.us with
             vols := { s.core.vols with
               slots := s.core.vols.slots.set i (some { v with budget := budget, low := false, exhausted := false }) } }))
    ∧ (∀ (q : Req) (i : Fin 16) (v : Volume) (budget y : Nat) (s : State), Taken q s → s.core.vols.slots[i] = some v →
          (s.core.vols.mounted = some i → ∀ (c : ClassFields) (a : Nat), s.core.vols.classes[v.cls] = some c →
            s.core.dose.aOpen = some a → a < c.cOpen) →
          y = max (max 1 v.u) (min 1000000000000 budget) →
          (v.u < y → v.u + y * v.p / 100 ≤ y →
            exec (.volumeSet q i 0x0002#16 budget 0 0 []) s = .next
              (s.answered q 0x17 (if budget = y then .done else .doneClamped 0x0002#16) .empty
                { s.found q.us with
                  vols := { s.core.vols with
                    slots := s.core.vols.slots.set i (some { v with budget := y, low := false, exhausted := false }) } }))
            ∧ (y = v.u → v.low = true → v.exhausted = true →
              exec (.volumeSet q i 0x0002#16 budget 0 0 []) s = .next
                (s.answered q 0x17 (if budget = y then .done else .doneClamped 0x0002#16) .empty
                  { s.found q.us with
                    vols := { s.core.vols with slots := s.core.vols.slots.set i (some { v with budget := y }) } })))

/-- VOLUME_GET returns the record with its labels, its pools and, for the mounted volume alone, A_open, and changes
nothing (R24). EXCEPTIONS_TAKE hands the oldest n exceptions to the workstation and removes them; n outside 1 to 16 is
BAD_FIELD 2 (R22, R23). -/
def Obligations.VolumeGetReadsTheRecord : Prop :=
  (∀ (q : Req) (i : Fin 16) (v : Volume) (s : State), Taken q s → s.core.vols.slots[i] = some v →
       ∃ b : VolumeBody, exec (.volumeGet q i 0 0) s = .next (s.answered q 0x18 .done (.volume b) (s.found q.us))
         ∧ b.slot = i.val ∧ b.record = v ∧ b.leaves = leafCount v.segs
         ∧ b.runs = (runsOf v.captured).take 100 ∧ (b.moreRuns = true ↔ 100 < (runsOf v.captured).length)
         ∧ b.exceptionCount = v.exceptions.length
         ∧ b.left = leftLabel v.segs v.cursor ∧ b.right = rightLabel v.segs v.cursor
         ∧ b.gapBefore = gapBefore v.segs v.cursor
         ∧ b.freeSegments = s.core.freeSegments ∧ b.freeExceptions = s.core.freeExceptions
         ∧ (s.core.vols.mounted = some i → b.aOpen = s.core.dose.aOpen)
         ∧ (s.core.vols.mounted ≠ some i → b.aOpen = none))
    ∧ (∀ (q : Req) (i : Fin 16) (v : Volume) (n : Nat) (s : State), Taken q s → s.core.vols.slots[i] = some v →
          (1 ≤ n → n ≤ 16 →
            exec (.exceptionsTake q i n) s = .next (s.answered q 0x1A .done (.exceptions (v.exceptions.take n))
              { s.found q.us with
                vols := { s.core.vols with
                  slots := s.core.vols.slots.set i (some { v with exceptions := v.exceptions.drop n }) } }))
            ∧ ((n = 0 ∨ 16 < n) →
              exec (.exceptionsTake q i n) s = .next (s.answered q 0x1A (.badField 2) .empty (s.found q.us))))

/-- CURSOR_SET to another opening with the station quiet moves the cursor, clamped to L, sets A_open to 0 and the
count of lit attempts to 0, and appends a CURSOR_MOVED exception carrying the old opening; a set to the present
opening changes nothing (R18, R19). The view light is taken as off and its ceiling force as clear. An opening above L
is clamped to L, and the reply is DONE_CLAMPED with bit 0 (R19). -/
def Obligations.CursorSetMovesTheCursor : Prop :=
  (∀ (q : Req) (i : Fin 16) (v : Volume) (k : Nat) (s : State), Taken q s →
       s.core.vols.mounted = some i → s.core.vols.slots[i] = some v → s.core.quiet = true →
       s.core.illum.view.wanted = false → s.core.illum.view.ceiling = false → s.core.dose.accrual = none →
       k ≤ v.leaves →
       (k = v.cursor →
         exec (.cursorSet q k) s = .next (s.answered q 0x19 .done .empty (s.found q.us)))
         ∧ (k ≠ v.cursor → 0 < s.core.freeExceptions → v.cursor ≤ 4294967295 →
           exec (.cursorSet q k) s = .next (s.answered q 0x19 .done .empty
             { s.found q.us with
               vols := { s.core.vols with
                 slots := s.core.vols.slots.set i (some { v with
                   cursor := k
                   exceptions := v.exceptions ++
                     [{ kind := .cursorMoved, opening := k, detail := v.cursor, seq := none,
                        stamp := (s.found q.us).stamp }] }) }
               dose := { s.core.dose with aOpen := s.core.dose.aOpen.map fun _ => 0 }
               cap := { s.core.cap with litCount := 0 } })))
    ∧ (∀ (q : Req) (i : Fin 16) (v : Volume) (k : Nat) (s : State), Taken q s →
          s.core.vols.mounted = some i → s.core.vols.slots[i] = some v → s.core.quiet = true →
          s.core.illum.view.wanted = false → s.core.illum.view.ceiling = false → s.core.dose.accrual = none →
          v.leaves < k →
          (v.cursor = v.leaves →
            exec (.cursorSet q k) s = .next (s.answered q 0x19 (.doneClamped 0x0001#16) .empty (s.found q.us)))
            ∧ (v.cursor ≠ v.leaves → 0 < s.core.freeExceptions → v.cursor ≤ 4294967295 →
              exec (.cursorSet q k) s = .next (s.answered q 0x19 (.doneClamped 0x0001#16) .empty
                { s.found q.us with
                  vols := { s.core.vols with
                    slots := s.core.vols.slots.set i (some { v with
                      cursor := v.leaves
                      exceptions := v.exceptions ++
                        [{ kind := .cursorMoved, opening := v.leaves, detail := v.cursor, seq := none,
                           stamp := (s.found q.us).stamp }] }) }
                  dose := { s.core.dose with aOpen := s.core.dose.aOpen.map fun _ => 0 }
                  cap := { s.core.cap with litCount := 0 } })))

/-! ### Light and dose -/

/-- LIGHT_STAGE sets the fields its mask marks, each clamped into its range, and answers with the staged setting; no
other state changes while the view light is not lit. LIMITS_SET sets the operator cap, at most 200,000 (R70, R72). -/
def Obligations.LightIsStaged : Prop :=
  ∀ (q : Req) (s : State), Taken q s → s.core.dose.accrual = none →
    (∀ (m : Mask) (x y : Setting), m &&& 0xFF80#16 = 0 →
      y = { cVU := if m.getLsbD 0 then min 4095 x.cVU else s.core.illum.staged.cVU,
            cVL := if m.getLsbD 1 then min 4095 x.cVL else s.core.illum.staged.cVL,
            cRU := if m.getLsbD 2 then min 4095 x.cRU else s.core.illum.staged.cRU,
            cRL := if m.getLsbD 3 then min 4095 x.cRL else s.core.illum.staged.cRL,
            d := if m.getLsbD 4 then max 200 (min 500000 x.d) else s.core.illum.staged.d,
            eFloor := if m.getLsbD 5 then min 200000 x.eFloor else s.core.illum.staged.eFloor,
            cV := if m.getLsbD 6 then min 4095 x.cV else s.core.illum.staged.cV } →
      ∃ st, exec (.lightStage q m x) s = .next (s.answered q 0x20 st (.setting y)
          { s.found q.us with illum := { s.core.illum with staged := y } })
        ∧ ((x.cVU ≤ 4095 ∧ x.cVL ≤ 4095 ∧ x.cRU ≤ 4095 ∧ x.cRL ≤ 4095 ∧ 200 ≤ x.d ∧ x.d ≤ 500000 ∧ x.eFloor ≤ 200000
            ∧ x.cV ≤ 4095) → st = .done))
      ∧ ∀ e : Nat, exec (.limitsSet q e) s = .next (s.answered q 0x21
          (if e ≤ 200000 then .done else .doneClamped 1#16) (.cap (min e 200000))
          { s.found q.us with illum := { s.core.illum with eOp := min e 200000 } })

/-- LAMPS_CALIBRATE with all five fields present makes the lamp calibration present, each value at most its upper
limit, and answers with it. While it is absent, a request that leaves a field out is BAD_FIELD with the first absent
one, and the calibration stays absent. Once it is present, the absent fields keep their values, and the reply names
the present fields that were clamped, by bit n - 1 for field n (R73, R191). -/
def Obligations.LampsAreCalibrated : Prop :=
  ∀ (q : Req) (x y : LampCal) (s : State), Taken q s → s.core.dose.accrual = none →
    y = { nVU := min x.nVU 100000, nVL := min x.nVL 100000, nRU := min x.nRU 100000, nRL := min x.nRL 100000,
          nView := min x.nView 5000 } →
    (∃ st, exec (.lampsCalibrate q 0x1F#16 x) s = .next (s.answered q 0x22 st (.lampCal y)
        { s.found q.us with illum := { s.core.illum with lampCal := some y } })
      ∧ (y = x → st = .done) ∧ (y ≠ x → ∃ m, m ≠ 0#16 ∧ st = .doneClamped m))
      ∧ (∀ (m : Mask) (n : Nat), s.core.illum.lampCal = none → m &&& 0xFFE0#16 = 0#16 → n < 5 →
        m.getLsbD n = false → (∀ k, k < n → m.getLsbD k = true) →
        exec (.lampsCalibrate q m x) s = .next (s.answered q 0x22 (.badField (n + 1)) .empty (s.found q.us)))
      ∧ ∀ (m : Mask) (o z : LampCal), s.core.illum.lampCal = some o → m &&& 0xFFE0#16 = 0#16 →
        z = { nVU := if m.getLsbD 0 then y.nVU else o.nVU, nVL := if m.getLsbD 1 then y.nVL else o.nVL
              nRU := if m.getLsbD 2 then y.nRU else o.nRU, nRL := if m.getLsbD 3 then y.nRL else o.nRL
              nView := if m.getLsbD 4 then y.nView else o.nView } →
        ∃ cm : Mask,
          exec (.lampsCalibrate q m x) s = .next (s.answered q 0x22 (if cm = 0#16 then .done else .doneClamped cm)
            (.lampCal z) { s.found q.us with illum := { s.core.illum with lampCal := some z } })
          ∧ (cm.getLsbD 0 = true ↔ m.getLsbD 0 = true ∧ 100000 < x.nVU)
          ∧ (cm.getLsbD 1 = true ↔ m.getLsbD 1 = true ∧ 100000 < x.nVL)
          ∧ (cm.getLsbD 2 = true ↔ m.getLsbD 2 = true ∧ 100000 < x.nRU)
          ∧ (cm.getLsbD 3 = true ↔ m.getLsbD 3 = true ∧ 100000 < x.nRL)
          ∧ (cm.getLsbD 4 = true ↔ m.getLsbD 4 = true ∧ 5000 < x.nView)
          ∧ cm &&& 0xFFE0#16 = 0#16

/-- CALIBRATION_FLASH with no volume mounted, both calibrations present, the curtain CLEAR, no thermal hold and the
recovery over enters ADMITTING. A T latch older than 1,000 ms makes it ask for a T reading; a latch of at most 1,000
ms is taken at once, the staged setting is admitted, and the flash is LIT with its window when the converter is free
and waits in METER_WAIT otherwise. The setting here asks for light and stands under the operator cap and class 0's
material cap. The reply waits for the end of the flash. It is refused STATE with a volume mounted and INTERLOCK while
the curtain is BROKEN (R36, R52, R66, R71, R75 to R77, R81). -/
def Obligations.CalibrationFlashBegins : Prop :=
  ∀ (q : Req) (s : State), Taken q s →
    (s.core.vols.mounted.isSome → exec (.calibrationFlash q) s = .next
        (s.answered q 0x23 (.refused .state) .empty (s.found q.us)))
      ∧ (s.core.vols.mounted = none → s.core.illum.life = .idle → s.core.illum.lampCal ≠ none →
        s.core.meas.cal.t ≠ none → s.core.panel.broken = true →
        exec (.calibrationFlash q) s = .next (s.answered q 0x23 (.refused .interlock) .empty (s.found q.us)))
      ∧ ∀ (r : Result) (cal : LampCal), s.core.vols.mounted = none → s.core.illum.life = .idle →
        s.core.illum.lampCal = some cal → s.core.meas.cal.t ≠ none → s.core.panel.broken = false →
        s.core.illum.hold = false → (∀ t0, s.core.illum.lampOffAt = some t0 → t0 + 150000 ≤ (s.found q.us).now) →
        s.core.meas.latch.t = some r → s.core.meas.pending = ⟨none, none, none, none⟩ →
        (1000 < ((s.found q.us).stamp - r.stamp).toNat → s.core.meas.conv = none →
          ∃ t, exec (.calibrationFlash q) s = .next t ∧ Waits q 0x23 s t
            ∧ t.core = { s.found q.us with
                illum := { s.core.illum with
                  life := .admitting
                  flash := some { by_ := .calibration s.link.nextEntry, asked := (s.found q.us).now, metHold := none,
                                  needLeave := false, tAsked := true, adm := none, litAt := 0 } }
                meas := { s.core.meas with
                  conv := some { channel := .T, kind := .spot, requesters := [.admission],
                                 since := (s.found q.us).now, limit := 12000 } } })
          ∧ ∀ (x : Int) (e : Nat) (adm : Admission),
            ((s.found q.us).stamp - r.stamp).toNat ≤ 1000 → r.flag ≠ some .fault → r.value = some x →
            e = (cal.nVU * s.core.illum.staged.cVU + cal.nVL * s.core.illum.staged.cVL
              + cal.nRU * s.core.illum.staged.cRU + cal.nRL * s.core.illum.staged.cRL + 4095 - 1) / 4095 →
            0 < e → e ≤ s.core.illum.eOp → (∀ k, s.core.vols.classes[(0 : Fin 8)] = some k → e ≤ k.eMat) →
            adm = { cVU := s.core.illum.staged.cVU, cVL := s.core.illum.staged.cVL, cRU := s.core.illum.staged.cRU,
                    cRL := s.core.illum.staged.cRL, eReq := e, eEff := e, eApp := e, cause := .none, dimmed := false,
                    qPlan := (e * s.core.illum.staged.d + 1000 - 1) / 1000, d := s.core.illum.staged.d, t := some x,
                    dark := false } →
            (s.core.meas.conv = none →
              ∃ t, exec (.calibrationFlash q) s = .next t ∧ Waits q 0x23 s t
                ∧ t.core = { s.found q.us with
                    illum := { s.core.illum with
                      life := .lit
                      active := s.core.illum.staged
                      flash := some { by_ := .calibration s.link.nextEntry, asked := (s.found q.us).now,
                                      metHold := none, needLeave := false, tAsked := false, adm := some adm,
                                      litAt := (s.found q.us).now } }
                    meas := { s.core.meas with
                      conv := some { channel := .P, kind := .window, requesters := [.window],
                                     since := (s.found q.us).now, limit := s.core.illum.staged.d + 12000 } } }
                ∧ t.core.bankDrive = (s.core.illum.staged.cVU, s.core.illum.staged.cVL, s.core.illum.staged.cRU,
                    s.core.illum.staged.cRL))
              ∧ (∀ c : Conversion, s.core.meas.conv = some c →
                ∃ t, exec (.calibrationFlash q) s = .next t ∧ Waits q 0x23 s t
                  ∧ t.core = { s.found q.us with
                      illum := { s.core.illum with
                        life := .meterWait
                        active := s.core.illum.staged
                        flash := some { by_ := .calibration s.link.nextEntry, asked := (s.found q.us).now,
                                        metHold := none, needLeave := false, tAsked := false, adm := some adm,
                                        litAt := 0 } }
                      meas := { s.core.meas with
                        pending := ⟨some { kind := .window, requesters := [.window] }, none, none, none⟩ } }
                  ∧ ∀ i : Fin 4, t.counters[i] =
                      if (s.counters[i]).enable && (s.counters[i]).event == .converterWaits then (s.counters[i]).add 1
                      else s.counters[i])

/-- VIEW ON lights the view light of the mounted volume when no force and no suppression stands, and an accrual period
begins at the present E_v; it is refused without a volume, without the lamp calibration and for an exhausted budget.
VIEW OFF of a light that is not lit clears the wanted flag (R42, R43, R85, R86). The end of a full period of a lit
view light charges E_v × 100 to the mounted volume's view dose and to A_open, adds 100 to its view-light milliseconds,
and begins the next period where the old one ended, with the same E_v; the charge taken here meets no line of R46 to
R48 (R26, R43, R187). VIEW OFF of a lit light ends its period and charges E_v for the whole milliseconds of it,
rounded up; the charge taken here meets no line of R46 to R48 (R44, R86). -/
def Obligations.ViewLightIsSwitchedAndCharged : Prop :=
  ((∀ (q : Req) (s : State), Taken q s →
          (s.core.volume = none →
            exec (.viewOn q) s = .next (s.answered q 0x24 (.refused .noVolume) .empty (s.found q.us)))
            ∧ (∀ v, s.core.volume = some v → s.core.illum.lampCal = none →
              exec (.viewOn q) s = .next (s.answered q 0x24 (.refused .notCalibrated) .empty (s.found q.us)))
            ∧ (∀ v, s.core.volume = some v → s.core.illum.lampCal ≠ none → v.exhausted = true →
              exec (.viewOn q) s = .next (s.answered q 0x24 (.refused .state) .empty (s.found q.us)))
            ∧ (∀ v cal c, s.core.volume = some v → s.core.illum.lampCal = some cal → s.core.cls = some c →
              v.exhausted = false → s.core.illum.view.wanted = false → s.core.illum.view.suppressed = false →
              s.core.illum.view.thermal = false → s.core.illum.view.ceiling = false →
              exec (.viewOn q) s = .next (s.answered q 0x24 .done (.view .lit)
                { s.found q.us with
                  illum := { s.core.illum with
                    view := { wanted := true, suppressed := false, thermal := false, budget := false, ceiling := false } }
                  dose := { s.core.dose with
                    accrual := some
                      { since := (s.found q.us).now
                        eV := min (min ((cal.nView * s.core.illum.staged.cV + 4095 - 1) / 4095) c.eMat) s.core.illum.eOp } } }))
            ∧ (s.core.illum.view.state ≠ .lit →
              exec (.viewOff q) s = .next (s.answered q 0x24 .done (.view .off)
                { s.found q.us with
                  illum := { s.core.illum with view := { s.core.illum.view with wanted := false } } })))
       ∧ (∀ (us : Nat) (i : Fin 16) (v : Volume) (c : ClassFields) (a : Accrual) (ao : Nat) (s : State),
             s.core.vols.mounted = some i → s.core.vols.slots[i] = some v → s.core.vols.classes[v.cls] = some c →
             s.core.dose = { aOpen := some ao, accrual := some a } → s.core.illum.view.state = .lit →
             a.since + 100000 ≤ (s.found us).now →
             ao + a.eV * 100 < c.cOpen → c.cOpen ≤ 1000000000 →
             v.u + a.eV * 100 < v.budget → v.u + a.eV * 100 + v.budget * v.p / 100 ≤ v.budget → v.budget ≤ 1000000000000 →
             v.summary.viewMs + 100 ≤ 4294967295 →
             exec (.viewPeriodEnd us) s = .next (s.quietly
               { s.found us with
                 dose := { aOpen := some (ao + a.eV * 100), accrual := some { since := a.since + 100000, eV := a.eV } }
                 vols := { s.core.vols with
                   slots := s.core.vols.slots.set i (some { v with
                     uV := v.uV + a.eV * 100
                     summary := { v.summary with viewMs := v.summary.viewMs + 100 } }) } })))
    ∧ (∀ (q : Req) (i : Fin 16) (v : Volume) (c : ClassFields) (a : Accrual) (ao ms : Nat) (s : State), Taken q s →
          s.core.vols.mounted = some i → s.core.vols.slots[i] = some v → s.core.vols.classes[v.cls] = some c →
          s.core.dose = { aOpen := some ao, accrual := some a } → s.core.illum.view.state = .lit →
          ms = ((s.found q.us).now - a.since + 999) / 1000 →
          ao + a.eV * ms < c.cOpen → c.cOpen ≤ 1000000000 →
          v.u + a.eV * ms < v.budget → v.u + a.eV * ms + v.budget * v.p / 100 ≤ v.budget → v.budget ≤ 1000000000000 →
          v.summary.viewMs + ms ≤ 4294967295 →
          exec (.viewOff q) s = .next (s.answered q 0x24 .done (.view .off)
            { s.found q.us with
              illum := { s.core.illum with view := { s.core.illum.view with wanted := false } }
              dose := { aOpen := some (ao + a.eV * ms), accrual := none }
              vols := { s.core.vols with
                slots := s.core.vols.slots.set i (some { v with
                  uV := v.uV + a.eV * ms
                  summary := { v.summary with viewMs := v.summary.viewMs + ms } }) } }))

/-- An admitted flash stays under every cap and its planned dose within both accounts: E_app is at most E_eff, E_eff
at most E_req, the material cap and the operator cap, and Q_plan at most the remaining budget and at most the room
under the ceiling (R30, R31, R35). Above the warn temperature E_eff stays under the thermal cap, which falls from
E_req to 0 at the limit, and is 0 on a faulted reading; a reading with neither value nor fault caps it at a free value
(R32; notes 6). A calibration flash stays under E_req, the operator cap and class 0's material cap (R36). -/
def Obligations.AdmittedFlashKeepsToTheBudget : Prop :=
  (∀ (c : ClassFields) (v : Volume) (aOpen : Nat) (x : Setting) (cal : LampCal) (eOp : Nat) (t : Option Int) (f : Bool)
       (unread : Option Nat) (a : Admission),
       admitCapture c v aOpen x cal eOp t f unread = .ok a →
         a.eApp ≤ a.eEff ∧ a.eEff ≤ a.eReq ∧ a.eEff ≤ c.eMat ∧ a.eEff ≤ eOp
           ∧ a.qPlan ≤ v.budget - v.u ∧ a.qPlan ≤ c.cOpen - aOpen
           ∧ a.cVU ≤ x.cVU ∧ a.cVL ≤ x.cVL ∧ a.cRU ≤ x.cRU ∧ a.cRL ≤ x.cRL)
    ∧ ((∀ (c : ClassFields) (v : Volume) (aOpen : Nat) (x : Setting) (cal : LampCal) (eOp : Nat) (t : Option Int) (f : Bool)
          (unread : Option Nat) (a : Admission),
          admitCapture c v aOpen x cal eOp t f unread = .ok a →
            (∀ y : Int, f = false → t = some y → c.warn < y →
              (a.eEff : Int) * (c.limit - c.warn) ≤ (a.eReq : Int) * (c.limit - y) ∧ (c.limit ≤ y → a.eEff = 0))
              ∧ (f = true → a.eEff = 0)
              ∧ (∀ u : Nat, f = false → t = none → unread = some u → a.eEff ≤ u))
          ∧ ∀ (eMat : Option Nat) (x : Setting) (cal : LampCal) (eOp : Nat) (t : Option Int) (a : Admission),
            admitCalibration eMat x cal eOp t = .ok a →
              a.eApp ≤ a.eEff ∧ a.eEff ≤ a.eReq ∧ a.eEff ≤ eOp ∧ (∀ m : Nat, eMat = some m → a.eEff ≤ m)
                ∧ a.cVU ≤ x.cVU ∧ a.cVL ≤ x.cVL ∧ a.cRU ≤ x.cRU ∧ a.cRL ≤ x.cRL)

/-- A flash that is not dark is charged on its window: with channel P calibrated and a window neither faulted nor
full, E_used is the meter's figure, Q is E_used × D in units of 1,000 rounded up, and Q is added to the flash dose and
to A_open, each stopping at its bound; the dose record carries these figures (R25, R26, R37, R38, R39). No period of
the view light runs, as none does in a capture (R87). -/
def Obligations.FlashIsChargedOnItsMeter : Prop :=
  ∀ (adm : Admission) (r : Result) (cal : CalPair) (seq : SeqNo) (i : Fin 16) (v : Volume) (ao e qq : Nat) (s : Core),
    adm.dark = false → r.flag ≠ some .fault → r.code ≠ 8388607 → s.meas.cal.p = some cal →
    s.vols.mounted = some i → s.vols.slots[i] = some v → s.dose = { aOpen := some ao, accrual := none } →
    e = ((max 0 (min 8388607 (r.code - cal.x))).toNat * cal.y.toNat + 8388607 - 1) / 8388607 →
    qq = (e * adm.d + 1000 - 1) / 1000 →
    (s.chargeWindow adm (some r) seq).2.eUsed = e
      ∧ (s.chargeWindow adm (some r) seq).2.source = .meter
      ∧ (s.chargeWindow adm (some r) seq).2.q = qq
      ∧ (s.chargeWindow adm (some r) seq).2.aOpenAfter = min 4294967295 (ao + qq)
      ∧ (s.chargeWindow adm (some r) seq).1.dose.aOpen = some (min 4294967295 (ao + qq))
      ∧ ∃ v', (s.chargeWindow adm (some r) seq).1.vols.slots[i] = some v'
          ∧ v'.uF = min 1099511627775 (v.uF + qq) ∧ v'.uV = v.uV ∧ v'.budget = v.budget ∧ v'.cursor = v.cursor
          ∧ v'.captured = v.captured ∧ v'.segs = v.segs
          ∧ v'.summary.highestE = max v.summary.highestE e

/-- The low-water line of a volume is floor(B × p / 100). A check that finds R below it with the flag clear sets the
flag and forms the BUDGET report LOW with the slot, the instance number, B, U and W; any other check leaves all as it
stands, and with B × p below 100 every check does; while the flag of the mounted volume is set, BUDGET_LOW is true
(R46). -/
def Obligations.LowWaterIsWatched : Prop :=
  ∀ (i : Fin 16) (v : Volume) (s : Core), s.vols.slots[i] = some v →
    v.w = v.budget * v.p / 100
      ∧ (v.budget - v.u < v.budget * v.p / 100 → v.low = false →
        s.checkLow i = { s with
          vols := { s.vols with slots := s.vols.slots.set i (some { v with low := true }) }
          out := s.out ++ [.report (.budgetLow i.val v.inst v.budget v.u (v.budget * v.p / 100))] })
      ∧ ((v.budget * v.p / 100 ≤ v.budget - v.u ∨ v.low = true) → s.checkLow i = s)
      ∧ (v.budget * v.p < 100 → v.w = 0 ∧ s.checkLow i = s)
      ∧ (s.vols.mounted = some i → s.word.budgetLow = v.low)

/-- Lamp-off when D has elapsed puts the banks out and starts the recovery; with the window result at the same instant
a calibration flash ends with its reply LIT, carrying the applied codes and the figure that its meter gives (R36, R69,
R78, R79, R81). The recovery ends 150 ms after lamp-off: the lifecycle enters THERMAL_HOLD when the hold is in force
and IDLE otherwise. A capture flash that has waited 60 s in the hold is refused THERMAL: it is discarded, its attempt
ends without a record, and a CAPTURE step that asked for it fails and holds the queue (R80, R83, R121, R142, R148).
The grant of the flash's window puts the banks on: the lifecycle enters LIT, and the attempt takes the next sequence
number, the stamp of the instant and its number at the opening; each needed camera is triggered, or judged NOT_READY
(R55, R77, R122). Here the grant comes with the end of a MEASURE of G. A capture flash whose cameras have both been
judged TAKEN ends its attempt at its lamp-off, with the window result: the CAPTURE record goes to the newest end of
the ring, with the dose of R38 and R39, the opening joins the captured set, and the CAPTURE step ends DONE (R20, R79,
R123 to R125, R142, R148). The window neither saturates nor faults. -/
def Obligations.FlashesEnd : Prop :=
  ((∀ (us : Nat) (f : Flash) (adm : Admission) (entry : Nat) (code : Int) (cal : CalPair) (c : Conversion) (s : State),
          s.core.illum.life = .lit → s.core.illum.flash = some f → f.by_ = .calibration entry → f.adm = some adm →
          f.litAt + adm.d ≤ (s.found us).now → s.core.meas.conv = some c → c.kind = .window → c.channel = .P →
          c.requesters = [.window] → s.core.meas.pending = ⟨none, none, none, none⟩ → s.core.meas.cal.p = some cal →
          s.core.faults = [] → -8388608 < code → code < 8388607 →
          ∃ t r, exec (.lampOff us (some code)) s = .next t
            ∧ r.code = code ∧ r.flag = none ∧ r.kind = .window ∧ r.stamp = (s.found us).stamp
            ∧ t.core = { s.found us with
                illum := { s.core.illum with
                  life := .recovering, flash := none, closing := none, lampOffAt := some (f.litAt + adm.d) }
                meas := { s.core.meas with conv := none, latch := { s.core.meas.latch with p := some r } } }
            ∧ (s.found us).bankDrive = (adm.cVU, adm.cVL, adm.cRU, adm.cRL) ∧ t.core.bankDrive = (0, 0, 0, 0)
            ∧ ∀ p ∈ s.link.pending, p.id = entry →
                { p with reply := some { status := .done, body := .calFlash (.lit adm r (meterLux code cal) .meter) } }
                  ∈ t.link.pending)
       ∧ (∀ (us t0 : Nat) (s : State),
             (s.core.illum.life = .recovering → s.core.illum.lampOffAt = some t0 → t0 + 150000 ≤ (s.found us).now →
               exec (.recoveryEnd us) s = .next (s.quietly
                 { s.found us with
                   illum := { s.core.illum with life := if s.core.illum.hold then .thermalHold else .idle } }))
               ∧ (∀ (f : Flash) (side : Side) (a : Attempt) (st : Step) (rest : List Step) (ask : SideAsked) (retake : Bool),
                 s.core.illum.life = .thermalHold → s.core.illum.hold = true → s.core.illum.flash = some f →
                 f.by_ = .capture side → f.metHold = some t0 → t0 + 60000000 ≤ (s.found us).now →
                 s.core.cap.attempt = some a → a.phase = .admitting → s.core.seq.op = some .attempt →
                 s.core.seq.queue = st :: rest → st.work = .capture ask retake →
                 ∃ t, exec (.thermalWaitExpiry us) s = .next t
                   ∧ t.core.illum.flash = none ∧ t.core.illum.life = .thermalHold
                   ∧ t.core.cap.attempt = none ∧ t.core.cap.ring = s.core.cap.ring
                   ∧ t.core.seq.queue = rest ∧ t.core.seq.state = .held ∧ t.core.seq.reason = some .stepFailed
                   ∧ t.core.vols = s.core.vols ∧ t.core.motion = s.core.motion)))
    ∧ (∀ (us entry : Nat) (code : Int) (c : Conversion) (f : Flash) (side : Side) (adm : Admission) (a : Attempt)
          (i : Fin 16) (v : Volume) (s : State),
          s.core.meas.conv = some c → c.channel = .G → c.kind = .spot → c.requesters = [.measure entry] →
          c.since + 4000 ≤ (s.found us).now → (s.found us).now ≤ c.since + c.limit →
          s.core.meas.pending = ⟨some { kind := .window, requesters := [.window] }, none, none, none⟩ → s.core.faults = [] →
          s.core.illum.life = .meterWait → s.core.illum.flash = some f → f.by_ = .capture side → f.adm = some adm →
          s.core.cap.attempt = some a → a.phase = .admitting → a.side = .both → s.core.cap.camV.isReady = true →
          s.core.cap.camR.isReady = false →
          s.core.vols.mounted = some i → s.core.vols.slots[i] = some v → v.tallies.attempts < 4294967295 →
          ∃ t r, exec (.spotResult us code) s = .next t
            ∧ t.core = { s.found us with
                meas := { s.core.meas with
                  conv := some { channel := .P, kind := .window, requesters := [.window], since := (s.found us).now,
                                 limit := s.core.illum.active.d + 12000 }
                  pending := ⟨none, none, none, none⟩
                  latch := s.core.meas.latch.set .G (some r) }
                illum := { s.core.illum with life := .lit, flash := some { f with litAt := (s.found us).now } }
                cap := { s.core.cap with
                  nextSeq := s.core.cap.nextSeq + 1
                  litCount := s.core.cap.litCount + 1
                  camV := { s.core.cap.camV with trigger := true, sawLow := false, frame := .triggered }
                  camR := { s.core.cap.camR with trigger := true, sawLow := false, frame := .failed .notReady }
                  attempt := some { a with
                    phase := .lit, seq := s.core.cap.nextSeq, litStamp := (s.found us).stamp
                    number := s.core.cap.litCount + 1, qPlan := adm.qPlan, dose := none, frameSince := none } }
                vols := { s.core.vols with
                  slots := s.core.vols.slots.set i (some { v with
                    tallies := { v.tallies with attempts := v.tallies.attempts + 1 } }) } })
    ∧ (∀ (us : Nat) (code : Int) (f : Flash) (side : Side) (adm : Admission) (a : Attempt) (cal : CalPair) (c : Conversion)
          (i : Fin 16) (v : Volume) (st : Step) (ask : SideAsked) (retake : Bool) (e qq : Nat) (s : State),
          s.core.illum.life = .lit → s.core.illum.flash = some f → f.by_ = .capture side → f.adm = some adm →
          adm.dark = false → f.litAt + adm.d ≤ (s.found us).now →
          s.core.meas.conv = some c → c.kind = .window → c.channel = .P → c.requesters = [.window] →
          s.core.meas.pending = ⟨none, none, none, none⟩ → s.core.meas.cal.p = some cal → s.core.faults = [] →
          -8388608 < code → code < 8388607 →
          s.core.cap.attempt = some a → a.phase = .lit → a.aborting = false → a.side = .both →
          s.core.cap.camV.frame = .taken → s.core.cap.camR.frame = .taken →
          s.core.vols.mounted = some i → s.core.vols.slots[i] = some v →
          s.core.seq.state = .running → s.core.seq.op = some .attempt → s.core.seq.queue = [st] → st.work = .capture ask retake →
          e = ((max 0 (min 8388607 (code - cal.x))).toNat * cal.y.toNat + 8388607 - 1) / 8388607 →
          qq = (e * adm.d + 1000 - 1) / 1000 →
          ∃ t dose v', exec (.lampOff us (some code)) s = .next t
            ∧ t.core.cap.ring = s.core.cap.ring ++
                [.capture { seq := a.seq, stamp := a.litStamp, slot := i.val, inst := v.inst, opening := a.opening,
                            left := some (leftLabel v.segs a.opening), right := some (rightLabel v.segs a.opening),
                            gapBefore := gapBefore v.segs a.opening, side := .both, number := a.number, outcome := .ok,
                            dose := dose }]
            ∧ dose.eUsed = e ∧ dose.source = .meter ∧ dose.saturated = false ∧ dose.q = qq ∧ dose.eApp = adm.eApp
            ∧ dose.d = adm.d ∧ dose.cause = adm.cause ∧ dose.dimmed = adm.dimmed ∧ dose.t = adm.t
            ∧ t.core.cap.attempt = none ∧ t.core.cap.nextSeq = s.core.cap.nextSeq
            ∧ t.core.vols.slots[i] = some v' ∧ v'.uF = min 1099511627775 (v.uF + qq) ∧ v'.cursor = v.cursor
            ∧ (∀ k, k ∈ v'.captured ↔ k = a.opening ∨ k ∈ v.captured)
            ∧ t.core.illum.life = .recovering ∧ t.core.illum.flash = none ∧ t.core.illum.closing = none
            ∧ t.core.illum.lampOffAt = some (f.litAt + adm.d)
            ∧ t.core.seq.queue = [] ∧ t.core.seq.state = .idle ∧ t.core.seq.latched.captureOk = true
            ∧ t.core.seq.latched.captureDimmed = adm.dimmed ∧ t.core.motion = s.core.motion)

/-! ### Measurement -/

/-- CALIBRATE of an uncalibrated P, G or F with its fields present sets them, clamped into their ranges, and answers
with them; of T it also posts a T request and starts the periodic timer; a channel other than the four is BAD_FIELD 1
(R60, R65, section 3.3). The channel codes 0 to 3 for P, G, F and T are notes 11. CALIBRATE of P, G, F or of a T
already calibrated clamps what it sets into the ranges of section 3.3, and its reply names the clamped fields: bit 1
the first field, bit 2 the second (R60, R191). -/
def Obligations.ChannelsAreCalibrated : Prop :=
  (∀ (q : Req) (x y : Int) (s : State), Taken q s →
       (s.core.meas.cal.p = none → -65536 ≤ x → x ≤ 65535 → 1000 ≤ y → y ≤ 200000 →
         exec (.calibrate q 0 0x6#16 x y) s = .next (s.answered q 0x28 .done (.channelCal .P (some { x := x, y := y }))
           { s.found q.us with
             meas := { s.core.meas with cal := { s.core.meas.cal with p := some { x := x, y := y } } } }))
         ∧ (s.core.meas.cal.g = none → -65536 ≤ x → x ≤ 65535 →
           exec (.calibrate q 1 0x2#16 x y) s = .next (s.answered q 0x28 .done (.channelCal .G (some { x := x, y := 0 }))
             { s.found q.us with
               meas := { s.core.meas with cal := { s.core.meas.cal with g := some { x := x, y := 0 } } } }))
         ∧ (s.core.meas.cal.f = none → -65536 ≤ x → x ≤ 65535 → 5000 < y →
           exec (.calibrate q 2 0x6#16 x y) s = .next
             (s.answered q 0x28 (.doneClamped 0x4#16) (.channelCal .F (some { x := x, y := 5000 }))
               { s.found q.us with
                 meas := { s.core.meas with cal := { s.core.meas.cal with f := some { x := x, y := 5000 } } } }))
         ∧ (s.core.meas.cal.t = none → -400 ≤ x → x ≤ 2000 → 1 ≤ y → y ≤ 3000 → s.core.meas.conv = none →
           s.core.meas.pending = ⟨none, none, none, none⟩ →
           exec (.calibrate q 3 0x6#16 x y) s = .next (s.answered q 0x28 .done (.channelCal .T (some { x := x, y := y }))
             { s.found q.us with
               meas := { s.core.meas with
                 cal := { s.core.meas.cal with t := some { x := x, y := y } }
                 timer := some (s.found q.us).now
                 conv := some { channel := .T, kind := .spot, requesters := [.timer], since := (s.found q.us).now,
                                limit := 12000 } } }))
         ∧ ∀ (n : Nat) (m : Mask), 4 ≤ n →
           exec (.calibrate q n m x y) s = .next (s.answered q 0x28 (.badField 1) .empty (s.found q.us)))
    ∧ (∀ (q : Req) (x y x' y' : Int) (st : Status) (s : State), Taken q s →
          st = (if x = x' then (if y = y' then .done else .doneClamped 0x0004#16)
                else (if y = y' then .doneClamped 0x0002#16 else .doneClamped 0x0006#16)) →
          (x' = max (-65536) (min 65535 x) → y' = max 1000 (min 200000 y) →
            exec (.calibrate q 0 0x6#16 x y) s = .next (s.answered q 0x28 st (.channelCal .P (some { x := x', y := y' }))
              { s.found q.us with
                meas := { s.core.meas with cal := { s.core.meas.cal with p := some { x := x', y := y' } } } }))
            ∧ (s.core.meas.cal.g = none → x' = max (-65536) (min 65535 x) →
              exec (.calibrate q 1 0x2#16 x y) s = .next
                (s.answered q 0x28 (if x = x' then .done else .doneClamped 0x0002#16)
                  (.channelCal .G (some { x := x', y := 0 }))
                  { s.found q.us with
                    meas := { s.core.meas with cal := { s.core.meas.cal with g := some { x := x', y := 0 } } } }))
            ∧ (x' = max (-65536) (min 65535 x) → y' = max 1 (min 5000 y) →
              exec (.calibrate q 2 0x6#16 x y) s = .next (s.answered q 0x28 st (.channelCal .F (some { x := x', y := y' }))
                { s.found q.us with
                  meas := { s.core.meas with cal := { s.core.meas.cal with f := some { x := x', y := y' } } } }))
            ∧ (s.core.meas.cal.t ≠ none → x' = max (-400) (min 2000 x) → y' = max 1 (min 3000 y) →
              exec (.calibrate q 3 0x6#16 x y) s = .next (s.answered q 0x28 st (.channelCal .T (some { x := x', y := y' }))
                { s.found q.us with
                  meas := { s.core.meas with cal := { s.core.meas.cal with t := some { x := x', y := y' } } } })))

/-- MEASURE posts a spot request: a free converter with no entry pending begins the conversion at once, and a MEASURE
of P that finds any conversion in progress goes into the pending set, counted as one converter wait; the reply waits
for the result. G without an open reference is refused NOT_CALIBRATED (R52, R58, R67). The channel codes 0 to 3 for P,
G, F and T are notes 11. A conversion past its limit is declared faulted: its latch holds code 0 with FAULT and no
value, a METER_FAULT naming the channel stands in the fault set, the sequencer is HELD with reason FAULT, and the
converter is free. A result that comes later is discarded. An expiry of the periodic timer posts a T request (R55,
R58, R65, R149, R168, R170). -/
def Obligations.MeasurePostsARequest : Prop :=
  (∀ (q : Req) (s : State), Taken q s →
       (∀ (n : Nat) (ch : Channel), [Channel.P, .G, .F, .T][n]? = some ch → (ch = .G → s.core.motion.cRef ≠ none) →
         s.core.meas.conv = none → s.core.meas.pending = ⟨none, none, none, none⟩ →
         ∃ t, exec (.measure q n) s = .next t ∧ Waits q 0x29 s t ∧ t.counters = s.counters
           ∧ t.core = { s.found q.us with
               meas := { s.core.meas with
                 conv := some { channel := ch, kind := .spot, requesters := [.measure s.link.nextEntry],
                                since := (s.found q.us).now, limit := 12000 } } })
         ∧ (∀ c : Conversion, s.core.meas.conv = some c → s.core.meas.pending = ⟨none, none, none, none⟩ →
           ∃ t, exec (.measure q 0) s = .next t ∧ Waits q 0x29 s t
             ∧ t.core = { s.found q.us with
                 meas := { s.core.meas with
                   pending := ⟨some { kind := .spot, requesters := [.measure s.link.nextEntry] }, none, none, none⟩ } }
             ∧ ∀ i : Fin 4, t.counters[i] =
                 if (s.counters[i]).enable && (s.counters[i]).event == .converterWaits then (s.counters[i]).add 1
                 else s.counters[i])
         ∧ (s.core.motion.cRef = none →
           exec (.measure q 1) s = .next (s.answered q 0x29 (.refused .notCalibrated) .empty (s.found q.us))))
    ∧ (∀ (us : Nat) (s : State),
          (∀ (c : Conversion) (entry : Nat), s.core.meas.conv = some c → c.kind = .spot → c.channel ≠ .T →
            c.requesters = [.measure entry] → c.since + c.limit ≤ (s.found us).now →
            s.core.meas.pending = ⟨none, none, none, none⟩ → s.core.faults = [] →
            ∃ t, exec (.conversionFault us) s = .next t
              ∧ t.core.meas = { s.core.meas with
                  conv := none
                  latch := s.core.meas.latch.set c.channel (some
                    { code := 0, stamp := (s.found us).stamp, flag := some .fault, value := none, kind := .spot }) }
              ∧ t.core.faults = [{ kind := .meterFault, detail := .channels [c.channel], stamp := (s.found us).stamp, count := 1,
                                   acked := false }]
              ∧ t.core.first = some { kind := .meterFault, detail := .channels [c.channel], stamp := (s.found us).stamp }
              ∧ t.core.seq.state = .held ∧ t.core.seq.reason = some .fault ∧ t.core.seq.queue = s.core.seq.queue
              ∧ t.core.vols = s.core.vols ∧ t.core.motion = s.core.motion ∧ t.core.illum = s.core.illum
              ∧ t.core.cap = s.core.cap ∧ t.core.dose = s.core.dose)
            ∧ (∀ code : Int, exec (.lateResultDiscarded us code) s = .next (s.quietly (s.found us)))
            ∧ (∀ t0 : Nat, s.core.meas.timer = some t0 → t0 + 500000 ≤ (s.found us).now → s.core.meas.conv = none →
              s.core.meas.pending = ⟨none, none, none, none⟩ →
              exec (.tempTimer us) s = .next (s.quietly
                { s.found us with
                  meas := { s.core.meas with
                    timer := some (t0 + 500000)
                    conv := some { channel := .T, kind := .spot, requesters := [.timer], since := (s.found us).now,
                                   limit := 12000 } } })))

/-- A spot result is clamped to the code range, flagged when it saturates, converted with the calibration in force and
written into its channel's latch, and it answers the MEASURE that waits for it; the converter is then free (R51, R57,
R61, R67). The channels P, G and F; the fault set is empty. The values: P is rounded up and F down over the full code,
T is the base and the rounded-down part of the span, limited to -400 to 2000, and T_g is the rounded-down per-mille of
the open reference, limited to 0 to 1000 (R62 to R64). A T result at the limit of the mounted class puts the thermal
hold in force, and one at its warn temperature or below ends it, each with a THERMAL report; one between the two
leaves it (R82, R88). The view light is off and no flash is in hand. -/
def Obligations.SpotResultWritesTheLatch : Prop :=
  (∀ (us entry : Nat) (code : Int) (ch : Channel) (c : Conversion) (s : State),
       s.core.meas.conv = some c → c.channel = ch → ch ≠ .T → c.kind = .spot → c.requesters = [.measure entry] →
       c.since + 4000 ≤ (s.found us).now → (s.found us).now ≤ c.since + c.limit →
       s.core.meas.pending = ⟨none, none, none, none⟩ → s.core.faults = [] →
       ∃ t r, exec (.spotResult us code) s = .next t
         ∧ r.code = max (-8388608) (min 8388607 code) ∧ r.stamp = (s.found us).stamp ∧ r.kind = .spot
         ∧ r.flag = (if 8388607 ≤ code then some .highSat else if code ≤ -8388608 then some .lowSat else none)
         ∧ r.value = (s.found us).convert ch r.code
         ∧ t.core = { s.found us with
             meas := { s.core.meas with conv := none, latch := s.core.meas.latch.set ch (some r) } }
         ∧ t.counters = s.counters
         ∧ ∀ p ∈ s.link.pending, p.id = entry →
             { p with reply := some { status := .done, body := .measured ch r } } ∈ t.link.pending)
    ∧ (∀ (code r : Int) (cal : CalPair) (s : Core),
          (s.meas.cal.p = some cal → ∃ e : Nat, s.convert .P code = some (e : Int)
              ∧ (max 0 (min 8388607 (code - cal.x))).toNat * cal.y.toNat ≤ e * 8388607
              ∧ e * 8388607 < (max 0 (min 8388607 (code - cal.x))).toNat * cal.y.toNat + 8388607)
            ∧ (s.meas.cal.f = some cal → ∃ f : Int, s.convert .F code = some f
              ∧ f * 8388607 ≤ max 0 (min 8388607 (code - cal.x)) * cal.y
              ∧ max 0 (min 8388607 (code - cal.x)) * cal.y < (f + 1) * 8388607)
            ∧ (s.meas.cal.t = some cal → ∃ k : Int, s.convert .T code = some (max (-400) (min 2000 (cal.x + k)))
              ∧ k * 8388607 ≤ code * cal.y ∧ code * cal.y < (k + 1) * 8388607)
            ∧ (s.motion.cRef = some r → s.meas.cal.g = some cal →
              ∃ k : Int, s.convert .G code = some (max 0 (min 1000 k))
                ∧ k * max (r - cal.x) 1 ≤ 1000 * max (code - cal.x) 0
                ∧ 1000 * max (code - cal.x) 0 < (k + 1) * max (r - cal.x) 1))
    ∧ (∀ (us : Nat) (code x : Int) (c : Conversion) (i : Fin 16) (v : Volume) (k : ClassFields) (s : State),
          s.core.meas.conv = some c → c.channel = .T → c.kind = .spot → c.requesters = [.timer] →
          c.since + 4000 ≤ (s.found us).now → (s.found us).now ≤ c.since + c.limit →
          s.core.meas.pending = ⟨none, none, none, none⟩ → s.core.faults = [] → s.core.vols.mounted = some i →
          s.core.vols.slots[i] = some v → s.core.vols.classes[v.cls] = some k → s.core.illum.flash = none → s.core.illum.view.wanted = false → -8388608 < code → code < 8388607 →
          (s.found us).convert .T code = some x →
          ∃ t r, exec (.spotResult us code) s = .next t
            ∧ r = { code := code, stamp := (s.found us).stamp, flag := none, value := some x, kind := .spot }
            ∧ (k.limit ≤ x → s.core.illum.hold = false → s.core.illum.life = .idle →
              t.core = { s.found us with
                meas := { s.core.meas with conv := none, latch := s.core.meas.latch.set .T (some r) }
                illum := { s.core.illum with
                  hold := true, life := .thermalHold, view := { s.core.illum.view with thermal := true } } }
                ∧ (s.link.tx ≠ none → s.link.reports.length < 32 →
                  t.link.reports = s.link.reports ++ [.thermal true (some x) (some (k.warn, k.limit))]))
            ∧ (x < k.limit → x ≤ k.warn → s.core.illum.hold = true → s.core.illum.life = .thermalHold →
              t.core = { s.found us with
                meas := { s.core.meas with conv := none, latch := s.core.meas.latch.set .T (some r) }
                illum := { s.core.illum with
                  hold := false, life := .idle, view := { s.core.illum.view with thermal := false } } }
                ∧ (s.link.tx ≠ none → s.link.reports.length < 32 →
                  t.link.reports = s.link.reports ++ [.thermal false (some x) (some (k.warn, k.limit))]))
            ∧ ((k.limit ≤ x ∧ s.core.illum.hold = true) ∨ (k.warn < x ∧ x < k.limit)
                ∨ (x < k.limit ∧ s.core.illum.hold = false) →
              t.core = { s.found us with
                meas := { s.core.meas with conv := none, latch := s.core.meas.latch.set .T (some r) } }
                ∧ t.link = s.link.pump))

/-! ### The cradle -/

/-- HOME is refused INTERLOCK while the curtain is BROKEN and NOT_CALIBRATED while F is uncalibrated. It is BUSY while
a homing is in hand, the sequencer RUNNING, HALTING or HELD with a suspended head, the lifecycle neither IDLE nor in
THERMAL_HOLD, or an axis moving, and then refused STATE with an axis STOPPED. Otherwise, the axes referenced,
UNREFERENCED or in FAULT and faults standing or not, it begins phase 1, in which the platen rises, and its reply waits
for the end (R93, R94). An acknowledged fault may be judged as ended when the platen starts (R175; that a moving axis
ends its timeout is the model's, notes 47); every other stands. -/
def Obligations.HomeBegins : Prop :=
  ∀ (q : Req) (s : State), Taken q s →
    (s.core.panel.broken = true →
      exec (.home q) s = .next (s.answered q 0x30 (.refused .interlock) .empty (s.found q.us)))
      ∧ (s.core.panel.broken = false → s.core.meas.cal.f = none →
        exec (.home q) s = .next (s.answered q 0x30 (.refused .notCalibrated) .empty (s.found q.us)))
      ∧ (s.core.panel.broken = false → s.core.meas.cal.f ≠ none →
        (s.core.motion.homing ≠ none ∨ s.core.seq.state = .running ∨ s.core.seq.state = .halting
          ∨ (s.core.seq.state = .held ∧ (s.core.seq.op ≠ none ∨ s.core.seq.pause ≠ none))
          ∨ (s.core.illum.life ≠ .idle ∧ s.core.illum.life ≠ .thermalHold)
          ∨ (∃ m, s.core.motion.platen = .moving m) ∨ s.core.motion.angle = .moving
          ∨ ∃ m, s.core.motion.arm = .moving m) →
        exec (.home q) s = .next (s.answered q 0x30 .busy .empty (s.found q.us)))
      ∧ (s.core.panel.broken = false → s.core.meas.cal.f ≠ none → s.core.motion.homing = none →
        (s.core.seq.state = .idle
          ∨ (s.core.seq.state = .held ∧ s.core.seq.op = none ∧ s.core.seq.pause = none)) →
        (s.core.illum.life = .idle ∨ s.core.illum.life = .thermalHold) → (∀ m, s.core.motion.platen ≠ .moving m) →
        s.core.motion.angle ≠ .moving → (∀ m, s.core.motion.arm ≠ .moving m) →
        (((∃ m, s.core.motion.platen = .stopped m) ∨ s.core.motion.angle = .stopped
            ∨ ∃ m cause, s.core.motion.arm = .stopped m cause) →
          exec (.home q) s = .next (s.answered q 0x30 (.refused .state) .empty (s.found q.us)))
          ∧ ((∀ m, s.core.motion.platen ≠ .stopped m) → s.core.motion.angle ≠ .stopped →
            (∀ m cause, s.core.motion.arm ≠ .stopped m cause) →
            ∃ t, exec (.home q) s = .next t ∧ Waits q 0x30 s t
              ∧ t.core = { s.found q.us with
                  faults := t.core.faults
                  motion := { s.core.motion with
                    platen := .moving .raising
                    platenSince := (s.found q.us).now
                    homing := some { entry := s.link.nextEntry, phase := .platen, since := (s.found q.us).now } } }
              ∧ ((∀ e ∈ s.core.faults, e.acked = false) → t.core.faults = s.core.faults)
              ∧ (∀ e ∈ t.core.faults, e ∈ s.core.faults)
              ∧ ∀ e ∈ s.core.faults, (∀ x ∈ s.core.faults, x.kind = e.kind → x.acked = false) → e ∈ t.core.faults))

/-- The phases of a homing follow one another: the platen UP, then the valve closed and the arm on its way, then the
arm PARKED and the angle moving to 120 degrees or the class's max opening angle, then its sensor, then AT_ANGLE with a
G request posted (R94). Each clears the homing-failed mark of its axis. The fault set is empty, nothing waits for the
angle, and the converter is free. With a volume mounted the angle goes to 120 degrees or to its class's max opening
angle, whichever is less; phase 4 ends with the G result: the open reference is renewed, or stands where the reading
is faulted, and the reply is COMPLETED (R94, R95). -/
def Obligations.HomingGoesThroughItsPhases : Prop :=
  (∀ (us : Nat) (h : Homing) (s : State), s.core.motion.homing = some h → s.core.faults = [] →
       s.core.motion.stepRaise = false →
       (h.phase = .platen →
         exec (.homingPhaseDone us) s = .next (s.quietly
           { s.found us with
             motion := { s.core.motion with
               platenFailed := false, forceRaise := false, platen := .up, platenSince := (s.found us).now
               valveOpen := false, arm := .moving .returning, stage := .travel, armSince := (s.found us).now
               homing := some { h with phase := .arm, since := (s.found us).now } } }))
         ∧ (h.phase = .arm → s.core.cls = none →
           exec (.homingPhaseDone us) s = .next (s.quietly
             { s.found us with
               motion := { s.core.motion with
                 armFailed := false, arm := .parked, stage := .travel, armSince := (s.found us).now
                 angleTarget := some 120, angle := .moving, angleSince := (s.found us).now
                 homing := some { h with phase := .angleSensor, since := (s.found us).now } } }))
         ∧ (h.phase = .angleSensor →
           exec (.homingPhaseDone us) s = .next (s.quietly
             { s.found us with
               motion := { s.core.motion with
                 homing := some { h with phase := .angleTarget, since := (s.found us).now } } }))
         ∧ (h.phase = .angleTarget → s.core.motion.lowerHeld = false → s.core.motion.turnWait = none →
           s.core.meas.conv = none → s.core.meas.pending = ⟨none, none, none, none⟩ →
           exec (.homingPhaseDone us) s = .next (s.quietly
             { s.found us with
               motion := { s.core.motion with
                 angleFailed := false, anglePos := s.core.motion.angleTarget, angleTarget := none
                 angle := .atAngle, angleSince := (s.found us).now
                 homing := some { h with phase := .reference, since := (s.found us).now } }
               meas := { s.core.meas with
                 conv := some { channel := .G, kind := .spot, requesters := [.homingRef], since := (s.found us).now,
                                limit := 12000 } } })))
    ∧ (∀ (us : Nat) (code : Int) (h : Homing) (c : Conversion) (s : State), s.core.motion.homing = some h →
          s.core.faults = [] →
          (∀ k : ClassFields, h.phase = .arm → s.core.cls = some k →
            exec (.homingPhaseDone us) s = .next (s.quietly
              { s.found us with
                motion := { s.core.motion with
                  armFailed := false, arm := .parked, stage := .travel, armSince := (s.found us).now
                  angleTarget := some (min 120 k.maxAngle), angle := .moving, angleSince := (s.found us).now
                  homing := some { h with phase := .angleSensor, since := (s.found us).now } } }))
            ∧ (h.phase = .reference → s.core.meas.conv = some c → c.channel = .G → c.kind = .spot →
              c.requesters = [.homingRef] → s.core.meas.pending = ⟨none, none, none, none⟩ →
              (c.since + 4000 ≤ (s.found us).now → (s.found us).now ≤ c.since + c.limit →
                ∃ t r, exec (.spotResult us code) s = .next t
                  ∧ r.code = max (-8388608) (min 8388607 code)
                  ∧ t.core = { s.found us with
                      motion := { s.core.motion with cRef := some r.code, homing := none }
                      meas := { s.core.meas with conv := none, latch := s.core.meas.latch.set .G (some r) } }
                  ∧ ∀ p ∈ s.link.pending, p.id = h.entry →
                      { p with
                        reply := some
                          { status := .done
                            body := .homed .completed .reference s.core.motion.platen s.core.motion.arm s.core.motion.angle
                              true } }
                        ∈ t.link.pending)
                ∧ (c.since + c.limit ≤ (s.found us).now →
                  ∃ t, exec (.conversionFault us) s = .next t
                    ∧ t.core.motion = { s.core.motion with homing := none }
                    ∧ t.core.faults = [{ kind := .meterFault, detail := .channels [.G], stamp := (s.found us).stamp,
                                         count := 1, acked := false }]
                    ∧ ∀ p ∈ s.link.pending, p.id = h.entry →
                        { p with
                          reply := some
                            { status := .done
                              body := .homed .completed .reference s.core.motion.platen s.core.motion.arm
                                s.core.motion.angle false } }
                          ∈ t.link.pending)))

/-- A homing phase past its limit ends the homing FAILED: phase 1 after 2,000 ms leaves the platen UNREFERENCED with
its homing-failed mark set, PLATEN_TIMEOUT raised and the reply formed (R94, R95). Phase 2 fails after 5,000 ms with
ARM_TIMEOUT, and each leg of phase 3 after 10,000 ms with ANGLE_TIMEOUT; the angle is then UNREFERENCED at a position
that is a free value where it was known (R94; notes 5). -/
def Obligations.HomingPhaseFails : Prop :=
  (∀ (us : Nat) (h : Homing) (s : State), s.core.motion.homing = some h → h.phase = .platen →
       h.since + 2000000 ≤ (s.found us).now → s.core.faults = [] → s.core.motion.stepRaise = false →
       s.core.motion.lowerHeld = false → s.core.motion.turnWait = none →
       ∃ t, exec (.homingPhaseTimeout us) s = .next t
         ∧ t.core.motion = { s.core.motion with
             platenFailed := true, forceRaise := false, platen := .unreferenced, platenSince := (s.found us).now
             homing := none }
         ∧ t.core.faults = [{ kind := .platenTimeout, detail := .homing .platen, stamp := (s.found us).stamp, count := 1,
                              acked := false }]
         ∧ t.core.seq.state = .held ∧ t.core.seq.reason = some .fault ∧ t.core.vols = s.core.vols
         ∧ ∀ p ∈ s.link.pending, p.id = h.entry →
             { p with
               reply := some
                 { status := .done
                   body := .homed .failed .platen .unreferenced s.core.motion.arm s.core.motion.angle false } }
               ∈ t.link.pending)
    ∧ (∀ (us : Nat) (h : Homing) (s : State), s.core.motion.homing = some h → s.core.faults = [] →
          s.core.motion.lowerHeld = false → s.core.motion.turnWait = none →
          (h.phase = .arm → h.since + 5000000 ≤ (s.found us).now →
            ∃ t, exec (.homingPhaseTimeout us) s = .next t
              ∧ t.core.motion = { s.core.motion with
                  armFailed := true, arm := .unreferenced, stage := .travel, armSince := (s.found us).now, homing := none }
              ∧ t.core.faults = [{ kind := .armTimeout, detail := .homing .arm, stamp := (s.found us).stamp, count := 1,
                                   acked := false }]
              ∧ t.core.seq.state = .held ∧ t.core.seq.reason = some .fault ∧ t.core.vols = s.core.vols
              ∧ ∀ p ∈ s.link.pending, p.id = h.entry →
                  { p with
                    reply := some
                      { status := .done
                        body := .homed .failed .arm s.core.motion.platen .unreferenced s.core.motion.angle false } }
                    ∈ t.link.pending)
            ∧ ((h.phase = .angleSensor ∨ h.phase = .angleTarget) → h.since + 10000000 ≤ (s.found us).now →
              ∃ t pos, exec (.homingPhaseTimeout us) s = .next t
                ∧ (s.core.motion.anglePos = none → pos = none)
                ∧ t.core.motion = { s.core.motion with
                    angleFailed := true, angle := .unreferenced, anglePos := pos, angleTarget := none
                    angleSince := (s.found us).now, homing := none }
                ∧ t.core.faults = [{ kind := .angleTimeout, detail := .homing h.phase, stamp := (s.found us).stamp,
                                     count := 1, acked := false }]
                ∧ t.core.seq.state = .held ∧ t.core.seq.reason = some .fault ∧ t.core.vols = s.core.vols
                ∧ ∀ p ∈ s.link.pending, p.id = h.entry →
                    { p with
                      reply := some
                        { status := .done
                          body := .homed .failed h.phase s.core.motion.platen s.core.motion.arm .unreferenced false } }
                      ∈ t.link.pending))

/-- ANGLE_SET of an allowed angle with the platen UP and the arm PARKED moves the cradle to it, or is stopped at its
start by a BROKEN curtain; the move ends AT_ANGLE at its target, or in FAULT after 10,000 ms with ANGLE_TIMEOUT
raised; ANGLE_SET is refused STATE while the angle is UNREFERENCED and BUSY while it moves (R96, R109). -/
def Obligations.AngleMoves : Prop :=
  ∀ (q : Req) (us a : Nat) (s : State),
    (Taken q s → s.core.motion.angle = .unreferenced →
      exec (.angleSet q a) s = .next (s.answered q 0x31 (.refused .state) .empty (s.found q.us)))
      ∧ (Taken q s → s.core.motion.angle = .moving →
        exec (.angleSet q a) s = .next (s.answered q 0x31 .busy .empty (s.found q.us)))
      ∧ (Taken q s → s.core.motion.angle = .atAngle → s.core.motion.platen = .up → s.core.motion.arm = .parked →
        s.core.motion.anglePos ≠ some a → 80 ≤ a → a ≤ 180 → (∀ c, s.core.cls = some c → a ≤ c.maxAngle) →
        s.core.faults = [] →
        exec (.angleSet q a) s = .next (s.answered q 0x31 .done .empty
          { s.found q.us with
            motion := { s.core.motion with
              angleTarget := some a
              angle := if s.core.panel.broken then .stopped else .moving
              angleSince := (s.found q.us).now } }))
      ∧ (s.core.motion.angle = .moving → s.core.motion.homing = none → s.core.motion.lowerHeld = false →
        s.core.motion.turnWait = none → s.core.faults = [] →
        exec (.angleReached us) s = .next (s.quietly
          { s.found us with
            motion := { s.core.motion with
              anglePos := s.core.motion.angleTarget, angleTarget := none
              angle := .atAngle, angleSince := (s.found us).now } }))
      ∧ (∀ target, s.core.motion.angle = .moving → s.core.motion.homing = none → s.core.motion.lowerHeld = false →
        s.core.motion.turnWait = none → s.core.faults = [] → s.core.motion.angleTarget = some target →
        s.core.motion.angleSince + 10000000 ≤ (s.found us).now →
        ∃ t, exec (.angleTimeout us) s = .next t
          ∧ t.core.motion.angle = .fault ∧ t.core.motion.angleTarget = none
          ∧ t.core.motion.platen = s.core.motion.platen ∧ t.core.motion.arm = s.core.motion.arm
          ∧ t.core.faults = [{ kind := .angleTimeout, detail := .angle target, stamp := (s.found us).stamp, count := 1,
                               acked := false }]
          ∧ t.core.seq.state = .held ∧ t.core.seq.reason = some .fault ∧ t.core.vols = s.core.vols)

/-- While the platen is LOWERING for an attempt a force sample is asked for every 20 ms (R98). A lowering of 2,000 ms
ends in FAULT with PLATEN_TIMEOUT raised: the attempt ends PLATEN_FAILED without a record, the view light's
suppression is lifted, and the CAPTURE step that asked fails and holds the queue, with its STEP_DONE report where the
transmitter is busy and the report queue has room (R87, R99, R118, R142, R148). The converter is free. A platen that
comes DOWN for an attempt starts its camera wait (R98, R118, R119). A raise ends UP, or in FAULT after 2,000 ms with
PLATEN_TIMEOUT raised (R100). Nothing waits for the raise, and the fault set is empty. A raise for a turn ends with
the cup on its way down: the turn is in hand at its first attempt (R100, R101, R102). A force sample of a LOWERING,
taken for the platen: below the class target, or at or above it once the target has been reached, it changes nothing;
the first at or above the target starts the settling; one above 3/2 of the target raises PLATEN_FORCE, and a faulted
one METER_FAULT, and either ends the lowering: the platen rises, the attempt ends PLATEN_FAILED without a record, and
the CAPTURE step fails and holds the queue, with its STEP_DONE where the transmitter is busy and the report queue has
room (R58, R59, R98, R99, R118). -/
def Obligations.PlatenMoves : Prop :=
  (((∀ (us : Nat) (a : Attempt) (s : State), s.core.motion.platen = .moving .lowering → s.core.faults = [] →
             s.core.cap.attempt = some a → a.phase = .preparing → a.prep = .platen →
             s.core.meas.conv = none → s.core.meas.pending = ⟨none, none, none, none⟩ →
             (s.core.motion.sampleAt + 20000 ≤ (s.found us).now →
               exec (.platenSampleTimer us) s = .next (s.quietly
                 { s.found us with
                   motion := { s.core.motion with sampleAt := s.core.motion.sampleAt + 20000 }
                   meas := { s.core.meas with
                     conv := some { channel := .F, kind := .spot, requesters := [.force], since := (s.found us).now,
                                    limit := 12000 } } }))
               ∧ ∀ (st : Step) (rest : List Step) (ask : SideAsked) (retake : Bool),
                 s.core.motion.platenSince + 2000000 ≤ (s.found us).now → s.core.seq.op = some .attempt →
                 s.core.seq.queue = st :: rest → st.work = .capture ask retake →
                 ∃ t, exec (.loweringTimeout us) s = .next t
                   ∧ t.core.motion = { s.core.motion with
                       settle := none, platen := .fault, platenSince := (s.found us).now }
                   ∧ t.core.faults = [{ kind := .platenTimeout, detail := .lowering, stamp := (s.found us).stamp, count := 1,
                                        acked := false }]
                   ∧ t.core.cap.attempt = none ∧ t.core.cap.ring = s.core.cap.ring ∧ t.core.illum.view.suppressed = false
                   ∧ t.core.seq.queue = rest ∧ t.core.seq.state = .held ∧ t.core.seq.reason = some .stepFailed
                   ∧ t.core.vols = s.core.vols
                   ∧ (s.link.tx ≠ none → s.link.reports.length + 4 ≤ 32 → ∃ w,
                       .stepDone st.id .capture st.origin .failed (some .platen) w
                         (.capture (some (.platenFailed .timeout))) ∈ t.link.reports))
          ∧ (∀ (us t0 : Nat) (a : Attempt) (s : State), s.core.motion.platen = .moving .lowering → s.core.motion.settle = some t0 →
                t0 + 150000 ≤ (s.found us).now → s.core.faults = [] → s.core.cap.attempt = some a → a.phase = .preparing →
                a.prep = .platen → a.interlock = false → a.side = .both → s.core.cap.camV.ready = false →
                ∃ t, exec (.settlingEnd us) s = .next t
                  ∧ t.core.motion.platen = .down ∧ t.core.motion.settle = none
                  ∧ t.core.cap.attempt = some { a with prep := .cameras (s.found us).now }
                  ∧ t.core.cap.camV = { s.core.cap.camV with frame := .waiting }
                  ∧ t.core.cap.camR = { s.core.cap.camR with frame := .waiting }
                  ∧ t.core.vols = s.core.vols ∧ t.core.illum = s.core.illum ∧ t.core.seq = s.core.seq)
          ∧ (∀ (us : Nat) (s : State), s.core.motion.platen = .moving .raising → s.core.motion.homing = none → s.core.faults = [] →
                s.core.motion.stepRaise = false → s.core.motion.turnWait = none →
                exec (.platenUp us) s = .next (s.quietly
                    { s.found us with
                      motion := { s.core.motion with forceRaise := false, platen := .up, platenSince := (s.found us).now } })
                  ∧ (s.core.motion.platenSince + 2000000 ≤ (s.found us).now →
                    ∃ t, exec (.raiseTimeout us) s = .next t
                      ∧ t.core.motion = { s.core.motion with platen := .fault, platenSince := (s.found us).now }
                      ∧ t.core.faults = [{ kind := .platenTimeout, detail := .raising, stamp := (s.found us).stamp, count := 1,
                                           acked := false }]
                      ∧ t.core.seq.state = .held ∧ t.core.seq.reason = some .fault ∧ t.core.vols = s.core.vols)))
       ∧ (∀ (us : Nat) (i : Fin 16) (v : Volume) (s : State), s.core.motion.platen = .moving .raising →
             s.core.motion.homing = none → s.core.faults = [] → s.core.motion.stepRaise = false →
             s.core.motion.turnWait = some .raise → s.core.panel.broken = false → s.core.vols.mounted = some i →
             s.core.vols.slots[i] = some v → v.cursor < v.leaves → isFoldout v.segs (v.cursor + 1) = false →
             exec (.platenUp us) s = .next (s.quietly
               { s.found us with
                 motion := { s.core.motion with
                   forceRaise := false, platen := .up, platenSince := (s.found us).now, turnWait := none
                   turn := some { opening := v.cursor, attempt := 1, retries := 0, many := false, laid := false, failed := false,
                                  vacLost := false, aborting := false }
                   arm := .moving .lifting, stage := .descend, armSince := (s.found us).now } })))
    ∧ (∀ (us : Nat) (code x f : Int) (c : Conversion) (cal : CalPair) (i : Fin 16) (v : Volume) (k : ClassFields) (s : State),
          s.core.motion.platen = .moving .lowering → s.core.panel.broken = false → s.core.faults = [] →
          s.core.meas.conv = some c → c.channel = .F → c.kind = .spot → c.requesters = [.force] →
          s.core.meas.pending = ⟨none, none, none, none⟩ → s.core.meas.cal.f = some cal →
          s.core.vols.mounted = some i → s.core.vols.slots[i] = some v → s.core.vols.classes[v.cls] = some k →
          x = max (-8388608) (min 8388607 code) → f = max 0 (min 8388607 (x - cal.x)) * cal.y / 8388607 →
          (c.since + 4000 ≤ (s.found us).now → (s.found us).now ≤ c.since + c.limit → 2 * f ≤ 3 * (k.force : Int) →
            ∃ r, r.code = x ∧ r.value = some f ∧ r.kind = .spot ∧ r.flag ≠ some .fault
              ∧ exec (.spotResult us code) s = .next (s.quietly
                { s.found us with
                  meas := { s.core.meas with conv := none, latch := { s.core.meas.latch with f := some r } }
                  motion :=
                    if (k.force : Int) ≤ f ∧ s.core.motion.settle = none then
                      { s.core.motion with settle := some (s.found us).now }
                    else s.core.motion }))
            ∧ ∀ (a : Attempt) (st : Step) (rest : List Step) (ask : SideAsked) (retake : Bool),
              s.core.cap.attempt = some a → a.phase = .preparing → a.prep = .platen → s.core.seq.op = some .attempt →
              s.core.seq.queue = st :: rest → st.work = .capture ask retake →
              (c.since + 4000 ≤ (s.found us).now → (s.found us).now ≤ c.since + c.limit → 3 * (k.force : Int) < 2 * f →
                ∃ t, exec (.spotResult us code) s = .next t
                  ∧ t.core.motion = { s.core.motion with
                      settle := none, forceRaise := true, platen := .moving .raising, platenSince := (s.found us).now }
                  ∧ t.core.faults = [{ kind := .platenForce, detail := .force f, stamp := (s.found us).stamp, count := 1,
                                       acked := false }]
                  ∧ t.core.cap.attempt = none ∧ t.core.cap.ring = s.core.cap.ring
                  ∧ t.core.illum.view.suppressed = false
                  ∧ t.core.seq.queue = rest ∧ t.core.seq.state = .held ∧ t.core.seq.reason = some .stepFailed
                  ∧ t.core.vols = s.core.vols
                  ∧ (s.link.tx ≠ none → s.link.reports.length + 4 ≤ 32 → ∃ w,
                      .stepDone st.id .capture st.origin .failed (some .platen) w (.capture (some (.platenFailed .force)))
                        ∈ t.link.reports))
                ∧ (c.since + c.limit ≤ (s.found us).now →
                  ∃ t, exec (.conversionFault us) s = .next t
                    ∧ t.core.motion = { s.core.motion with
                        settle := none, forceRaise := false, platen := .moving .raising, platenSince := (s.found us).now }
                    ∧ t.core.faults = [{ kind := .meterFault, detail := .channels [.F], stamp := (s.found us).stamp,
                                         count := 1, acked := false }]
                    ∧ t.core.cap.attempt = none ∧ t.core.cap.ring = s.core.cap.ring
                    ∧ t.core.illum.view.suppressed = false
                    ∧ t.core.seq.queue = rest ∧ t.core.seq.state = .held ∧ t.core.seq.reason = some .stepFailed
                    ∧ t.core.vols = s.core.vols
                    ∧ (s.link.tx ≠ none → s.link.reports.length + 4 ≤ 32 → ∃ w,
                        .stepDone st.id .capture st.origin .failed (some .platen) w
                          (.capture (some (.platenFailed .sensor))) ∈ t.link.reports)))

/-- LIFTING: the cup's contact opens the valve and starts the puff of the class, doubled with each retry; the vacuum
AT_LEVEL and the end of the puff, in either order, begin GAUGING; 800 ms with the vacuum BELOW begin the put-down of a
lost leaf; the leaf raised asks for the gauge reading (R102, R103, R104). The curtain is CLEAR and the fault set
empty. -/
def Obligations.LeafIsLifted : Prop :=
  ∀ (us : Nat) (t : Turn) (s : State), s.core.motion.turn = some t → s.core.panel.broken = false → s.core.faults = [] →
    (∀ c, s.core.cls = some c → s.core.motion.arm = .moving .lifting → s.core.motion.stage = .descend →
      exec (.cupContact us) s = .next (s.quietly
        { s.found us with
          motion := { s.core.motion with
            stage := .suck, armSince := (s.found us).now, valveOpen := true
            puff := some { since := (s.found us).now, ms := c.puff * 2 ^ t.retries } } }))
      ∧ (s.core.motion.arm = .moving .lifting → s.core.motion.stage = .suck → s.core.motion.puff = none →
        exec (.vacuumAtLevel us) s = .next (s.quietly
          { s.found us with
            motion := { s.core.motion with
              vacuumAt := true, arm := .moving .gauging, stage := .leafUp, armSince := (s.found us).now } }))
      ∧ (∀ p : Puff, s.core.motion.arm = .moving .lifting → s.core.motion.stage = .suck → s.core.motion.puff = some p →
        exec (.vacuumAtLevel us) s = .next (s.quietly
            { s.found us with motion := { s.core.motion with vacuumAt := true } })
          ∧ (p.since + p.ms * 1000 ≤ (s.found us).now →
            exec (.puffEnd us) s = .next (s.quietly
              { s.found us with
                motion :=
                  if s.core.motion.vacuumAt then
                    { s.core.motion with
                      puff := none, arm := .moving .gauging, stage := .leafUp, armSince := (s.found us).now }
                  else { s.core.motion with puff := none } })))
      ∧ (s.core.motion.arm = .moving .lifting → s.core.motion.stage = .suck → s.core.motion.vacuumAt = false →
        s.core.motion.armSince + 800000 ≤ (s.found us).now → s.core.meas.pending.g = none → s.core.meas.conv = none →
        exec (.vacuumTimeout us) s = .next (s.quietly
          { s.found us with
            motion := { s.core.motion with stage := .putDown .lostLeaf, armSince := (s.found us).now } }))
      ∧ (s.core.motion.arm = .moving .gauging → s.core.motion.stage = .leafUp → s.core.meas.conv = none →
        s.core.meas.pending = ⟨none, none, none, none⟩ →
        exec (.leafRaised us) s = .next (s.quietly
          { s.found us with
            motion := { s.core.motion with stage := .gauge, armSince := (s.found us).now }
            meas := { s.core.meas with
              conv := some { channel := .G, kind := .spot, requesters := [.gauge], since := (s.found us).now,
                             limit := 12000 } } }))

/-- The gauge classes what the cup holds: at the open floor and above NONE, at the single floor and above ONE, which
begins SWEEPING, and below it MANY, which is put down as a double pick (R103, R104). A faulted gauge reading puts down
what the cup holds (R103, R104). -/
def Obligations.GaugeClassesTheLeaf : Prop :=
  (∀ (r : Result) (tg : Int) (c : ClassFields) (s : Core), s.motion.arm = .moving .gauging → s.motion.stage = .gauge →
       s.panel.broken = false → s.faults = [] → s.cls = some c → r.flag ≠ some .fault → r.value = some tg →
       ((c.openFloor : Int) ≤ tg → (s.gaugeResult r).motion.stage = .putDown .lostLeaf
           ∧ (s.gaugeResult r).motion.arm = .moving .gauging)
         ∧ (tg < c.openFloor → (c.singleFloor : Int) ≤ tg →
           (s.gaugeResult r).motion.stage = .sweep ∧ (s.gaugeResult r).motion.arm = .moving .sweeping)
         ∧ (tg < c.openFloor → tg < c.singleFloor → (s.gaugeResult r).motion.stage = .putDown (.doublePick tg.toNat)
           ∧ (s.gaugeResult r).motion.arm = .moving .gauging)
         ∧ (s.gaugeResult r).vols = s.vols ∧ (s.gaugeResult r).seq = s.seq)
    ∧ (∀ (r : Result) (s : Core), s.motion.arm = .moving .gauging → s.motion.stage = .gauge → r.flag = some .fault →
          (s.gaugeResult r).motion.stage = .putDown .gaugeFault ∧ (s.gaugeResult r).motion.arm = .moving .gauging
            ∧ (s.gaugeResult r).vols = s.vols ∧ (s.gaugeResult r).seq = s.seq)

/-- The carry: SWEEPING ends with the valve closed in RELEASING, RELEASING ends, once the vacuum has fallen and not
before, with the cursor and the turns tally one greater and the arm RETURNING, and at PARK an open reference is asked
for (R18, R105, R106). The curtain is CLEAR, the fault set empty and the view light off. The open reference ends the
turn: a result renews C_ref and a fault leaves it, the arm is PARKED, LAST_TURN_ONE tells whether the leaf was laid
and LAST_TURN_DOUBLE whether MANY was met, and the TURN step ends DONE, awaits the operator, or under ABORT is told
nothing. In RUNNING the end of the TURN step starts the next step at once, and a CYCLE acts at position A, which may
begin another turn; with no step behind, in HALTING, in HELD, with the operator awaited or under ABORT nothing else
moves (R106, R111, R141, R143, R145, R148, R151). -/
def Obligations.LeafIsCarriedAndLaid : Prop :=
  (∀ (us : Nat) (t : Turn) (i : Fin 16) (v : Volume) (s : State), s.core.motion.turn = some t →
       s.core.panel.broken = false → s.core.faults = [] →
       (s.core.motion.arm = .moving .sweeping →
         exec (.sweepArrived us) s = .next (s.quietly
           { s.found us with
             motion := { s.core.motion with
               valveOpen := false, arm := .moving .releasing, stage := .release, armSince := (s.found us).now } }))
         ∧ (s.core.motion.arm = .moving .releasing → s.core.motion.vacuumAt = true →
           exec (.releaseDone us) s = .next (s.quietly (s.found us)))
         ∧ (s.core.motion.arm = .moving .releasing → s.core.motion.vacuumAt = false →
           s.core.vols.mounted = some i → s.core.vols.slots[i] = some v →
           s.core.dose.accrual = none → s.core.illum.view.wanted = false → s.core.illum.view.ceiling = false →
           v.tallies.turns < 4294967295 →
           ∃ u, exec (.releaseDone us) s = .next u
             ∧ u.core = { s.found us with
                 vols := { s.core.vols with
                   slots := s.core.vols.slots.set i (some { v with
                     cursor := v.cursor + 1, tallies := { v.tallies with turns := v.tallies.turns + 1 } }) }
                 dose := { s.core.dose with aOpen := s.core.dose.aOpen.map fun _ => 0 }
                 cap := { s.core.cap with litCount := 0 }
                 motion := { s.core.motion with
                   turn := some { t with laid := true }
                   arm := .moving .returning, stage := .travel, armSince := (s.found us).now } }
             ∧ ∀ j : Fin 4, u.counters[j] =
                 if (s.counters[j]).enable && (s.counters[j]).event == .turns then (s.counters[j]).add 1
                 else s.counters[j])
         ∧ (s.core.motion.arm = .moving .returning → s.core.motion.stage = .travel → s.core.motion.homing = none →
           s.core.meas.conv = none → s.core.meas.pending = ⟨none, none, none, none⟩ →
           exec (.armAtPark us) s = .next (s.quietly
             { s.found us with
               motion := { s.core.motion with stage := .reference, armSince := (s.found us).now }
               meas := { s.core.meas with
                 conv := some { channel := .G, kind := .spot, requesters := [.openRef], since := (s.found us).now,
                                limit := 12000 } } })))
    ∧ (∀ (us : Nat) (code : Int) (c : Conversion) (t : Turn) (st : Step) (rest : List Step) (s : State),
          s.core.motion.turn = some t →
          s.core.motion.arm = .moving .returning → s.core.motion.stage = .reference → s.core.faults = [] →
          s.core.meas.conv = some c → c.channel = .G → c.kind = .spot → c.requesters = [.openRef] →
          s.core.meas.pending = ⟨none, none, none, none⟩ →
          (c.since + 4000 ≤ (s.found us).now → (s.found us).now ≤ c.since + c.limit →
            ∃ u r, exec (.spotResult us code) s = .next u
              ∧ r.code = max (-8388608) (min 8388607 code) ∧ r.flag ≠ some .fault
              ∧ u.core.meas.latch = { s.core.meas.latch with g := some r } ∧ u.core.motion.cRef = some r.code
              ∧ (u.core.motion.arm = .parked ∨ u.core.motion.arm = .moving .lifting)
              ∧ u.core.seq.latched.turnOne = t.laid ∧ u.core.seq.latched.turnDouble = t.many
              ∧ (t.aborting = true
                  ∨ (s.core.seq.queue = st :: rest ∧ st.work = .turn
                    ∧ (rest = [] ∨ t.laid = false ∨ s.core.seq.state ≠ .running)) →
                u.core = { s.found us with
                  meas := { s.core.meas with conv := none, latch := { s.core.meas.latch with g := some r } }
                  motion := { s.core.motion with
                    cRef := some r.code, arm := .parked, armSince := (s.found us).now, turn := none }
                  seq := u.core.seq })
              ∧ (t.aborting = false → t.laid = true → s.core.seq.state = .running → s.core.seq.op = some .turn →
                s.core.seq.queue = [st] → st.work = .turn →
                u.core.seq = { s.core.seq.ended false with
                  latched := { s.core.seq.latched with turnOne := true, turnDouble := t.many, skipped := false } })
              ∧ (t.aborting = false → t.laid = true → (s.core.seq.state = .halting ∨ s.core.seq.state = .held) →
                s.core.seq.op = some .turn → s.core.seq.queue = st :: rest → st.work = .turn →
                u.core.seq = { s.core.seq.ended false with
                  queue := rest, state := .held
                  reason := if s.core.seq.state = .halting then some .halt else s.core.seq.reason
                  latched := { s.core.seq.latched with turnOne := true, turnDouble := t.many, skipped := false } })
              ∧ (t.aborting = false → t.laid = false → s.core.seq.op = some .turn → s.core.seq.queue = st :: rest →
                st.work = .turn → s.core.seq.pause = none →
                u.core.seq = { s.core.seq with
                  op := none, awaiting := some (if t.vacLost then .vacuumLost else .turnFailed), state := .held
                  reason := if s.core.seq.state = .held ∧ s.core.seq.reason = some .fault then some .fault else some .assist
                  latched := { s.core.seq.latched with turnOne := false, turnDouble := t.many } })
              ∧ (t.aborting = true →
                u.core.seq = { s.core.seq with
                  latched := { s.core.seq.latched with turnOne := t.laid, turnDouble := t.many } }))
            ∧ (c.since + c.limit ≤ (s.found us).now →
              ∃ u, exec (.conversionFault us) s = .next u
                ∧ u.core.motion = { s.core.motion with
                    arm := .parked, armSince := (s.found us).now, turn := none }
                ∧ u.core.faults = [{ kind := .meterFault, detail := .channels [.G], stamp := (s.found us).stamp, count := 1,
                                     acked := false }]
                ∧ u.core.seq.latched.turnOne = t.laid ∧ u.core.seq.latched.turnDouble = t.many
                ∧ u.core.seq.state = .held ∧ u.core.vols = s.core.vols
                ∧ (t.aborting = false → t.laid = true → s.core.seq.op = some .turn → s.core.seq.queue = [st] →
                  st.work = .turn → u.core.seq.queue = [] ∧ u.core.seq.reason = some .fault)))

/-- The end of a put-down: after a lost leaf NO_PICK is appended with the attempt number; after MANY DOUBLE_PICK with
T_g, MANY is marked met and one double pick is tallied and counted; after a gauge fault nothing is appended. Each
counts one retry. With retries left the next attempt starts; with none left TURN_FAILED is appended with the retries
that the turn used, its ASSIST report and the hold of ASSIST are made, and the arm RETURNS. Under ABORT a put-down
ends with the arm RETURNING (R21, R104, R111, R149, R179). The valve is closed. That the double pick is tallied here,
and not at the gauge's class, is notes 20. -/
def Obligations.PutDownEndsTheAttempt : Prop :=
  ∀ (us : Nat) (m : ArmMove) (t : Turn) (i : Fin 16) (v : Volume) (c : ClassFields) (s : State),
    s.core.motion.turn = some t → s.core.motion.arm = .moving m → (m = .lifting ∨ m = .gauging) →
    s.core.panel.broken = false → s.core.faults = [] →
    (s.core.motion.stage = .putDown .aborted →
      exec (.putDownDone us) s = .next (s.quietly
        { s.found us with
          motion := { s.core.motion with
            valveOpen := false, arm := .moving .returning, stage := .travel, armSince := (s.found us).now } }))
      ∧ (∀ (why : PutDown) (es : List ExceptionEntry) (many double : Bool) (picks : Nat), s.core.motion.stage = .putDown why →
        t.aborting = false → s.core.vols.mounted = some i → s.core.vols.slots[i] = some v →
        s.core.vols.classes[v.cls] = some c →
        ((why = .lostLeaf ∧ double = false ∧ t.attempt ≤ 4294967295 ∧ many = t.many ∧ picks = v.tallies.doublePicks
            ∧ es = [{ kind := .noPick, opening := t.opening, detail := t.attempt, seq := none
                      stamp := (s.found us).stamp }])
          ∨ (∃ tg, why = .doublePick tg ∧ double = true ∧ tg ≤ 4294967295 ∧ many = true ∧ v.tallies.doublePicks < 4294967295
            ∧ picks = v.tallies.doublePicks + 1
            ∧ es = [{ kind := .doublePick, opening := t.opening, detail := tg, seq := none
                      stamp := (s.found us).stamp }])
          ∨ (why = .gaugeFault ∧ double = false ∧ many = t.many ∧ picks = v.tallies.doublePicks ∧ es = [])) →
        (t.retries + 1 ≤ c.retryLimit → es.length ≤ s.core.freeExceptions →
            ∃ u, exec (.putDownDone us) s = .next u
              ∧ u.core = { s.found us with
                  vols := { s.core.vols with
                    slots := s.core.vols.slots.set i (some { v with
                      tallies := { v.tallies with doublePicks := picks }, exceptions := v.exceptions ++ es }) }
                  motion := { s.core.motion with
                    turn := some { t with retries := t.retries + 1, attempt := t.attempt + 1, many := many }
                    valveOpen := false, arm := .moving .lifting, stage := .descend, armSince := (s.found us).now } }
              ∧ ∀ j : Fin 4, u.counters[j] =
                  if (s.counters[j]).enable && ((s.counters[j]).event == .turnRetries
                      || ((s.counters[j]).event == .doublePicks && double)) then
                    (s.counters[j]).add 1
                  else s.counters[j])
          ∧ (c.retryLimit < t.retries + 1 → es.length + 1 ≤ s.core.freeExceptions → t.retries ≤ 4294967295 →
            s.core.seq.pause = none →
            ∃ u, exec (.putDownDone us) s = .next u
              ∧ u.core = { s.found us with
                  vols := { s.core.vols with
                    slots := s.core.vols.slots.set i (some { v with
                      tallies := { v.tallies with doublePicks := picks }
                      exceptions := v.exceptions ++ es ++
                        [{ kind := .turnFailed, opening := t.opening, detail := t.retries, seq := none
                           stamp := (s.found us).stamp }] }) }
                  motion := { s.core.motion with
                    turn := some { t with retries := t.retries + 1, many := many, failed := true }
                    valveOpen := false, arm := .moving .returning, stage := .travel, armSince := (s.found us).now }
                  seq := { s.core.seq with state := .held, reason := some .assist } }
              ∧ (∀ j : Fin 4, u.counters[j] =
                  if (s.counters[j]).enable && ((s.counters[j]).event == .turnRetries
                      || ((s.counters[j]).event == .doublePicks && double)) then
                    (s.counters[j]).add 1
                  else s.counters[j])
              ∧ (s.link.tx ≠ none → s.link.reports.length + 2 ≤ 32 → t.failed = false → s.core.seq.awaiting = none →
                .assist .turnFailed (s.found us).stamp (s.core.seq.queue.head?.map (·.id)) (some (i.val, v.cursor))
                  (some t.opening) ∈ u.link.reports)))

/-- A vacuum that falls BELOW in SWEEPING stops the arm where it stands with cause VACUUM_LOST, closes the valve,
appends a VACUUM_LOST exception with detail 1 and raises VACUUM_LOST; in LIFTING with the vacuum once AT_LEVEL it
begins the put-down of a lost leaf (R102, R107). The turn's loss is new, and the fault set is empty. -/
def Obligations.VacuumLossStopsTheCarry : Prop :=
  ∀ (us : Nat) (t : Turn) (i : Fin 16) (v : Volume) (s : State),
    s.core.motion.turn = some t → s.core.faults = [] → t.aborting = false →
    (s.core.motion.arm = .moving .sweeping → s.core.vols.mounted = some i → s.core.vols.slots[i] = some v →
      0 < s.core.freeExceptions →
      ∃ u, exec (.vacuumBelow us) s = .next u
        ∧ u.core.motion = { s.core.motion with
            vacuumAt := false, valveOpen := false, arm := .stopped .sweeping .vacuumLost, stage := .sweep
            armSince := (s.found us).now, turn := some { t with vacLost := true } }
        ∧ u.core.vols = { s.core.vols with
            slots := s.core.vols.slots.set i (some { v with
              exceptions := v.exceptions ++
                [{ kind := .vacuumLost, opening := t.opening, detail := 1, seq := none,
                   stamp := (s.found us).stamp }] }) }
        ∧ u.core.faults = [{ kind := .vacuumLost, detail := .vacuum 1, stamp := (s.found us).stamp, count := 1,
                             acked := false }]
        ∧ u.core.seq.state = .held ∧ u.core.seq.reason = some .fault)
      ∧ (s.core.motion.arm = .moving .lifting → s.core.motion.stage = .suck → s.core.motion.vacuumAt = true →
        s.core.meas.pending.g = none → s.core.meas.conv = none →
        exec (.vacuumBelow us) s = .next (s.quietly
          { s.found us with
            motion := { s.core.motion with
              vacuumAt := false, stage := .putDown .lostLeaf, armSince := (s.found us).now } }))

/-- A limit of the arm that passes puts the arm in FAULT, ends the turn, raises ARM_TIMEOUT with the arm's phase as
its detail and takes the head TURN step, whose turn it was, from the queue. The limits: 1,500 ms of the cup's way
down, 1,000 ms of the raise, 1,000 ms of a put-down in LIFTING or GAUGING, 3,000 ms of SWEEPING, 500 ms of RELEASING
and 3,000 ms of the way to PARK (R106, R108, R143). -/
def Obligations.ArmLimitEndsTheTurn : Prop :=
  ∀ (us ms : Nat) (t : Turn) (m : ArmMove) (stage : ArmStage) (st : Step) (rest : List Step) (s : State),
    (m = .lifting ∧ stage = .descend ∧ ms = 1500) ∨ (m = .gauging ∧ stage = .leafUp ∧ ms = 1000)
      ∨ ((m = .lifting ∨ m = .gauging) ∧ (∃ why, stage = .putDown why) ∧ ms = 1000)
      ∨ (m = .sweeping ∧ stage = .sweep ∧ ms = 3000) ∨ (m = .releasing ∧ stage = .release ∧ ms = 500)
      ∨ (m = .returning ∧ stage = .travel ∧ ms = 3000) →
    s.core.motion.turn = some t → t.aborting = false → s.core.motion.arm = .moving m → s.core.motion.stage = stage →
    s.core.motion.homing = none → s.core.motion.armSince + ms * 1000 ≤ (s.found us).now → s.core.faults = [] →
    s.core.seq.op = some .turn → s.core.seq.queue = st :: rest → st.work = .turn →
    ∃ u, exec (.armLimitExpiry us) s = .next u
      ∧ u.core.motion = { s.core.motion with
          turn := none, arm := .fault, armSince := (s.found us).now }
      ∧ u.core.faults = [{ kind := .armTimeout, detail := .arm m, stamp := (s.found us).stamp, count := 1,
                           acked := false }]
      ∧ u.core.seq.queue = rest ∧ u.core.seq.state = .held ∧ u.core.vols = s.core.vols

/-! ### Capture -/

/-- CAPTURE_DRAIN of n, 1 to 8, answers with the oldest n records and removes them, with no attempt and no mark in
hand or with an attempt in hand that does not wait in RING_WAIT; n outside 1 to 8 is BAD_FIELD 1 (R128). FRAMES_SET
sets the frame timeout, clamped to 1,000 to 30,000 ms (R131). When a removal leaves room, an attempt in RING_WAIT
takes its reservation behind the reply: opening and side afresh from the cursor, the view light suppressed, and
LOWERING begun with its first force sample, or the platen held back while the interlock mark is set. A mark in
RING_WAIT is written with the next sequence number, and its MARK step ends DONE (R97, R98, R116 to R118, R120, R126,
R148). -/
def Obligations.RingIsDrained : Prop :=
  (∀ (q : Req) (n : Nat) (s : State), Taken q s →
       (1 ≤ n → n ≤ 8 → (∀ a, s.core.cap.attempt = some a → a.phase ≠ .ringWait) →
         (s.core.cap.attempt = none → s.core.cap.mark = none) →
         exec (.captureDrain q n) s = .next (s.answered q 0x38 .done (.records (s.core.cap.ring.take n))
           { s.found q.us with cap := { s.core.cap with ring := s.core.cap.ring.drop n } }))
         ∧ ((n = 0 ∨ 8 < n) →
           exec (.captureDrain q n) s = .next (s.answered q 0x38 (.badField 1) .empty (s.found q.us)))
         ∧ exec (.framesSet q n) s = .next
             (s.answered q 0x3A (if 1000 ≤ n ∧ n ≤ 30000 then .done else .doneClamped 1#16)
               (.frames (max 1000 (min 30000 n)))
               { s.found q.us with cap := { s.core.cap with frameTimeout := max 1000 (min 30000 n) } }))
    ∧ (∀ (q : Req) (n : Nat) (s : State), Taken q s → 1 ≤ n → n ≤ 8 → (s.core.cap.ring.drop n).length < 64 →
          (∀ (a : Attempt) (i : Fin 16) (v : Volume), s.core.cap.attempt = some a → a.phase = .ringWait →
            s.core.vols.mounted = some i → s.core.vols.slots[i] = some v → s.core.illum.view.wanted = false →
            (a.interlock = true →
                exec (.captureDrain q n) s = .next (s.answered q 0x38 .done (.records (s.core.cap.ring.take n))
                  { s.found q.us with
                    cap := { s.core.cap with
                      ring := s.core.cap.ring.drop n
                      attempt := some { a with
                        opening := v.cursor, side := a.ask.resolved v.cursor v.leaves, phase := .preparing
                        prep := .heldBack } }
                    illum := { s.core.illum with view := { s.core.illum.view with suppressed := true } } }))
              ∧ (a.interlock = false → s.core.CradleReady → s.core.ConverterFree → s.core.faults = [] →
                exec (.captureDrain q n) s = .next (s.answered q 0x38 .done (.records (s.core.cap.ring.take n))
                  { (s.found q.us).lowered with
                    cap := { s.core.cap with
                      ring := s.core.cap.ring.drop n
                      attempt := some { a with
                        opening := v.cursor, side := a.ask.resolved v.cursor v.leaves, phase := .preparing
                        prep := .platen } } })))
            ∧ ∀ (note asked : Nat) (st : Step) (place : Option (Nat × Nat)), s.core.cap.attempt = none →
              s.core.cap.mark = some note → s.core.seq.state = .running → s.core.seq.op = some .mark →
              s.core.seq.queue = [st] → st.work = .mark asked →
              ((s.core.vols.mounted = none ∧ place = none)
                ∨ ∃ (i : Fin 16) (v : Volume), s.core.vols.mounted = some i ∧ s.core.vols.slots[i] = some v
                  ∧ place = some (i.val, v.cursor)) →
              ∃ t, exec (.captureDrain q n) s = .next t ∧ Replied q 0x38 .done (.records (s.core.cap.ring.take n)) s t
                ∧ t.core = { s.found q.us with
                    cap := { s.core.cap with
                      ring := s.core.cap.ring.drop n ++
                        [.mark { seq := s.core.cap.nextSeq, stamp := (s.found q.us).stamp, place := place, note := note }]
                      mark := none, nextSeq := s.core.cap.nextSeq + 1 }
                    seq := s.core.seq.ended false })

/-- CAPTURE_PEEK takes a count n and returns the oldest records, and their number, without removing them; n outside 1
to 8 is BAD_FIELD. Ring, reservation and waiting attempt stay, in every state of the station, and CAPTURE_DRAIN puts
the same records into its reply (R129). -/
def Obligations.PeekLeavesTheRing : Prop :=
  ∀ (q : Req) (n : Nat) (s : State), Taken q s →
    ((n < 1 ∨ 8 < n) →
      ∃ m, exec (.capturePeek q n) s = .next (s.answered q 0x39 (.badField m) .empty (s.found q.us)))
      ∧ (1 ≤ n → n ≤ 8 →
        exec (.capturePeek q n) s = .next
          (s.answered q 0x39 .done (.records (s.core.cap.ring.take n)) (s.found q.us))
          ∧ (Body.records (s.core.cap.ring.take n)).bytes =
              BitVec.ofNat 8 (min n s.core.cap.ring.length) :: (s.core.cap.ring.take n).flatMap Record.bytes
          ∧ (s.core.cap.attempt = none → s.core.cap.mark = none →
            exec (.captureDrain q n) s = .next (s.answered q 0x38 .done (.records (s.core.cap.ring.take n))
              { s.found q.us with cap := { s.core.cap with ring := s.core.cap.ring.drop n } })))

/-- A camera, V or R, whose lines change outside an attempt takes the new levels; in a lit attempt a camera TRIGGERED
is FAILED when FAULT is high, and otherwise TAKEN when READY, once seen low, is high (R115, R123). The fault set is
empty. The line of either camera that judges the last needed camera of an attempt in COLLECTING ends it OK: its
CAPTURE record is written, the opening joins the captured set or counts as a retake, and the CAPTURE step ends DONE
(R20, R21, R123 to R125, R142, R148). -/
def Obligations.CameraLinesAreWatched : Prop :=
  (∀ (us : Nat) (k : Camera) (ready fault : Bool) (s : State), s.core.faults = [] →
       (s.core.cap.attempt = none →
         exec (.cameraLineChange us k ready fault) s = .next (s.quietly
           { s.found us with
             cap := s.core.cap.setCam k { s.core.cap.cam k with ready := ready, fault := fault } }))
         ∧ (∀ a : Attempt, s.core.cap.attempt = some a → a.phase = .lit → a.aborting = false →
           (s.core.cap.cam k).frame = .triggered →
           exec (.cameraLineChange us k ready fault) s = .next (s.quietly
             { s.found us with
               cap := s.core.cap.setCam k { s.core.cap.cam k with
                 ready := ready, fault := fault
                 sawLow :=
                   if fault || (((s.core.cap.cam k).sawLow || !ready) && ready) then (s.core.cap.cam k).sawLow
                   else (s.core.cap.cam k).sawLow || !ready
                 frame :=
                   if fault then .failed .fault
                   else if ((s.core.cap.cam k).sawLow || !ready) && ready then .taken else .triggered } })))
    ∧ (∀ (us : Nat) (k : Camera) (a : Attempt) (dose : DoseRecord) (i : Fin 16) (v : Volume) (st : Step) (ask : SideAsked) (retake : Bool)
          (s : State), s.core.faults = [] →
          s.core.cap.attempt = some a → a.phase = .collecting → a.dose = some dose → a.aborting = false → a.side = .both →
          (∀ j : Camera, (s.core.cap.cam j).frame = if j = k then .triggered else .taken) → (s.core.cap.cam k).sawLow = true →
          s.core.vols.mounted = some i → s.core.vols.slots[i] = some v →
          s.core.seq.state = .running → s.core.seq.op = some .attempt → s.core.seq.queue = [st] → st.work = .capture ask retake →
          ∃ t v', exec (.cameraLineChange us k true false) s = .next t
            ∧ t.core.cap.ring = s.core.cap.ring ++
                [.capture { seq := a.seq, stamp := a.litStamp, slot := i.val, inst := v.inst, opening := a.opening,
                            left := some (leftLabel v.segs a.opening), right := some (rightLabel v.segs a.opening),
                            gapBefore := gapBefore v.segs a.opening, side := .both, number := a.number, outcome := .ok,
                            dose := dose }]
            ∧ t.core.cap.attempt = none ∧ t.core.cap.camV.frame = .notNeeded ∧ t.core.cap.camR.frame = .notNeeded
            ∧ t.core.vols.slots[i] = some v' ∧ v'.cursor = v.cursor ∧ v'.uF = v.uF
            ∧ (∀ o, o ∈ v'.captured ↔ o = a.opening ∨ o ∈ v.captured)
            ∧ (a.opening ∈ v.captured →
              v'.tallies = { v.tallies with retakes := min 4294967295 (v.tallies.retakes + 1) })
            ∧ (a.opening ∉ v.captured →
              v'.tallies = { v.tallies with captured := min 4294967295 (v.tallies.captured + 1) })
            ∧ t.core.seq.queue = [] ∧ t.core.seq.state = .idle ∧ t.core.seq.latched.captureOk = true
            ∧ t.core.seq.latched.captureDimmed = dose.dimmed ∧ t.core.motion = s.core.motion)

/-- 2,000 ms of camera wait end the attempt CAMERA_NOT_READY: the view light's suppression is lifted, no record is
written, and the CAPTURE step that asked fails and holds the queue (R119, R124, R142). At the frame timeout a camera
still TRIGGERED FAILS with cause TIMEOUT and CAMERA_TIMEOUT is raised for it (R123). With the dose record in hand and
the other camera TAKEN, the frame timeout ends the attempt: the record carries VERSO_FAILED or RECTO_FAILED,
CAPTURE_FAILED is appended, CAMERA_TIMEOUT stands in the fault set, and the CAPTURE step fails (R20, R123 to R125,
R142). -/
def Obligations.CamerasTimeOut : Prop :=
  (∀ (us t0 : Nat) (a : Attempt) (s : State), s.core.cap.attempt = some a → s.core.faults = [] →
       (∀ (st : Step) (rest : List Step) (ask : SideAsked) (retake : Bool), a.phase = .preparing → a.prep = .cameras t0 →
         t0 + 2000000 ≤ (s.found us).now → s.core.seq.op = some .attempt → s.core.seq.queue = st :: rest →
         st.work = .capture ask retake →
         ∃ t, exec (.cameraWaitExpiry us) s = .next t
           ∧ t.core.cap.attempt = none ∧ t.core.cap.ring = s.core.cap.ring ∧ t.core.illum.view.suppressed = false
           ∧ t.core.cap.camV.frame = .notNeeded ∧ t.core.cap.camR.frame = .notNeeded
           ∧ t.core.seq.queue = rest ∧ t.core.seq.state = .held ∧ t.core.seq.reason = some .stepFailed
           ∧ t.core.vols = s.core.vols ∧ t.core.motion = s.core.motion)
         ∧ (a.phase = .collecting → a.dose = none → a.frameSince = some t0 →
           t0 + a.frameLimit * 1000 ≤ (s.found us).now → s.core.cap.camV.frame = .triggered →
           s.core.cap.camR.frame ≠ .triggered →
           ∃ t, exec (.frameTimeout us) s = .next t
             ∧ t.core.cap = { s.core.cap with
                 attempt := some { a with frameSince := none }
                 camV := { s.core.cap.camV with frame := .failed .timeout } }
             ∧ t.core.faults = [{ kind := .cameraTimeout, detail := .cameras [.V], stamp := (s.found us).stamp, count := 1,
                                  acked := false }]
             ∧ t.core.seq.state = .held ∧ t.core.seq.reason = some .fault ∧ t.core.vols = s.core.vols))
    ∧ (∀ (us t0 : Nat) (k : Camera) (a : Attempt) (dose : DoseRecord) (i : Fin 16) (v : Volume) (st : Step)
          (rest : List Step) (ask : SideAsked) (retake : Bool) (s : State), s.core.faults = [] →
          s.core.cap.attempt = some a → a.phase = .collecting → a.dose = some dose → a.aborting = false → a.side = .both →
          a.frameSince = some t0 → t0 + a.frameLimit * 1000 ≤ (s.found us).now →
          (∀ j : Camera, (s.core.cap.cam j).frame = if j = k then .triggered else .taken) →
          s.core.vols.mounted = some i → s.core.vols.slots[i] = some v → 0 < s.core.freeExceptions →
          s.core.seq.op = some .attempt → s.core.seq.queue = st :: rest → st.work = .capture ask retake →
          ∃ t, exec (.frameTimeout us) s = .next t
            ∧ t.core.cap.ring = s.core.cap.ring ++
                [.capture { seq := a.seq, stamp := a.litStamp, slot := i.val, inst := v.inst, opening := a.opening,
                            left := some (leftLabel v.segs a.opening), right := some (rightLabel v.segs a.opening),
                            gapBefore := gapBefore v.segs a.opening, side := .both, number := a.number,
                            outcome := if k = .V then .versoFailed else .rectoFailed, dose := dose }]
            ∧ t.core.cap.attempt = none
            ∧ t.core.vols = { s.core.vols with
                slots := s.core.vols.slots.set i (some { v with
                  exceptions := v.exceptions ++
                    [{ kind := .captureFailed, opening := a.opening, detail := if k = .V then 1 else 2, seq := some a.seq,
                       stamp := (s.found us).stamp }] }) }
            ∧ t.core.faults = [{ kind := .cameraTimeout, detail := .cameras [k], stamp := (s.found us).stamp, count := 1,
                                 acked := false }]
            ∧ t.core.seq.queue = rest ∧ t.core.seq.state = .held ∧ t.core.seq.reason = some .stepFailed
            ∧ t.core.seq.latched.captureOk = false ∧ t.core.seq.latched.captureDimmed = dose.dimmed)

/-! ### Steps and faults -/

/-- STEP_QUEUE: a kind outside the six is BAD_FIELD 1; a queue of 16 answers FULL and appends nothing; while the
sequencer is HELD a step is appended at the tail with the next id and nothing starts; in IDLE a PAUSE is started at
once, its time clamped to 10 to 600,000 ms (R135, R136, R141, R144). The field numbers of the step's parameters are
the model's (notes 12). STOP_SET is refused NOT_FOUND when no queued step has the id and STATE when the step is no
CYCLE, and otherwise replaces the stop, clamped to the mounted volume's L, or to 4,096 with none mounted (R147).
STEP_FLUSH keeps a started head and removes every other step, in one reply with their number (R154). STOP_SET with a
volume mounted clamps to that volume's L. -/
def Obligations.StepsAreQueuedAndEdited : Prop :=
  ((∀ (q : Req) (s : State), Taken q s →
          (∀ (code : Nat) (g : Option GuardSpec),
              exec (.stepQueue q (.unknown code) g) s =
                .next (s.answered q 0x40 (.badField 1) .empty (s.found q.us)))
            ∧ (∀ (w : StepSpec) (g : Option GuardSpec) (work : StepWork) (gate : Option Guard) (m : Mask),
              stepGuard g = .ok gate → stepWork w = .ok (work, m) →
              (16 ≤ s.core.seq.queue.length →
                  exec (.stepQueue q w g) s = .next (s.answered q 0x40 .full .empty (s.found q.us)))
                ∧ (s.core.seq.queue.length < 16 → s.core.seq.state = .held →
                  exec (.stepQueue q w g) s = .next
                    (s.answered q 0x40 (.queued s.core.seq.nextId) (.stepClamps m)
                      { s.found q.us with
                        seq := { s.core.seq with
                          queue := s.core.seq.queue ++
                            [{ id := s.core.seq.nextId, origin := .link, work := work, gate := gate }]
                          nextId := if s.core.seq.nextId < 65535 then s.core.seq.nextId + 1 else 1 } })))
            ∧ (∀ ms : Nat, s.core.seq.state = .idle → s.core.seq.queue = [] → s.core.seq.started = false →
              exec (.stepQueue q (.pause ms) none) s = .next
                (s.answered q 0x40 (.queued s.core.seq.nextId)
                  (.stepClamps (if 10 ≤ ms ∧ ms ≤ 600000 then 0#16 else 16#16))
                  { s.found q.us with
                    seq := { s.core.seq with
                      queue := [{ id := s.core.seq.nextId, origin := .link, work := .pause (max 10 (min 600000 ms)),
                                  gate := none }]
                      nextId := if s.core.seq.nextId < 65535 then s.core.seq.nextId + 1 else 1
                      state := .running, reason := none, started := true
                      pause := some { left := max 10 (min 600000 ms) * 1000, since := some (s.found q.us).now } } })))
       ∧ (∀ (q : Req) (id stop old retakes : Nat) (head st : Step) (rest before after : List Step) (s : State), Taken q s →
             ((∀ x ∈ s.core.seq.queue, x.id ≠ id) →
                 exec (.stopSet q id stop) s = .next (s.answered q 0x41 .notFound .empty (s.found q.us)))
               ∧ (s.core.seq.queue = before ++ st :: after → (∀ x ∈ before ++ after, x.id ≠ id) → st.id = id →
                 st.work.kind ≠ .cycle →
                 exec (.stopSet q id stop) s = .next (s.answered q 0x41 (.refused .state) .empty (s.found q.us)))
               ∧ (s.core.seq.queue = before ++ st :: after → (∀ x ∈ before ++ after, x.id ≠ id) → st.id = id →
                 st.work = .cycle old retakes → s.core.vols.mounted = none →
                 exec (.stopSet q id stop) s = .next
                   (s.answered q 0x41 (if stop ≤ 4096 then .done else .doneClamped 2#16) .empty
                     { s.found q.us with
                       seq := { s.core.seq with
                         queue := before ++ { st with work := .cycle (min stop 4096) retakes } :: after } }))
               ∧ (s.core.seq.queue = head :: rest →
                 ∃ t, exec (.stepFlush q) s = .next t
                   ∧ t.core = { s.found q.us with
                       seq := { s.core.seq with queue := if s.core.seq.started then [head] else [] } }
                   ∧ Replied q 0x45 .done (.flushed (if s.core.seq.started then rest.length else rest.length + 1)) s t)))
    ∧ (∀ (q : Req) (id stop old retakes : Nat) (st : Step) (before after : List Step) (i : Fin 16) (v : Volume) (s : State),
          Taken q s → s.core.seq.queue = before ++ st :: after → (∀ x ∈ before ++ after, x.id ≠ id) → st.id = id →
          st.work = .cycle old retakes → s.core.vols.mounted = some i → s.core.vols.slots[i] = some v →
          exec (.stopSet q id stop) s = .next
            (s.answered q 0x41 (if stop ≤ v.leaves then .done else .doneClamped 0x0002#16) .empty
              { s.found q.us with
                seq := { s.core.seq with
                  queue := before ++ { st with work := .cycle (min stop v.leaves) retakes } :: after } }))

/-- A step queued in IDLE on an empty queue is started at once. A guard whose condition does not have the required
value ends it SKIPPED with reason GUARD; a CAPTURE of mode NEW of a captured opening ends SKIPPED with
ALREADY_CAPTURED; a CAPTURE, TURN or CYCLE finds the sequencer HELD, and is not started, while a fault stands, with
fewer than 5 free exception entries or with the curtain BROKEN, in that order. Otherwise a TURN sends the cup down, a
CAPTURE takes an attempt that begins to lower the platen or waits in RING_WAIT, a LIGHT sets its fields, clamped, and
ends DONE, and a MARK is written, or waits while the ring holds 64 (R70, R101, R116 to R118, R126, R136, R141 to R144,
R148). The numbers of a LIGHT's fields are the model's (notes 12). -/
def Obligations.StepsStart : Prop :=
  ∀ (q : Req) (g : Option GuardSpec) (gate : Option Guard) (s : State), Taken q s → stepGuard g = .ok gate →
    s.core.seq.state = .idle → s.core.seq.queue = [] → s.core.seq.started = false → s.core.seq.pause = none →
    (∀ (w : StepSpec) (work : StepWork) (m : Mask) (c : Guard), stepWork w = .ok (work, m) → gate = some c →
        s.core.word.get c.cond ≠ c.want →
        ∃ t, exec (.stepQueue q w g) s = .next t
          ∧ Replied q 0x40 (.queued s.core.seq.nextId) (.stepClamps m) s t
          ∧ t.core = { s.found q.us with
              seq := { s.core.seq.ended true with nextId := stepIdAfter s.core.seq.nextId } }
          ∧ (s.link.tx ≠ none → s.link.reports.length < 32 → ∃ x e,
              .stepDone s.core.seq.nextId work.kind .link .skipped (some .guard) x e ∈ t.link.reports))
      ∧ ((∀ c : Guard, gate = some c → s.core.word.get c.cond = c.want) →
        (∀ (w : StepSpec) (ask : SideAsked) (m : Mask), stepWork w = .ok (.capture ask false, m) →
            s.core.openingCaptured = true →
            ∃ t, exec (.stepQueue q w g) s = .next t
              ∧ Replied q 0x40 (.queued s.core.seq.nextId) (.stepClamps m) s t
              ∧ t.core = { s.found q.us with
                  seq := { s.core.seq.ended true with nextId := stepIdAfter s.core.seq.nextId } }
              ∧ (s.link.tx ≠ none → s.link.reports.length < 32 → ∃ x e,
                  .stepDone s.core.seq.nextId .capture .link .skipped (some .alreadyCaptured) x e ∈ t.link.reports))
          ∧ (∀ (w : StepSpec) (work : StepWork) (m : Mask) (why : HoldReason), stepWork w = .ok (work, m) →
            (work.kind = .capture ∨ work.kind = .turn ∨ work.kind = .cycle) →
            (∀ ask, work = .capture ask false → s.core.openingCaptured = false) →
            ((s.core.faults ≠ [] ∧ why = .fault)
              ∨ (s.core.faults = [] ∧ s.core.freeExceptions < 5 ∧ why = .exceptionsFull)
              ∨ (s.core.faults = [] ∧ 5 ≤ s.core.freeExceptions ∧ s.core.panel.broken = true ∧ why = .interlock)) →
            ∃ t, exec (.stepQueue q w g) s = .next t
              ∧ Replied q 0x40 (.queued s.core.seq.nextId) (.stepClamps m) s t
              ∧ t.core = { s.found q.us with
                  seq := { s.core.seq.begun work gate with
                    started := false, state := .held, reason := some why
                    interlock := if why = .interlock then true else s.core.seq.interlock } })
          ∧ (∀ (i : Fin 16) (v : Volume), s.core.faults = [] → 5 ≤ s.core.freeExceptions → s.core.CradleReady →
            s.core.vols.mounted = some i → s.core.vols.slots[i] = some v →
            (s.core.motion.turn = none → s.core.motion.turnWait = none → s.core.motion.cRef ≠ none →
                v.cursor < v.leaves → isFoldout v.segs (v.cursor + 1) = false →
                exec (.stepQueue q .turn g) s = .next (s.answered q 0x40 (.queued s.core.seq.nextId) (.stepClamps 0)
                  { s.found q.us with
                    motion := { s.core.motion with
                      turn := some (Turn.first v.cursor), turnWait := none, arm := .moving .lifting, stage := .descend
                      armSince := (s.found q.us).now }
                    seq := { s.core.seq.begun .turn gate with op := some .turn } }))
              ∧ ∀ (w : StepSpec) (ask : SideAsked) (retake : Bool) (m : Mask) (a : Attempt),
                stepWork w = .ok (.capture ask retake, m) →
                (retake = false → s.core.openingCaptured = false) → s.core.cap.attempt = none →
                s.core.cap.mark = none → s.core.illum.view.wanted = false →
                a = { ask := ask, opening := v.cursor, side := ask.resolved v.cursor v.leaves, phase := .ringWait
                      prep := .platen, interlock := false, seq := 0, litStamp := 0, number := 0, qPlan := 0
                      dose := none, frameSince := none, frameLimit := 0, aborting := false } →
                (64 ≤ s.core.cap.ring.length →
                    exec (.stepQueue q w g) s = .next (s.answered q 0x40 (.queued s.core.seq.nextId) (.stepClamps m)
                      { s.found q.us with
                        cap := { s.core.cap with attempt := some a }
                        seq := { s.core.seq.begun (.capture ask retake) gate with op := some .attempt } }))
                  ∧ (s.core.cap.ring.length < 64 → s.core.ConverterFree →
                    exec (.stepQueue q w g) s = .next (s.answered q 0x40 (.queued s.core.seq.nextId) (.stepClamps m)
                      { (s.found q.us).lowered with
                        cap := { s.core.cap with attempt := some { a with phase := .preparing } }
                        seq := { s.core.seq.begun (.capture ask retake) gate with op := some .attempt } })))
          ∧ (∀ (m : Mask) (x : Setting), (m >>> 4) &&& 0x7F#16 ≠ 0#16 → m &&& 0xF800#16 = 0#16 →
            s.core.dose.accrual = none →
            ∃ t, exec (.stepQueue q (.light m x) g) s = .next t
              ∧ Replied q 0x40 (.queued s.core.seq.nextId) (.stepClamps 0) s t
              ∧ t.core = { s.found q.us with
                  illum := { s.core.illum with
                    staged :=
                      { cVU := if m.getLsbD 4 then min x.cVU 4095 else s.core.illum.staged.cVU
                        cVL := if m.getLsbD 5 then min x.cVL 4095 else s.core.illum.staged.cVL
                        cRU := if m.getLsbD 6 then min x.cRU 4095 else s.core.illum.staged.cRU
                        cRL := if m.getLsbD 7 then min x.cRL 4095 else s.core.illum.staged.cRL
                        d := if m.getLsbD 8 then max 200 (min 500000 x.d) else s.core.illum.staged.d
                        eFloor := if m.getLsbD 9 then min x.eFloor 200000 else s.core.illum.staged.eFloor
                        cV := if m.getLsbD 10 then min x.cV 4095 else s.core.illum.staged.cV } }
                  seq := { s.core.seq.ended false with nextId := stepIdAfter s.core.seq.nextId } })
          ∧ ∀ (note : Nat) (place : Option (Nat × Nat)), s.core.cap.attempt = none → s.core.cap.mark = none →
            ((s.core.vols.mounted = none ∧ place = none)
              ∨ ∃ (i : Fin 16) (v : Volume), s.core.vols.mounted = some i ∧ s.core.vols.slots[i] = some v
                ∧ place = some (i.val, v.cursor)) →
            (64 ≤ s.core.cap.ring.length →
                exec (.stepQueue q (.mark note) g) s = .next
                  (s.answered q 0x40 (.queued s.core.seq.nextId) (.stepClamps 0)
                    { s.found q.us with
                      cap := { s.core.cap with mark := some note }
                      seq := { s.core.seq.begun (.mark note) gate with op := some .mark } }))
              ∧ (s.core.cap.ring.length < 64 →
                ∃ t, exec (.stepQueue q (.mark note) g) s = .next t
                  ∧ Replied q 0x40 (.queued s.core.seq.nextId) (.stepClamps 0) s t
                  ∧ t.core = { s.found q.us with
                      cap := { s.core.cap with
                        ring := s.core.cap.ring ++
                          [.mark { seq := s.core.cap.nextSeq, stamp := (s.found q.us).stamp, place := place
                                   note := note }]
                        nextSeq := s.core.cap.nextSeq + 1 }
                      seq := { s.core.seq.ended false with nextId := stepIdAfter s.core.seq.nextId } }))

/-- A CYCLE that starts, its guard and the start check passed, stands at position A. Without a volume it ends FAILED
with NO_VOLUME; its stop is limited to L, and a stop below the cursor ends it DONE with STOP_PASSED; an opening not
captured is captured, at position B; a captured opening at the stop ends it DONE with STOP_REACHED; otherwise a
foldout next has the operator awaited at position D, with the platen raised when it is DOWN, and else the leaf is
turned, at position E. A lit attempt that fails is tried again while its retakes last, and then ends the CYCLE FAILED
with CAPTURE (R141, R145, R146, R148, R179). -/
def Obligations.CyclesFollowThePositions : Prop :=
  (∀ (q : Req) (stop retakes : Nat) (g : Option GuardSpec) (gate : Option Guard) (m : Mask) (s : State), Taken q s →
    stepGuard g = .ok gate → stepWork (.cycle stop retakes) = .ok (.cycle (min stop 4096) (min retakes 2), m) →
    s.core.seq.state = .idle → s.core.seq.queue = [] → s.core.seq.started = false → s.core.seq.pause = none →
    s.core.seq.awaiting = none → (∀ c : Guard, gate = some c → s.core.word.get c.cond = c.want) →
    s.core.faults = [] → 5 ≤ s.core.freeExceptions → s.core.panel.broken = false →
    ∃ t, exec (.stepQueue q (.cycle stop retakes) g) s = .next t
      ∧ Replied q 0x40 (.queued s.core.seq.nextId) (.stepClamps m) s t
      ∧ (s.core.vols.mounted = none →
        t.core = { s.found q.us with
            seq := { s.core.seq.ended false with
              nextId := stepIdAfter s.core.seq.nextId, state := .held, reason := some .stepFailed } }
          ∧ (s.link.tx ≠ none → s.link.reports.length < 31 → ∃ x,
            .stepDone s.core.seq.nextId .cycle .link .failed (some .noVolume) x (.cycle 0 (min stop 4096))
              ∈ t.link.reports))
      ∧ ∀ (i : Fin 16) (v : Volume) (top : Nat) (p : CycleProgress), s.core.vols.mounted = some i →
        s.core.vols.slots[i] = some v → top = min (min stop 4096) v.leaves →
        p = { pos := .B, lit := 0, count := 0, slot := i, inst := v.inst } →
        (top < v.cursor →
            t.core = { s.found q.us with
                seq := { s.core.seq.ended false with nextId := stepIdAfter s.core.seq.nextId } }
              ∧ (s.link.tx ≠ none → s.link.reports.length < 32 → ∃ x,
                .stepDone s.core.seq.nextId .cycle .link .done (some .stopPassed) x (.cycle 0 top)
                  ∈ t.link.reports))
          ∧ (v.cursor ≤ top → v.cursor ∉ v.captured → s.core.cap.attempt = none → s.core.cap.mark = none →
            s.core.cap.ring.length < 64 → s.core.CradleReady → s.core.ConverterFree →
            s.core.illum.view.wanted = false →
            ∃ a, t.core = { (s.found q.us).lowered with
                cap := { s.core.cap with attempt := some a }
                seq := { s.core.seq.begun (.cycle top (min retakes 2)) gate with
                  op := some .attempt, cycle := some p } }
              ∧ a.phase = .preparing ∧ a.opening = v.cursor ∧ a.ask = .auto
              ∧ a.side = SideAsked.auto.resolved v.cursor v.leaves)
          ∧ (top = v.cursor → v.cursor ∈ v.captured →
            t.core = { s.found q.us with
                seq := { s.core.seq.ended false with nextId := stepIdAfter s.core.seq.nextId } }
              ∧ (s.link.tx ≠ none → s.link.reports.length < 32 → ∃ x,
                .stepDone s.core.seq.nextId .cycle .link .done (some .stopReached) x (.cycle 0 top)
                  ∈ t.link.reports))
          ∧ (v.cursor < top → v.cursor ∈ v.captured → isFoldout v.segs (v.cursor + 1) = true →
            s.core.motion.platen = .up →
            t.core = { s.found q.us with
              seq := { s.core.seq.begun (.cycle top (min retakes 2)) gate with
                cycle := some { p with pos := .D }, awaiting := some .manualTurn, state := .held
                reason := some .assist } })
          ∧ (v.cursor < top → v.cursor ∈ v.captured → isFoldout v.segs (v.cursor + 1) = true →
            s.core.motion.platen = .down → s.core.ConverterFree →
            t.core = { s.found q.us with
              motion := { s.core.motion with
                settle := none, platen := .moving .raising, platenSince := (s.found q.us).now, stepRaise := true }
              seq := { s.core.seq.begun (.cycle top (min retakes 2)) gate with
                op := some .raise, cycle := some { p with pos := .D }, awaiting := some .manualTurn, state := .held
                reason := some .assist } })
          ∧ (v.cursor < top → v.cursor ∈ v.captured → isFoldout v.segs (v.cursor + 1) = false →
            s.core.CradleReady → s.core.motion.turn = none → s.core.motion.turnWait = none →
            s.core.motion.cRef ≠ none →
            t.core = { s.found q.us with
              motion := { s.core.motion with
                turn := some (Turn.first v.cursor), turnWait := none, arm := .moving .lifting, stage := .descend
                armSince := (s.found q.us).now }
              seq := { s.core.seq.begun (.cycle top (min retakes 2)) gate with
                op := some .turn, cycle := some { p with pos := .E } } }))
    ∧ ∀ (stop retakes : Nat) (o : CaptureOutcome) (n : SeqNo) (num qp : Nat) (p : CycleProgress) (i : Fin 16) (v : Volume)
        (st : Step) (rest : List Step) (s : Core),
        s.seq.op = some .attempt → s.seq.queue = st :: rest → st.work = .cycle stop retakes → s.seq.cycle = some p →
        s.seq.state = .running → o ≠ .ok →
        (1 + retakes ≤ p.lit + 1 →
            (s.stepAttempt (.lit o n num qp)).seq.queue = rest
              ∧ (s.stepAttempt (.lit o n num qp)).seq.state = .held
              ∧ (s.stepAttempt (.lit o n num qp)).seq.reason = some .stepFailed
              ∧ ∃ x, .report (.stepDone st.id .cycle st.origin .failed (some .capture) x (.cycle p.count stop))
                  ∈ (s.stepAttempt (.lit o n num qp)).out)
          ∧ (p.lit + 1 < 1 + retakes → s.faults = [] → 5 ≤ s.freeExceptions → s.panel.broken = false →
            s.vols.mounted = some i → s.vols.slots[i] = some v → p.slot = i → p.inst = v.inst →
            v.cursor ∉ v.captured → s.cap.attempt = none → s.cap.mark = none →
            (s.stepAttempt (.lit o n num qp)).seq.cycle = some { p with pos := .B, lit := p.lit + 1 }
              ∧ (s.stepAttempt (.lit o n num qp)).seq.op = some .attempt
              ∧ (s.stepAttempt (.lit o n num qp)).seq.state = .running
              ∧ ∃ a, (s.stepAttempt (.lit o n num qp)).cap.attempt = some a ∧ a.opening = v.cursor)

/-- HALT in IDLE holds the station with reason HALT and in RUNNING with an operation in hand enters HALTING; in
HALTING and HELD it changes nothing (R150). RESUME is refused STATE outside HELD, STILL_PRESENT while a fault stands,
INTERLOCK while the curtain is BROKEN and FULL with fewer than 5 free exception entries; otherwise an empty queue goes
to IDLE (R152). ABORT with nothing in hand at the cradle, the lamps and the cameras empties the queue, clears the hold
and leaves the sequencer IDLE, or HELD with reason FAULT while a fault is present (R151). A PAUSE that is alone in the
queue ends DONE when its time is up, and the sequencer goes to IDLE; before that instant nothing ends (R144, R148).
That a timer's event before its time changes nothing is the model's choice (notes 3). RESUME with the three tests
passed and steps in the queue: a head not started is started, a PAUSE or a TURN; a head whose operation is in hand
goes on with it, a stopped motion of its arm or of its attempt's platen is taken up again, an arm stopped by the loss
of its vacuum returns, and a stopped PAUSE runs on; a TURN that awaits the operator for a foldout or a lost vacuum
asks for its turn afresh, and one that awaits TURN_FAILED ends FAILED with reason TURN; a CYCLE between operations
acts from its position (R110, R120, R141, R145, R148, R152). The clearing raise of a CYCLE that ends UP leaves the CYCLE
awaiting what it awaited: in HALTING the sequencer becomes HELD with reason HALT, in HELD its reason stands without a
report (R139, R145, R149, R150). In RUNNING, after a RESUME during the raise, it is held again with reason ASSIST, which
is the model's inference (notes 21). -/
def Obligations.HaltResumeAbort : Prop :=
  ((∀ (q : Req) (s : State), Taken q s →
          (s.core.seq.state = .idle → s.core.seq.pause = none →
              ∃ t, exec (.halt q) s = .next t ∧ Replied q 0x42 .done .empty s t
                ∧ t.core = { s.found q.us with seq := { s.core.seq with state := .held, reason := some .halt } })
            ∧ (s.core.seq.state = .running → s.core.seq.op ≠ none →
              exec (.halt q) s = .next (s.answered q 0x42 .done .empty
                { s.found q.us with seq := { s.core.seq with state := .halting, reason := none } }))
            ∧ ((s.core.seq.state = .halting ∨ s.core.seq.state = .held) →
              exec (.halt q) s = .next (s.answered q 0x42 .done .empty (s.found q.us)))
            ∧ (s.core.seq.state ≠ .held →
              exec (.resume q) s = .next (s.answered q 0x44 (.refused .state) .empty (s.found q.us)))
            ∧ (s.core.seq.state = .held → s.core.faults ≠ [] →
              exec (.resume q) s = .next (s.answered q 0x44 (.refused .stillPresent) .empty (s.found q.us)))
            ∧ (s.core.seq.state = .held → s.core.faults = [] → s.core.panel.broken = true →
              exec (.resume q) s = .next (s.answered q 0x44 (.refused .interlock) .empty (s.found q.us)))
            ∧ (s.core.seq.state = .held → s.core.faults = [] → s.core.panel.broken = false → s.core.freeExceptions < 5 →
              exec (.resume q) s = .next (s.answered q 0x44 .full .empty (s.found q.us)))
            ∧ (s.core.seq.state = .held → s.core.faults = [] → s.core.panel.broken = false → 5 ≤ s.core.freeExceptions →
              s.core.seq.queue = [] →
              exec (.resume q) s = .next (s.answered q 0x44 .done .empty
                { s.found q.us with seq := { s.core.seq with state := .idle, reason := none, interlock := false } })))
       ∧ (∀ (q : Req) (s : State), Taken q s →
             s.core.cap.attempt = none → s.core.cap.mark = none → s.core.illum.flash = none → s.core.motion.homing = none →
             s.core.motion.turn = none → s.core.motion.turnWait = none → s.core.motion.lowerHeld = false →
             s.core.motion.stepRaise = false → (s.core.motion.platen = .up ∨ s.core.motion.platen = .down) →
             ∃ t, exec (.abort q) s = .next t ∧ Replied q 0x43 .done .empty s t
               ∧ t.core = { s.found q.us with
                   seq := { s.core.seq with
                     queue := [], awaiting := none, interlock := false, started := false, op := none, cycle := none
                     pause := none
                     state := if s.core.faults = [] then .idle else .held
                     reason := if s.core.faults = [] then none else some .fault } })
       ∧ (∀ (us left t0 : Nat) (st : Step) (s : State), s.core.seq.pause = some { left := left, since := some t0 } →
             s.core.seq.queue = [st] → s.core.seq.state = .running →
             (t0 + left ≤ (s.found us).now →
               ∃ t, exec (.pauseEnd us) s = .next t
                 ∧ t.core = { s.found us with
                     seq := { s.core.seq with
                       queue := [], awaiting := none, started := false, op := none, cycle := none, pause := none
                       state := .idle, reason := none
                       latched := { s.core.seq.latched with skipped := false } } })
               ∧ ((s.found us).now < t0 + left → exec (.pauseEnd us) s = .next (s.quietly (s.found us)))))
    ∧ (∀ (q : Req) (st : Step) (rest : List Step) (s : State), Taken q s → s.core.seq.state = .held → s.core.faults = [] →
          s.core.panel.broken = false → 5 ≤ s.core.freeExceptions → s.core.seq.queue = st :: rest →
          (∀ ms : Nat, s.core.seq.started = false → s.core.seq.pause = none → st.gate = none → st.work = .pause ms →
              exec (.resume q) s = .next (s.answered q 0x44 .done .empty
                { s.found q.us with
                  seq := { s.core.seq.resumed with
                    started := true, pause := some { left := ms * 1000, since := some (s.found q.us).now } } }))
            ∧ (∀ (i : Fin 16) (v : Volume), st.work = .turn → s.core.CradleReady → s.core.motion.turn = none →
              s.core.motion.turnWait = none → s.core.motion.cRef ≠ none → s.core.vols.mounted = some i →
              s.core.vols.slots[i] = some v → v.cursor < v.leaves → isFoldout v.segs (v.cursor + 1) = false →
              ((s.core.seq.started = false ∧ st.gate = none)
                ∨ (s.core.seq.started = true ∧ s.core.seq.op = none ∧ s.core.seq.pause = none
                  ∧ (s.core.seq.awaiting = some .manualTurn ∨ s.core.seq.awaiting = some .vacuumLost))) →
              exec (.resume q) s = .next (s.answered q 0x44 .done .empty
                { s.found q.us with
                  motion := { s.core.motion with
                    turn := some (Turn.first v.cursor), turnWait := none, arm := .moving .lifting, stage := .descend
                    armSince := (s.found q.us).now }
                  seq := { s.core.seq.resumed with
                    started := true, op := some .turn
                    awaiting := if s.core.seq.started then none else s.core.seq.awaiting } }))
            ∧ (s.core.seq.started = true → s.core.seq.op ≠ none → s.core.seq.pause = none → s.core.cap.attempt = none →
              ((∀ m, s.core.motion.platen ≠ .stopped m) → (∀ m cause, s.core.motion.arm ≠ .stopped m cause) →
                  exec (.resume q) s = .next (s.answered q 0x44 .done .empty
                    { s.found q.us with seq := s.core.seq.resumed }))
                ∧ (∀ (m : ArmMove) (t : Turn) (c : ClassFields), (∀ p, s.core.motion.platen ≠ .stopped p) →
                  s.core.motion.arm = .stopped m .curtain → s.core.motion.turn = some t → t.aborting = false →
                  s.core.cls = some c →
                  ((s.core.motion.stage = .descend ∨ s.core.motion.stage = .sweep ∨ s.core.motion.stage = .travel
                      ∨ (s.core.motion.stage = .leafUp ∧ s.core.motion.vacuumAt = true)
                      ∨ ∃ why, s.core.motion.stage = .putDown why) →
                    exec (.resume q) s = .next (s.answered q 0x44 .done .empty
                      { s.found q.us with
                        motion := { s.core.motion with arm := .moving m, armSince := (s.found q.us).now }
                        seq := s.core.seq.resumed }))
                    ∧ (s.core.motion.stage = .suck →
                      exec (.resume q) s = .next (s.answered q 0x44 .done .empty
                        { s.found q.us with
                          motion := { s.core.motion with
                            arm := .moving m, armSince := (s.found q.us).now, valveOpen := true
                            puff := some { since := (s.found q.us).now, ms := c.puff * 2 ^ t.retries } }
                          seq := s.core.seq.resumed }))
                    ∧ (s.core.motion.stage = .release →
                      exec (.resume q) s = .next (s.answered q 0x44 .done .empty
                        { s.found q.us with
                          motion := { s.core.motion with
                            arm := .moving m, armSince := (s.found q.us).now, valveOpen := false }
                          seq := s.core.seq.resumed }))
                    ∧ (s.core.ConverterFree →
                      (s.core.motion.stage = .reference ∨ (s.core.motion.stage = .gauge ∧ s.core.motion.vacuumAt = true)) →
                      exec (.resume q) s = .next (s.answered q 0x44 .done .empty
                        { s.found q.us with
                          motion := { s.core.motion with arm := .moving m, armSince := (s.found q.us).now }
                          meas := { s.core.meas with
                            conv := some
                              { channel := .G, kind := .spot
                                requesters := [if s.core.motion.stage = .reference then .openRef else .gauge]
                                since := (s.found q.us).now, limit := 12000 } }
                          seq := s.core.seq.resumed })))
                ∧ (∀ (m : ArmMove) (t : Turn), (∀ p, s.core.motion.platen ≠ .stopped p) →
                  s.core.motion.arm = .stopped m .vacuumLost → s.core.motion.turn = some t → t.aborting = false →
                  exec (.resume q) s = .next (s.answered q 0x44 .done .empty
                    { s.found q.us with
                      motion := { s.core.motion with
                        arm := .moving .returning, stage := .travel, armSince := (s.found q.us).now }
                      seq := s.core.seq.resumed })))
            ∧ (∀ a : Attempt, s.core.seq.started = true → s.core.seq.op ≠ none → s.core.seq.pause = none →
              s.core.cap.attempt = some a → a.phase = .preparing → a.prep = .platen →
              s.core.motion.platen = .stopped .lowering → s.core.motion.arm = .parked → s.core.ConverterFree →
              exec (.resume q) s = .next (s.answered q 0x44 .done .empty
                { s.found q.us with
                  cap := { s.core.cap with attempt := some { a with interlock := false } }
                  motion := { s.core.motion with
                    settle := s.core.motion.settle.map fun _ => (s.found q.us).now, platen := .moving .lowering
                    platenSince := (s.found q.us).now, sampleAt := (s.found q.us).now }
                  meas := { s.core.meas with
                    conv := some { channel := .F, kind := .spot, requesters := [.force], since := (s.found q.us).now
                                   limit := 12000 } }
                  seq := s.core.seq.resumed }))
            ∧ (∀ left : Nat, s.core.seq.started = true → s.core.seq.op = none →
              s.core.seq.pause = some { left := left, since := none } → s.core.cap.attempt = none →
              s.core.motion.platen = .up → s.core.motion.arm = .parked →
              exec (.resume q) s = .next (s.answered q 0x44 .done .empty
                { s.found q.us with
                  seq := { s.core.seq.resumed with
                    pause := some { left := left, since := some (s.found q.us).now } } }))
            ∧ (s.core.seq.started = true → s.core.seq.op = none → s.core.seq.pause = none →
              s.core.seq.awaiting = some .turnFailed → st.work = .turn →
              ∃ t, exec (.resume q) s = .next t ∧ Replied q 0x44 .done .empty s t
                ∧ t.core = { s.found q.us with
                    seq := { s.core.seq.ended false with
                      queue := rest, state := .held, reason := some .stepFailed, interlock := false } }
                ∧ (s.link.tx ≠ none → s.link.reports.length + 2 ≤ 32 → ∃ x,
                    .stepDone st.id .turn st.origin .failed (some .turn) x .none ∈ t.link.reports))
            ∧ (∀ (stop retakes : Nat) (p : CycleProgress) (i : Fin 16) (v : Volume), s.core.seq.started = true →
              s.core.seq.op = none → s.core.seq.pause = none → s.core.seq.awaiting = none → st.work = .cycle stop retakes →
              s.core.seq.cycle = some p → p.pos = .A → s.core.vols.mounted = some i → s.core.vols.slots[i] = some v →
              p.slot = i → p.inst = v.inst →
              (min stop v.leaves < v.cursor → rest = [] →
                  ∃ t, exec (.resume q) s = .next t ∧ Replied q 0x44 .done .empty s t
                    ∧ t.core = { s.found q.us with seq := { s.core.seq.ended false with interlock := false } })
                ∧ (v.cursor ≤ min stop v.leaves → v.cursor ∉ v.captured → s.core.cap.attempt = none →
                  s.core.cap.mark = none → s.core.cap.ring.length < 64 → s.core.CradleReady → s.core.ConverterFree →
                  s.core.illum.view.wanted = false →
                  ∃ t a, exec (.resume q) s = .next t ∧ Replied q 0x44 .done .empty s t
                    ∧ t.core = { (s.found q.us).lowered with
                        cap := { s.core.cap with attempt := some a }
                        seq := { s.core.seq.resumed with
                          queue := { st with work := .cycle (min stop v.leaves) retakes } :: rest, op := some .attempt
                          cycle := some { p with pos := .B, lit := 0 } } }
                    ∧ a.phase = .preparing ∧ a.opening = v.cursor ∧ a.ask = .auto
                    ∧ a.side = SideAsked.auto.resolved v.cursor v.leaves)))
    ∧ (∀ (us : Nat) (why : HoldReason) (s : State), s.core.motion.platen = .moving .raising →
          s.core.motion.homing = none → s.core.motion.stepRaise = true → s.core.motion.turnWait = none →
          s.core.seq.op = some .raise → s.core.seq.pause = none → s.core.faults = [] →
          ((s.core.seq.state = .held ∧ s.core.seq.reason = some why)
            ∨ (s.core.seq.state = .halting ∧ why = .halt) ∨ (s.core.seq.state = .running ∧ why = .assist)) →
          ∃ t, exec (.platenUp us) s = .next t
            ∧ t.core = { s.found us with
                motion := { s.core.motion with
                  forceRaise := false, stepRaise := false, platen := .up, platenSince := (s.found us).now }
                seq := { s.core.seq with op := none, state := .held, reason := some why } }
            ∧ (s.link.tx ≠ none → s.link.reports.length < 32 →
              t.link.reports = s.link.reports ++
                if s.core.seq.state = .held then []
                else [.hold why s.core.seq.awaiting (s.core.seq.queue.head?.map (·.id)) false]))

/-- ABORT, with steps in the queue or none, answers DONE, ends every step CANCELLED and leaves the sequencer IDLE, or
HELD with reason FAULT while a fault stands. A homing ends ABORTED, the axis of its phase UNREFERENCED. An attempt not
yet lit is dropped with its flash, and leaves no record; one being lit has its lamps turned off, is charged on its
nominal figure for the time it was lit, and ends with its record, outcome ABORTED; one in COLLECTING writes that
record once its dose record is there. A calibration flash ends ABORTED and charges nothing: one not yet lit is
dropped, and one being lit has its lamps turned off and its window abandoned, and its reply carries the time lit. A
LOWERING platen rises, a STOPPED one rises with the curtain CLEAR, any other stays. A turn in LIFTING or GAUGING
begins the put-down of what the cup holds; in SWEEPING, RELEASING and RETURNING, and in a put-down, the arm goes on,
and the turn is marked as aborted; a stopped arm stays while the curtain is BROKEN, and one stopped by the loss of its
vacuum returns when it is CLEAR (R40, R41, R55, R81, R90, R95, R100, R111, R112, R132, R151).
The reply of a calibration flash not yet lit carries the time 0, and its codes when it has been admitted, none
before. That body is the model's choice (notes 38), as R81 has the codes and the time lit without saying what they are
then. That a STOPPED platen rises at once where ABORT finds the curtain CLEAR already is the model's choice too (notes
45), as R111 speaks of the moment when the curtain becomes CLEAR. So is that one STOPPED under a BROKEN curtain is held
as STOPPED from RAISING (notes 41), and that a put-down already under way is completed as it began (notes 20). -/
def Obligations.AbortEndsWhatIsInHand : Prop :=
  ∀ (q : Req) (s : State), Taken q s → s.NumbersIssued →
    ∃ t, exec (.abort q) s = .next t
      ∧ { id := s.link.nextEntry, kind := 0x43#8, tag := q.tag
          reply := some { status := .done, body := .empty } } ∈ t.link.pending
      ∧ ((∀ e ∈ s.core.faults, e.acked = false) → t.core.faults = s.core.faults)
      ∧ (t.core.faults = [] → t.core.seq.state = .idle ∧ t.core.seq.reason = none)
      ∧ (t.core.faults ≠ [] → t.core.seq.state = .held ∧ t.core.seq.reason = some .fault)
      ∧ t.core.seq.queue = [] ∧ t.core.seq.started = false ∧ t.core.seq.op = none
      ∧ t.core.seq.cycle = none ∧ t.core.seq.awaiting = none ∧ t.core.seq.interlock = false
      ∧ t.core.motion.turnWait = none ∧ t.core.motion.lowerHeld = false ∧ t.core.motion.homing = none
      ∧ (s.core.cap.attempt = none → t.core.cap.mark = none)
      ∧ (∀ (st : Step) (rest : List Step), s.core.seq.queue = st :: rest → s.core.faults = [] → rest.length < 16 →
          s.link.tx ≠ none → s.link.reports = [] → s.core.cap.attempt = none → s.core.illum.flash = none → ∃ x e,
          .stepDone st.id st.work.kind st.origin .cancelled (some .abort) x e ∈ t.link.reports)
      ∧ (∀ h : Homing, s.core.motion.homing = some h →
          ((∀ f e, s.core.illum.flash = some f → f.by_ = .calibration e → e ≠ h.entry) →
            ∀ p ∈ s.link.pending, p.id = h.entry →
            { p with
              reply := some
                { status := .done
                  body := .homed .aborted h.phase
                    (if h.phase = .platen then .unreferenced else s.core.motion.platen)
                    (if h.phase = .arm then .unreferenced else s.core.motion.arm)
                    (if h.phase = .angleSensor ∨ h.phase = .angleTarget then .unreferenced
                      else s.core.motion.angle)
                    false } } ∈ t.link.pending)
            ∧ (h.phase = .platen → t.core.motion.platen = .unreferenced)
            ∧ (h.phase = .arm → t.core.motion.arm = .unreferenced)
            ∧ (h.phase = .angleSensor ∨ h.phase = .angleTarget →
              t.core.motion.angle = .unreferenced ∧ t.core.motion.angleTarget = none)
            ∧ (h.phase = .reference → s.core.meas.pending.g = some { kind := .spot, requesters := [.homingRef] } →
              t.core.meas.pending.g = none))
      ∧ (∀ a : Attempt, s.core.cap.attempt = some a →
          (a.phase = .ringWait ∨ a.phase = .preparing ∨ a.phase = .admitting) →
          (s.core.illum.flash = none
            ∨ ((s.core.illum.life = .admitting ∨ s.core.illum.life = .thermalHold ∨ s.core.illum.life = .meterWait)
              ∧ ∃ f side, s.core.illum.flash = some f ∧ f.by_ = .capture side)) →
          t.core.cap = { s.core.cap with
              attempt := none
              camV := { s.core.cap.camV with trigger := false, frame := .notNeeded, sawLow := false }
              camR := { s.core.cap.camR with trigger := false, frame := .notNeeded, sawLow := false } }
            ∧ t.core.illum = { s.core.illum with
              flash := none
              life := if s.core.illum.flash = none then s.core.illum.life
                else if s.core.illum.hold then .thermalHold else .idle
              view := { s.core.illum.view with suppressed := false } }
            ∧ t.core.vols = s.core.vols ∧ t.core.dose.aOpen = s.core.dose.aOpen
            ∧ t.core.seq.latched = s.core.seq.latched)
      ∧ (∀ (a : Attempt) (f : Flash) (side : Side) (adm : Admission) (i : Fin 16) (v : Volume),
          s.core.cap.attempt = some a → a.phase = .lit → s.core.illum.life = .lit → s.core.illum.flash = some f →
          f.by_ = .capture side → f.adm = some adm → s.core.vols.mounted = some i → s.core.vols.slots[i] = some v →
          v.uF ≤ 1099511627775 →
          ∃ r w, t.core.cap.ring = s.core.cap.ring ++ [.capture r] ∧ t.core.cap.attempt = none
            ∧ t.core.illum.life = .recovering ∧ t.core.illum.flash = none
            ∧ t.core.illum.lampOffAt = some (s.found q.us).now
            ∧ t.core.cap.camV.trigger = false ∧ t.core.cap.camR.trigger = false
            ∧ r.seq = a.seq ∧ r.stamp = a.litStamp ∧ r.slot = i.val ∧ r.inst = v.inst ∧ r.opening = a.opening
            ∧ r.number = a.number ∧ r.outcome = .aborted
            ∧ r.dose.source = .nominal ∧ r.dose.saturated = false ∧ r.dose.dimmed = adm.dimmed
            ∧ r.dose.cause = adm.cause ∧ r.dose.eApp = adm.eApp
            ∧ r.dose.eUsed = (if adm.dark then 0 else adm.eApp)
            ∧ r.dose.q = (if adm.dark then 0
                else (adm.eApp * min ((s.found q.us).now - f.litAt) adm.d + 999) / 1000)
            ∧ t.core.vols.slots[i] = some w ∧ w.uF = min 1099511627775 (v.uF + r.dose.q)
            ∧ w.captured = v.captured ∧ w.cursor = v.cursor ∧ w.tallies = v.tallies)
      ∧ (∀ a : Attempt, s.core.cap.attempt = some a → a.phase = .collecting → s.core.illum.flash = none →
          (a.dose = none →
              t.core.cap = { s.core.cap with attempt := some { a with aborting := true, frameSince := none } })
            ∧ ∀ (d : DoseRecord) (i : Fin 16) (v : Volume), a.dose = some d → s.core.vols.mounted = some i →
              s.core.vols.slots[i] = some v →
              ∃ r, t.core.cap.ring = s.core.cap.ring ++ [.capture r] ∧ t.core.cap.attempt = none ∧ r.dose = d
                ∧ r.seq = a.seq ∧ r.slot = i.val ∧ r.inst = v.inst ∧ r.opening = a.opening ∧ r.outcome = .aborted
                ∧ t.core.seq.latched.captureOk = false ∧ t.core.seq.latched.captureDimmed = d.dimmed
                ∧ t.core.illum.view.suppressed = false)
      ∧ (∀ (f : Flash) (e : Nat), s.core.illum.flash = some f → f.by_ = .calibration e →
          (s.core.illum.life = .admitting ∨ s.core.illum.life = .meterWait) →
          t.core.illum.flash = none ∧ t.core.illum.life = (if s.core.illum.hold then .thermalHold else .idle)
            ∧ ∀ p ∈ s.link.pending, p.id = e →
              { p with reply := some { status := .done, body := .calFlash (.aborted f.adm 0) } } ∈ t.link.pending)
      ∧ (∀ (f : Flash) (e : Nat) (adm : Admission), s.core.illum.flash = some f → f.by_ = .calibration e →
          f.adm = some adm → s.core.illum.life = .lit →
          t.core.illum.flash = none ∧ t.core.illum.life = .recovering
            ∧ t.core.illum.lampOffAt = some (s.found q.us).now ∧ t.core.bankDrive = (0, 0, 0, 0)
            ∧ (∀ p ∈ s.link.pending, p.id = e →
              { p with
                reply := some
                  { status := .done
                    body := .calFlash (.aborted (some adm) (min ((s.found q.us).now - f.litAt) adm.d)) } }
                ∈ t.link.pending)
            ∧ (s.core.cap.attempt = none → t.core.vols = s.core.vols ∧ t.core.dose = s.core.dose
              ∧ ∀ c : Conversion, s.core.meas.conv = some c → c.kind = .window → c.requesters = [.window] →
                s.core.meas.pending = ⟨none, none, none, none⟩ → s.core.motion.homing = none →
                s.core.motion.turn = none → s.core.motion.platen.inMotion = false →
                t.core.meas = { s.core.meas with conv := none }))
      ∧ (s.core.motion.homing = none →
          ((∀ m, s.core.motion.platen ≠ .stopped m) → s.core.motion.platen ≠ .moving .lowering →
              t.core.motion.platen = s.core.motion.platen)
            ∧ (s.core.motion.platen = .moving .lowering → s.core.panel.broken = false →
              t.core.motion.platen = .moving .raising ∧ t.core.motion.platenSince = (s.found q.us).now
                ∧ t.core.motion.settle = none
                ∧ (s.core.meas.pending.f = some { kind := .spot, requesters := [.force] } →
                  t.core.meas.pending.f = none))
            ∧ (∀ m, s.core.motion.platen = .stopped m →
              t.core.motion.platen = (if s.core.panel.broken then .stopped .raising else .moving .raising)
                ∧ t.core.motion.settle = none))
      ∧ (∀ u : Turn, s.core.motion.turn = some u → s.core.motion.homing = none →
        (s.core.motion.platen = .up ∨ s.core.motion.platen = .down) →
        ((∃ m, s.core.motion.arm = .moving m ∧ (m = .lifting ∨ m = .gauging)) →
            (∀ why, s.core.motion.stage ≠ .putDown why) →
            t.core.motion = { s.core.motion with
              turn := some { u with aborting := true }, turnWait := none, lowerHeld := false, stepRaise := false
              stage := .putDown .aborted, armSince := (s.found q.us).now })
          ∧ ((∃ m, s.core.motion.arm = .moving m ∧ (m = .sweeping ∨ m = .releasing ∨ m = .returning)) →
            t.core.motion = { s.core.motion with
              turn := some { u with aborting := true }, turnWait := none, lowerHeld := false, stepRaise := false })
          ∧ ((∃ m why, s.core.motion.arm = .moving m ∧ s.core.motion.stage = .putDown why) →
            t.core.motion = { s.core.motion with
              turn := some { u with aborting := true }, turnWait := none, lowerHeld := false, stepRaise := false })
          ∧ ((∃ m cause, s.core.motion.arm = .stopped m cause) → s.core.panel.broken = true →
            t.core.motion = { s.core.motion with
              turn := some { u with aborting := true }, turnWait := none, lowerHeld := false, stepRaise := false })
          ∧ (s.core.motion.arm = .stopped .sweeping .vacuumLost → s.core.panel.broken = false →
            t.core.motion = { s.core.motion with
              turn := some { u with aborting := true }, turnWait := none, lowerHeld := false, stepRaise := false
              arm := .moving .returning, stage := .travel, armSince := (s.found q.us).now }))

/-- FAULT_CLEAR of a kind not in the set is NOT_FOUND; of a kind whose condition has ended it removes the entry, DONE;
of a kind whose condition persists it keeps it acknowledged, REFUSED STILL_PRESENT; FAULT_CLEAR of all kinds does so
for each entry (R113, R173, R174). The codes of the kinds, the empty body of NOT_FOUND, the moment at which an axis
leaves its condition and the order of the kinds in a reply, that of the set, are the model's (notes 11, 46, 47, 50). Of
several entries FAULT_CLEAR of one kind removes or acknowledges its own alone, and FAULT_CLEAR of all kinds removes
those whose conditions have ended and acknowledges those that persist. The condition of PLATEN_TIMEOUT, ARM_TIMEOUT and
ANGLE_TIMEOUT is present exactly while the axis is in FAULT or its homing-failed mark is set, that of PLATEN_FORCE
while the platen, under the mark of a raise after a force fault, is RAISING, STOPPED from RAISING or in FAULT, that of
VACUUM_LOST never, that of CAMERA_TIMEOUT while a camera of the detail has READY low or FAULT high, and that of
METER_FAULT while the latch of a channel of the detail holds FAULT (R58, R113, R134, R172). -/
def Obligations.FaultsAreCleared : Prop :=
  (∀ (q : Req) (code : Nat) (k : FaultKind) (s : State), Taken q s → faultKindCodes[code]? = some k →
       ((∀ e ∈ s.core.faults, e.kind ≠ k) →
           exec (.faultClear q code) s = .next (s.answered q 0x46 .notFound .empty (s.found q.us)))
         ∧ (∀ e, s.core.faults = [e] → e.kind = k → s.core.faultPresent e = false →
           exec (.faultClear q code) s = .next (s.answered q 0x46 .done (.cleared [k] [])
             { s.found q.us with faults := [] }))
         ∧ (∀ e, s.core.faults = [e] → e.kind = k → s.core.faultPresent e = true →
           exec (.faultClear q code) s = .next
             (s.answered q 0x46 (.refused .stillPresent) (.cleared [] [(e.kind, e.detail)])
               { s.found q.us with faults := [{ e with acked := true }] }))
         ∧ ((∀ e ∈ s.core.faults, s.core.faultPresent e = false) →
           exec (.faultClearAll q) s = .next
             (s.answered q 0x46 .done (.cleared (s.core.faults.map (·.kind)) []) { s.found q.us with faults := [] }))
         ∧ ((∀ e ∈ s.core.faults, s.core.faultPresent e = true) → s.core.faults ≠ [] →
           exec (.faultClearAll q) s = .next
             (s.answered q 0x46 (.refused .stillPresent) (.cleared [] (s.core.faults.map fun e => (e.kind, e.detail)))
               { s.found q.us with faults := s.core.faults.map fun e => { e with acked := true } })))
    ∧ (∀ (q : Req) (code : Nat) (k : FaultKind) (e : FaultEntry) (before after : List FaultEntry) (s : State), Taken q s →
          faultKindCodes[code]? = some k → s.core.faults = before ++ e :: after → e.kind = k →
          (∀ x ∈ before ++ after, x.kind ≠ k) →
          (s.core.faultPresent e = false →
            exec (.faultClear q code) s = .next
              (s.answered q 0x46 .done (.cleared [k] ((before ++ after).map fun x => (x.kind, x.detail)))
                { s.found q.us with faults := before ++ after }))
            ∧ (s.core.faultPresent e = true →
              exec (.faultClear q code) s = .next
                (s.answered q 0x46 (.refused .stillPresent)
                  (.cleared [] ((before ++ e :: after).map fun x => (x.kind, x.detail)))
                  { s.found q.us with faults := before ++ { e with acked := true } :: after }))
            ∧ (s.core.faultPresent e = true →
              exec (.faultClearAll q) s = .next
                (s.answered q 0x46 (.refused .stillPresent)
                  (.cleared ((s.core.faults.filter fun x => !s.core.faultPresent x).map (·.kind))
                    ((s.core.faults.filter s.core.faultPresent).map fun x => (x.kind, x.detail)))
                  { s.found q.us with
                    faults := (s.core.faults.filter s.core.faultPresent).map fun x => { x with acked := true } })))
    ∧ (∀ (e : FaultEntry) (s : Core),
          (e.kind = .platenTimeout →
              (s.faultPresent e = true ↔ s.motion.platen = .fault ∨ s.motion.platenFailed = true))
            ∧ (e.kind = .platenForce →
              (s.faultPresent e = true ↔
                s.motion.forceRaise = true
                  ∧ (s.motion.platen = .moving .raising ∨ s.motion.platen = .stopped .raising ∨ s.motion.platen = .fault)))
            ∧ (e.kind = .armTimeout → (s.faultPresent e = true ↔ s.motion.arm = .fault ∨ s.motion.armFailed = true))
            ∧ (e.kind = .angleTimeout → (s.faultPresent e = true ↔ s.motion.angle = .fault ∨ s.motion.angleFailed = true))
            ∧ (e.kind = .vacuumLost → s.faultPresent e = false)
            ∧ (∀ cams : List Camera, e.kind = .cameraTimeout → e.detail = .cameras cams →
              (s.faultPresent e = true ↔
                (.V ∈ cams ∧ (s.cap.camV.ready = false ∨ s.cap.camV.fault = true))
                  ∨ (.R ∈ cams ∧ (s.cap.camR.ready = false ∨ s.cap.camR.fault = true))))
            ∧ (∀ chs : List Channel, e.kind = .meterFault → e.detail = .channels chs →
              (s.faultPresent e = true ↔
                ∃ (ch : Channel) (r : Result), ch ∈ chs ∧ s.meas.latch.get ch = some r ∧ r.flag = some .fault)))

/-! ### The panel -/

/-- A press is taken when it is due. ADVANCE sounds the tone in RUNNING, in HALTING, in HELD with no assistance
pending and in IDLE with no volume mounted, and in HELD with assistance pending it acts as CONTINUE. RETAKE sounds it
outside IDLE or with no volume mounted, BACK at opening 0 and on a station that is not quiet, TURNED with no volume
mounted, at L, with the arm not PARKED or the platen not UP, and in RUNNING and HALTING. HOLD acts as HALT. CONTINUE
is always accepted: it makes the RESUME, and sounds the tone where that is refused, with the answer in its PANEL
report; it clears a VACUUM_LOST of the fault set first (R150, R152, R161 to R166, R173). That a press which is not due
changes nothing is the model's (notes 3 and 25). ADVANCE and RETAKE in IDLE queue a CAPTURE of the panel with the next
id: with the curtain BROKEN the step waits, HELD for the interlock. TURNED with the platen UP and the arm PARKED
counts a manual turn and advances the cursor, and BACK on a quiet station takes it back by one (R18, R153, R160, R162
to R165). TURNED while HELD with the operator awaited: the hand turn is taken, and the TURN step ends DONE with reason
MANUAL_TURN; where the three tests of RESUME pass, the sequencer goes on, to IDLE, to the next step or to the CYCLE at
position A, and where one fails it stays HELD with its reason (R18, R145, R148, R152, R153). ADVANCE in IDLE at a
captured opening below L queues a TURN of the panel, which sends the cup down, or waits, HELD for the interlock, with
the curtain BROKEN (R160, R162). ADVANCE at an opening not yet captured and RETAKE, in IDLE with the curtain CLEAR,
start that CAPTURE at once: its attempt begins to lower the platen (R97, R98, R116 to R118, R141, R160, R162, R163). -/
def Obligations.KeysAct : Prop :=
  ((∀ (us : Nat) (s : State),
          ((s.found us).pressDue .advance = true →
              (s.core.seq.state = .running ∨ s.core.seq.state = .halting
                ∨ (s.core.seq.state = .held ∧ s.core.assisting = false)
                ∨ (s.core.seq.state = .idle ∧ s.core.vols.mounted = none)) →
              exec (.advance us) s = .next (s.quietly (((s.found us).setPressed .advance).tone)))
            ∧ ((s.found us).pressDue .retake = true → (s.core.seq.state ≠ .idle ∨ s.core.vols.mounted = none) →
              exec (.retakeKey us) s = .next (s.quietly (((s.found us).setPressed .retake).tone)))
            ∧ ((s.found us).pressDue .back = true → (s.core.cursor = 0 ∨ s.core.quiet = false) →
              exec (.backKey us) s = .next (s.quietly (((s.found us).setPressed .back).tone)))
            ∧ ((s.found us).pressDue .turned = true →
              (s.core.vols.mounted = none ∨ s.core.motion.arm ≠ .parked ∨ s.core.motion.platen ≠ .up
                ∨ s.core.seq.state = .running ∨ s.core.seq.state = .halting
                ∨ (∃ v, s.core.volume = some v ∧ v.leaves ≤ v.cursor)) →
              exec (.turnedKey us) s = .next (s.quietly (((s.found us).setPressed .turned).tone)))
            ∧ ((s.found us).pressDue .hold = true →
              (s.core.seq.state = .idle → s.core.seq.pause = none →
                ∃ t, exec (.holdKey us) s = .next t
                  ∧ t.core = { (s.found us).setPressed .hold with
                      seq := { s.core.seq with state := .held, reason := some .halt } })
                ∧ (s.core.seq.state = .running → s.core.seq.op ≠ none →
                  ∃ t, exec (.holdKey us) s = .next t
                    ∧ t.core = { (s.found us).setPressed .hold with
                        seq := { s.core.seq with state := .halting, reason := none } })
                ∧ ((s.core.seq.state = .halting ∨ s.core.seq.state = .held) →
                  ∃ t, exec (.holdKey us) s = .next t ∧ t.core = (s.found us).setPressed .hold))
            ∧ ((s.core.seq.state = .held → s.core.panel.broken = false → 5 ≤ s.core.freeExceptions → s.core.seq.queue = [] →
              (∀ e ∈ s.core.faults, e.kind = .vacuumLost) →
              ((s.found us).pressDue .cont = true →
                ∃ t, exec (.continueKey us) s = .next t
                  ∧ t.core = { (s.found us).setPressed .cont with
                      faults := [], seq := { s.core.seq with state := .idle, reason := none, interlock := false } })
                ∧ ((s.found us).pressDue .advance = true → s.core.assisting = true →
                  ∃ t, exec (.advance us) s = .next t
                    ∧ t.core = { (s.found us).setPressed .advance with
                        faults := [], seq := { s.core.seq with state := .idle, reason := none, interlock := false } })))
            ∧ (∀ answer : Status, (∀ e ∈ s.core.faults, e.kind ≠ .vacuumLost) → answer ≠ .done →
              answer = (if s.core.seq.state ≠ .held then .refused .state
                else if s.core.faults ≠ [] then .refused .stillPresent
                else if s.core.panel.broken = true then .refused .interlock
                else if s.core.freeExceptions < 5 then .full else .done) →
              ((s.found us).pressDue .cont = true →
                ∃ t, exec (.continueKey us) s = .next t ∧ t.core = ((s.found us).setPressed .cont).tone
                  ∧ (s.link.tx ≠ none → s.link.reports.length < 32 →
                    t.link.reports = s.link.reports ++ [.panelKey .cont (s.found us).stamp (.cont false answer)]))
                ∧ ((s.found us).pressDue .advance = true → s.core.seq.state = .held → s.core.assisting = true →
                  ∃ t, exec (.advance us) s = .next t ∧ t.core = ((s.found us).setPressed .advance).tone
                    ∧ (s.link.tx ≠ none → s.link.reports.length < 32 →
                      t.link.reports = s.link.reports ++ [.panelKey .advance (s.found us).stamp (.cont false answer)])))
            ∧ ((s.found us).pressDue .turned = false → exec (.turnedKey us) s = .next (s.quietly (s.found us))))
       ∧ (∀ (us : Nat) (i : Fin 16) (v : Volume) (s : State), s.core.vols.mounted = some i → s.core.vols.slots[i] = some v →
             s.core.seq.state = .idle →
             ((s.core.seq.queue = [] → s.core.seq.started = false → s.core.seq.interlock = false → s.core.seq.pause = none →
                 s.core.faults = [] → 5 ≤ s.core.freeExceptions → s.core.panel.broken = true → v.cursor ∉ v.captured →
                 ((s.found us).pressDue .advance = true →
                   ∃ t, exec (.advance us) s = .next t
                     ∧ t.core = { (s.found us).setPressed .advance with
                         seq := { s.core.seq with
                           queue := [{ id := s.core.seq.nextId, origin := .panel, work := .capture .auto false, gate := none }]
                           nextId := if s.core.seq.nextId < 65535 then s.core.seq.nextId + 1 else 1
                           state := .held, reason := some .interlock, interlock := true } })
                   ∧ ((s.found us).pressDue .retake = true →
                     ∃ t, exec (.retakeKey us) s = .next t
                       ∧ t.core = { (s.found us).setPressed .retake with
                           seq := { s.core.seq with
                             queue := [{ id := s.core.seq.nextId, origin := .panel, work := .capture .auto true, gate := none }]
                             nextId := if s.core.seq.nextId < 65535 then s.core.seq.nextId + 1 else 1
                             state := .held, reason := some .interlock, interlock := true } })))
               ∧ ((s.found us).pressDue .turned = true → v.cursor < v.leaves → s.core.motion.arm = .parked →
                 s.core.motion.platen = .up → s.core.seq.awaiting = none → s.core.dose.accrual = none →
                 s.core.illum.view.wanted = false → s.core.illum.view.ceiling = false → 0 < s.core.freeExceptions →
                 v.tallies.manualTurns < 4294967295 → v.cursor + 1 ≤ 4294967295 →
                 ∃ t, exec (.turnedKey us) s = .next t
                   ∧ t.core = { (s.found us).setPressed .turned with
                       vols := { s.core.vols with
                         slots := s.core.vols.slots.set i (some { v with
                           cursor := v.cursor + 1
                           tallies := { v.tallies with manualTurns := v.tallies.manualTurns + 1 }
                           exceptions := v.exceptions ++
                             [{ kind := .manualTurn, opening := v.cursor + 1, detail := 0, seq := none,
                                stamp := (s.found us).stamp }] }) }
                       dose := { s.core.dose with aOpen := s.core.dose.aOpen.map fun _ => 0 }
                       cap := { s.core.cap with litCount := 0 } })
               ∧ ((s.found us).pressDue .back = true → 0 < v.cursor → v.cursor ≤ 4294967295 → s.core.quiet = true →
                 s.core.dose.accrual = none → s.core.illum.view.wanted = false → s.core.illum.view.ceiling = false →
                 0 < s.core.freeExceptions →
                 ∃ t, exec (.backKey us) s = .next t
                   ∧ t.core = { (s.found us).setPressed .back with
                       vols := { s.core.vols with
                         slots := s.core.vols.slots.set i (some { v with
                           cursor := v.cursor - 1
                           exceptions := v.exceptions ++
                             [{ kind := .cursorMoved, opening := v.cursor - 1, detail := v.cursor, seq := none,
                                stamp := (s.found us).stamp }] }) }
                       dose := { s.core.dose with aOpen := s.core.dose.aOpen.map fun _ => 0 }
                       cap := { s.core.cap with litCount := 0 } })))
    ∧ (∀ (us : Nat) (i : Fin 16) (v : Volume) (s : State), s.core.vols.mounted = some i → s.core.vols.slots[i] = some v →
          v.cursor < v.leaves →
          (∀ (k : Awaited) (st : Step) (rest : List Step), (s.found us).pressDue .turned = true → s.core.seq.state = .held →
              s.core.seq.awaiting = some k → s.core.seq.queue = st :: rest → s.core.seq.op = none → s.core.seq.pause = none →
              s.core.seq.started = true → s.core.motion.arm = .parked → s.core.motion.platen = .up →
              s.core.dose.accrual = none → s.core.illum.view.wanted = false → s.core.illum.view.ceiling = false →
              0 < s.core.freeExceptions → v.tallies.manualTurns < 4294967295 → v.cursor + 1 ≤ 4294967295 →
              (st.work = .turn →
                  (s.core.faults = [] → s.core.panel.broken = false → 6 ≤ s.core.freeExceptions → rest = [] →
                      ∃ t, exec (.turnedKey us) s = .next t
                        ∧ t.core = { ((s.found us).setPressed .turned).turnedByHand i v with
                            seq := { s.core.seq.ended false with interlock := false } }
                        ∧ (s.link.tx ≠ none → s.link.reports.length + 2 ≤ 32 →
                          .panelKey .turned (s.found us).stamp (.turned v.cursor (v.cursor + 1) true) ∈ t.link.reports
                            ∧ ∃ x, .stepDone st.id .turn st.origin .done (some .manualTurn) x .none ∈ t.link.reports))
                    ∧ (∀ (next : Step) (more : List Step) (ms : Nat), s.core.faults = [] → s.core.panel.broken = false →
                      6 ≤ s.core.freeExceptions → rest = next :: more → next.gate = none → next.work = .pause ms →
                      ∃ t, exec (.turnedKey us) s = .next t
                        ∧ t.core = { ((s.found us).setPressed .turned).turnedByHand i v with
                            seq := { s.core.seq.ended false with
                              queue := rest, state := .running, interlock := false, started := true
                              pause := some { left := ms * 1000, since := some (s.found us).now } } })
                    ∧ ((s.core.faults ≠ [] ∨ s.core.panel.broken = true ∨ s.core.freeExceptions ≤ 5) →
                      ∃ t, exec (.turnedKey us) s = .next t
                        ∧ t.core = { ((s.found us).setPressed .turned).turnedByHand i v with
                            seq := { s.core.seq.ended false with
                              queue := rest, state := .held, reason := s.core.seq.reason } }))
                ∧ (∀ (stop retakes : Nat) (p : CycleProgress), st.work = .cycle stop retakes → s.core.seq.cycle = some p →
                  p.slot = i → p.inst = v.inst →
                  ((s.core.faults ≠ [] ∨ s.core.panel.broken = true ∨ s.core.freeExceptions ≤ 5) →
                      ∃ t, exec (.turnedKey us) s = .next t
                        ∧ t.core = { ((s.found us).setPressed .turned).turnedByHand i v with
                            seq := { s.core.seq with awaiting := none, cycle := some { p with pos := .A } } })
                    ∧ (s.core.faults = [] → s.core.panel.broken = false → 6 ≤ s.core.freeExceptions →
                      min stop v.leaves ≤ v.cursor → rest = [] →
                      ∃ t, exec (.turnedKey us) s = .next t
                        ∧ t.core = { ((s.found us).setPressed .turned).turnedByHand i v with
                            seq := { s.core.seq.ended false with interlock := false } })
                    ∧ (s.core.faults = [] → s.core.panel.broken = false → 6 ≤ s.core.freeExceptions →
                      v.cursor < min stop v.leaves → v.cursor + 1 ∉ v.captured → s.core.cap.attempt = none →
                      s.core.cap.mark = none → s.core.cap.ring.length < 64 → s.core.CradleReady → s.core.ConverterFree →
                      ∃ t a, exec (.turnedKey us) s = .next t
                        ∧ t.core = { (((s.found us).setPressed .turned).turnedByHand i v).lowered with
                            cap := { s.core.cap with attempt := some a, litCount := 0 }
                            seq := { s.core.seq.resumed with
                              queue := { st with work := .cycle (min stop v.leaves) retakes } :: rest, op := some .attempt
                              awaiting := none, cycle := some { p with pos := .B, lit := 0 } } }
                        ∧ a.phase = .preparing ∧ a.opening = v.cursor + 1)))
            ∧ ((s.found us).pressDue .advance = true → s.core.seq.state = .idle → s.core.seq.queue = [] →
              s.core.seq.started = false → s.core.seq.pause = none → s.core.faults = [] → 5 ≤ s.core.freeExceptions →
              v.cursor ∈ v.captured →
              (s.core.panel.broken = true → s.core.seq.interlock = false →
                  ∃ t, exec (.advance us) s = .next t
                    ∧ t.core = { (s.found us).setPressed .advance with
                        seq := { s.core.seq with
                          queue := [{ id := s.core.seq.nextId, origin := .panel, work := .turn, gate := none }]
                          nextId := stepIdAfter s.core.seq.nextId, state := .held, reason := some .interlock
                          interlock := true } })
                ∧ (s.core.CradleReady → s.core.motion.turn = none → s.core.motion.turnWait = none → s.core.motion.cRef ≠ none →
                  isFoldout v.segs (v.cursor + 1) = false →
                  ∃ t, exec (.advance us) s = .next t
                    ∧ t.core = { (s.found us).setPressed .advance with
                        motion := { s.core.motion with
                          turn := some (Turn.first v.cursor), turnWait := none, arm := .moving .lifting, stage := .descend
                          armSince := (s.found us).now }
                        seq := { s.core.seq with
                          queue := [{ id := s.core.seq.nextId, origin := .panel, work := .turn, gate := none }]
                          nextId := stepIdAfter s.core.seq.nextId, state := .running, reason := none, started := true
                          op := some .turn } }
                    ∧ (s.link.tx ≠ none → s.link.reports.length < 32 →
                      .panelKey .advance (s.found us).stamp (.queued s.core.seq.nextId .turn) ∈ t.link.reports))))
    ∧ (∀ (us : Nat) (i : Fin 16) (v : Volume) (c : Instr) (key : PanelInput) (retake : Bool) (s : State),
          s.core.vols.mounted = some i → s.core.vols.slots[i] = some v →
          ((c = .advance us ∧ key = .advance ∧ retake = false ∧ v.cursor ∉ v.captured)
            ∨ (c = .retakeKey us ∧ key = .retake ∧ retake = true)) →
          (s.found us).pressDue key = true → s.core.seq.state = .idle → s.core.seq.queue = [] → s.core.seq.started = false →
          s.core.seq.pause = none → s.core.faults = [] → 5 ≤ s.core.freeExceptions → s.core.CradleReady →
          s.core.ConverterFree → s.core.cap.attempt = none → s.core.cap.mark = none → s.core.cap.ring.length < 64 →
          s.core.illum.view.wanted = false →
          ∃ t a, exec c s = .next t
            ∧ t.core = { ((s.found us).setPressed key).lowered with
                cap := { s.core.cap with attempt := some a }
                seq := { s.core.seq with
                  queue := [{ id := s.core.seq.nextId, origin := .panel, work := .capture .auto retake, gate := none }]
                  nextId := stepIdAfter s.core.seq.nextId, state := .running, reason := none, started := true
                  op := some .attempt } }
            ∧ a.phase = .preparing ∧ a.prep = .platen ∧ a.ask = .auto ∧ a.opening = v.cursor
            ∧ a.side = SideAsked.auto.resolved v.cursor v.leaves ∧ a.interlock = false
            ∧ (s.link.tx ≠ none → s.link.reports.length < 32 →
              .panelKey key (s.found us).stamp (.queued s.core.seq.nextId .capture) ∈ t.link.reports))

/-- The debounce of an input: a change of level starts its count afresh, its first settling is no press, and a release
is taken when it has stood for the debounce time (R156). PANEL_SET takes 10, 20, 40 or 80 ms and nothing else (R157).
The tone ends 150 ms after the last refusal (R166). The inputs have settled and stand as they are debounced, for
PANEL_SET. -/
def Obligations.InputsAreDebounced : Prop :=
  ∀ (q : Req) (us ms t0 : Nat) (i : PanelInput) (level : Bool) (s : State),
    ((s.core.input i).raw ≠ level → (s.core.input i).settled = true →
        exec (.rawInputLevelChange us i level) s = .next (s.quietly
          ((s.found us).setInput i { s.core.input i with raw := level, since := (s.found us).now })))
      ∧ ((s.core.input i).settled = false →
        (s.core.input i).since + s.core.panel.debounce * 1000 ≤ (s.found us).now →
        exec (.firstSettling us i) s = .next (s.quietly
          ((s.found us).setInput i { s.core.input i with pressed := (s.core.input i).raw, settled := true })))
      ∧ ((s.core.input i).pressed = true → (s.core.input i).raw = false →
        (s.core.input i).since + s.core.panel.debounce * 1000 ≤ (s.found us).now →
        exec (.keyRelease us i) s = .next (s.quietly
          ((s.found us).setInput i { s.core.input i with pressed := false, settled := true })))
      ∧ (Taken q s → ms ∉ [10, 20, 40, 80] →
        exec (.panelSet q ms) s = .next (s.answered q 0x48 (.badField 1) .empty (s.found q.us)))
      ∧ (Taken q s → ms ∈ [10, 20, 40, 80] →
        (∀ j, (s.core.input j).settled = true ∧ (s.core.input j).pressed = (s.core.input j).raw) →
        exec (.panelSet q ms) s = .next (s.answered q 0x48 .done (.debounce ms)
          { s.found q.us with panel := { s.core.panel with debounce := ms } }))
      ∧ (s.core.panel.tone = some t0 → t0 + 150000 ≤ (s.found us).now →
        exec (.toneEnd us) s = .next (s.quietly
          { s.found us with panel := { s.core.panel with tone := none } }))

/-- The curtain, with nothing moving, waiting or stopped at the cradle, the lamps and the cameras: an interruption
makes it BROKEN, cuts off a puff, and holds a running sequencer for the interlock; 200 ms of clear time make it CLEAR;
an interruption while BROKEN clears the count, and clear light starts it (R149, R158, R178). The reports of the
curtain, with the transmitter busy and room in the report queue: the PANEL report of the break, and from a running
sequencer the HOLD report of INTERLOCK and the ASSIST report behind it; the PANEL report of the clearing (R139, R158,
R178, R179). That the PANEL report stands before the HOLD report is the model's choice (notes 16). A break of the
curtain with the fault set empty. With no flash in hand, a moving arm, cradle or platen is STOPPED where it stands
with its recorded state, its request withdrawn and a puff cut off; the angle at which the cradle stops is a free value
(notes 5); a homing ends INTERLOCK, its reply formed and the axis of its phase UNREFERENCED. With nothing moving, an
attempt not yet lit takes the interlock mark, and its camera wait is stopped; its flash in ADMITTING or THERMAL_HOLD
needs leave again, and one in METER_WAIT loses its window request and its admission and is back in ADMITTING, where it
needs leave, a calibration flash the curtain alone; a lit flash goes on (R56, R84, R95, R109, R120, R149). Other requesters of
a request so withdrawn keep waiting, for a spot. With the hold in force a capture flash in METER_WAIT goes to
THERMAL_HOLD, and a calibration flash is refused THERMAL (notes 37). The clearing of the curtain with the fault set
empty: a cradle that was stopped moves on, and so does a raise of the platen that no turn waits for, while a lowering,
a turn's raise, the arm of a turn and a flash that needs leave stay as they are; a calibration flash in ADMITTING goes
on, here to its T request; the arm of an aborted turn takes the action of its abort: what the cup holds in LIFTING and
GAUGING is put down, a sweep, a release, a return and a put-down go on, and an arm stopped by the loss of its vacuum
returns (R84, R110, R111). -/
def Obligations.CurtainIsWatched : Prop :=
  ((∀ (us t0 : Nat) (s : State), s.core.illum.flash = none → s.core.cap.attempt = none → s.core.motion.homing = none →
          s.core.motion.platen = .up → s.core.motion.angle = .atAngle → s.core.motion.arm = .parked →
          s.core.motion.lowerHeld = false → s.core.motion.turnWait = none → s.core.faults = [] → s.core.seq.pause = none →
          (s.core.panel.broken = false →
              ∃ t, exec (.curtainBroken us) s = .next t
                ∧ t.core = { s.found us with
                    panel := { s.core.panel with broken := true, rawBroken := true, clearSince := none }
                    motion := { s.core.motion with puff := none }
                    seq :=
                      if s.core.seq.state = .running ∨ s.core.seq.state = .halting then
                        { s.core.seq with state := .held, reason := some .interlock, interlock := true }
                      else s.core.seq }
                ∧ exec (.rawCurtainInputChange us true) s = .next t)
            ∧ (s.core.panel.broken = true → s.core.panel.clearSince = some t0 → t0 + 200000 ≤ (s.found us).now →
              ∃ t, exec (.curtainClear us) s = .next t
                ∧ t.core = { s.found us with panel := { s.core.panel with broken := false, clearSince := none } })
            ∧ (s.core.panel.broken = true →
              exec (.rawCurtainInputChange us true) s = .next (s.quietly
                  { s.found us with panel := { s.core.panel with rawBroken := true, clearSince := none } })
                ∧ (s.core.panel.rawBroken = true →
                  exec (.rawCurtainInputChange us false) s = .next (s.quietly
                    { s.found us with
                      panel := { s.core.panel with rawBroken := false, clearSince := some (s.found us).now } }))))
       ∧ (∀ (us t0 : Nat) (s : State), s.core.illum.flash = none → s.core.cap.attempt = none → s.core.motion.homing = none →
             s.core.motion.platen = .up → s.core.motion.angle = .atAngle → s.core.motion.arm = .parked →
             s.core.motion.lowerHeld = false → s.core.motion.turnWait = none → s.core.faults = [] → s.core.seq.pause = none →
             s.link.tx ≠ none → s.link.reports.length + 3 ≤ 32 →
             (s.core.panel.broken = false → (s.core.seq.state = .running ∨ s.core.seq.state = .halting) →
               s.core.seq.interlock = false →
                 ∃ t, exec (.curtainBroken us) s = .next t
                   ∧ t.link = { s.link with
                       reports := s.link.reports ++
                         [.panelCurtain (s.found us).stamp true,
                          .hold .interlock s.core.seq.awaiting (s.core.seq.queue.head?.map (·.id)) s.core.seq.op.isSome,
                          .assist .interlock (s.found us).stamp (s.core.seq.queue.head?.map (·.id))
                            (s.core.mounted.map fun m => (m.1.val, m.2.cursor)) none] })
               ∧ (s.core.panel.broken = false → (s.core.seq.state = .idle ∨ s.core.seq.state = .held) →
                 ∃ t, exec (.curtainBroken us) s = .next t
                   ∧ t.link = { s.link with reports := s.link.reports ++ [.panelCurtain (s.found us).stamp true] })
               ∧ (s.core.panel.broken = true → s.core.panel.clearSince = some t0 → t0 + 200000 ≤ (s.found us).now →
                 ∃ t, exec (.curtainClear us) s = .next t
                   ∧ t.link = { s.link with reports := s.link.reports ++ [.panelCurtain (s.found us).stamp false] })))
    ∧ (∀ (us : Nat) (s : State), s.core.panel.broken = false → s.core.faults = [] → s.core.seq.pause = none →
          (s.core.illum.flash = none → s.core.motion.homing = none →
              (∀ m : ArmMove, s.core.motion.arm = .moving m → ¬(m = .sweeping ∧ s.core.motion.vacuumAt = false) →
                  (∀ p, s.core.motion.platen ≠ .moving p) → s.core.motion.angle ≠ .moving → s.core.motion.lowerHeld = false →
                  s.core.motion.turnWait ≠ some .angle → s.core.meas.SpotsOnly .G →
                  ∃ t, exec (.curtainBroken us) s = .next t
                    ∧ t.core = { (s.found us).interrupted with
                        meas := s.core.meas.without .G [.gauge, .openRef]
                        motion := { s.core.motion with
                          puff := none, arm := .stopped m .curtain, armSince := (s.found us).now } })
                ∧ (∀ m : PlatenMove, s.core.motion.platen = .moving m → (∀ a, s.core.motion.arm ≠ .moving a) →
                  s.core.motion.angle ≠ .moving → s.core.motion.lowerHeld = false → s.core.motion.turnWait ≠ some .angle →
                  s.core.meas.SpotsOnly .F →
                  ∃ t, exec (.curtainBroken us) s = .next t
                    ∧ t.core = { (s.found us).interrupted with
                        meas := s.core.meas.without .F [.force]
                        motion := { s.core.motion with
                          puff := none, platen := .stopped m, platenSince := (s.found us).now } })
                ∧ (s.core.motion.angle = .moving → (∀ a, s.core.motion.arm ≠ .moving a) →
                  (∀ m, s.core.motion.platen ≠ .moving m) →
                  ∃ t pos n, exec (.curtainBroken us) s = .next t ∧ (pos = none ↔ s.core.motion.anglePos = none)
                    ∧ t.core = { (s.found us).interrupted with
                        free := n
                        motion := { s.core.motion with
                          puff := none, angle := .stopped, angleSince := (s.found us).now, anglePos := pos } }))
            ∧ (∀ (h : Homing) (pl : PlatenState) (arm : ArmState) (ang : AngleState), s.core.illum.flash = none →
              s.core.motion.homing = some h → s.core.motion.stepRaise = false → s.core.motion.lowerHeld = false →
              s.core.motion.turnWait = none →
              ((h.phase = .platen ∧ pl = .unreferenced) ∨ (h.phase ≠ .platen ∧ pl = s.core.motion.platen)) →
              ((h.phase = .arm ∧ arm = .unreferenced) ∨ (h.phase ≠ .arm ∧ arm = s.core.motion.arm)) →
              (((h.phase = .angleSensor ∨ h.phase = .angleTarget) ∧ ang = .unreferenced)
                ∨ ((h.phase ≠ .angleSensor ∧ h.phase ≠ .angleTarget) ∧ ang = s.core.motion.angle)) →
              (∀ m, pl ≠ .moving m) → (∀ m, arm ≠ .moving m) → ang ≠ .moving →
              ∃ t, exec (.curtainBroken us) s = .next t
                ∧ t.core.motion.homing = none ∧ t.core.motion.platen = pl ∧ t.core.motion.arm = arm
                ∧ t.core.motion.angle = ang ∧ t.core.motion.puff = none
                ∧ t.core.motion.platenFailed = s.core.motion.platenFailed
                ∧ t.core.motion.armFailed = s.core.motion.armFailed ∧ t.core.motion.angleFailed = s.core.motion.angleFailed
                ∧ t.core.faults = [] ∧ t.core.seq = s.core.seq.interrupted ∧ t.core.panel.broken = true
                ∧ (h.phase = .reference → s.core.meas.pending.g = some { kind := .spot, requesters := [.homingRef] } →
                  t.core.meas.pending.g = none)
                ∧ ∀ p ∈ s.link.pending, p.id = h.entry →
                  { p with reply := some { status := .done, body := .homed .interlock h.phase pl arm ang false } }
                    ∈ t.link.pending)
            ∧ (s.core.motion.homing = none → (∀ m, s.core.motion.arm ≠ .moving m) → (∀ m, s.core.motion.platen ≠ .moving m) →
              s.core.motion.angle ≠ .moving → s.core.motion.lowerHeld = false → s.core.motion.turnWait ≠ some .angle →
              (s.core.illum.flash = none ∨ s.core.illum.life = .lit →
                  ∃ t, exec (.curtainBroken us) s = .next t ∧ t.core = (s.found us).interrupted)
                ∧ (∀ (f : Flash) (side : Side), s.core.illum.flash = some f → f.by_ = .capture side →
                  (s.core.illum.life = .admitting ∨ s.core.illum.life = .thermalHold) →
                  ∃ t, exec (.curtainBroken us) s = .next t
                    ∧ t.core = { (s.found us).interrupted with
                        illum := { s.core.illum with flash := some { f with needLeave := true } } })
                ∧ (∀ (f : Flash) (e : Nat), s.core.illum.flash = some f → f.by_ = .calibration e →
                  s.core.illum.life = .admitting →
                  ∃ t, exec (.curtainBroken us) s = .next t ∧ t.core = (s.found us).interrupted)
                ∧ (∀ f : Flash, s.core.illum.flash = some f → s.core.illum.life = .meterWait →
                  (f.isCapture = true → s.core.mounted ≠ none) → s.core.illum.lampCal ≠ none → s.core.meas.cal.t ≠ none →
                  (s.core.illum.hold = false →
                      ∃ t, exec (.curtainBroken us) s = .next t
                        ∧ t.core = { (s.found us).interrupted with
                            meas := s.core.meas.without .P [.window]
                            illum := { s.core.illum with
                              life := .admitting
                              flash := some { f with
                                adm := none, tAsked := false, needLeave := f.isCapture || f.needLeave } } })
                    ∧ (s.core.illum.hold = true → f.isCapture = true →
                      ∃ t, exec (.curtainBroken us) s = .next t
                        ∧ t.core = { (s.found us).interrupted with
                            meas := s.core.meas.without .P [.window]
                            illum := { s.core.illum with
                              life := .thermalHold
                              flash := some { f with
                                adm := none, tAsked := false, needLeave := true
                                metHold := some (f.metHold.getD (s.found us).now) } } })
                    ∧ (∀ e : Nat, s.core.illum.hold = true → f.by_ = .calibration e →
                      ∃ t, exec (.curtainBroken us) s = .next t
                        ∧ t.core = { (s.found us).interrupted with
                            meas := s.core.meas.without .P [.window]
                            illum := { s.core.illum with life := .thermalHold, flash := none } }
                        ∧ ∀ p ∈ s.link.pending, p.id = e →
                          { p with
                            reply := some
                              { status := .done, body := .calFlash (.notLit { reason := .thermal, figures := none }) } }
                            ∈ t.link.pending))))
    ∧ (∀ (us t0 : Nat) (s : State), s.core.panel.broken = true → s.core.panel.clearSince = some t0 →
          t0 + 200000 ≤ (s.found us).now → s.core.faults = [] →
          ((∀ f : Flash, s.core.illum.flash = some f → s.core.illum.life = .admitting →
                f.isCapture = true ∧ f.needLeave = true) →
              (∀ u : Turn, s.core.motion.turn = some u → u.aborting = false) →
              ∃ t, exec (.curtainClear us) s = .next t
                ∧ t.core = { (s.found us).cleared with
                    motion := { s.core.motion with
                      platen :=
                        if s.core.motion.platen = .stopped .raising ∧ s.core.motion.turnWait ≠ some .raise then
                          .moving .raising
                        else s.core.motion.platen
                      platenSince :=
                        if s.core.motion.platen = .stopped .raising ∧ s.core.motion.turnWait ≠ some .raise then
                          (s.found us).now
                        else s.core.motion.platenSince
                      angle := if s.core.motion.angle = .stopped then .moving else s.core.motion.angle
                      angleSince :=
                        if s.core.motion.angle = .stopped then (s.found us).now else s.core.motion.angleSince } })
            ∧ (∀ f : Flash, (∀ m, s.core.motion.platen ≠ .stopped m) → s.core.motion.angle ≠ .stopped →
              s.core.motion.turn = none → s.core.illum.flash = some f → s.core.illum.life = .admitting →
              f.isCapture = false → f.tAsked = false → s.core.illum.hold = false → s.core.illum.lampOffAt = none →
              s.core.meas.latch.t = none → s.core.ConverterFree →
              ∃ t, exec (.curtainClear us) s = .next t
                ∧ t.core = { (s.found us).cleared with
                    illum := { s.core.illum with flash := some { f with tAsked := true } }
                    meas := { s.core.meas with
                      conv := some
                        { channel := .T, kind := .spot, requesters := [.admission], since := (s.found us).now
                          limit := 12000 } } })
            ∧ (∀ (u : Turn) (m : ArmMove), (∀ p, s.core.motion.platen ≠ .stopped p) → s.core.motion.angle ≠ .stopped →
              s.core.illum.flash = none → s.core.motion.turn = some u → u.aborting = true →
              (s.core.motion.arm = .stopped m .vacuumLost →
                  ∃ t, exec (.curtainClear us) s = .next t
                    ∧ t.core = { (s.found us).cleared with
                        motion := { s.core.motion with
                          arm := .moving .returning, stage := .travel, armSince := (s.found us).now } })
                ∧ (s.core.motion.arm = .stopped m .curtain →
                  ((m = .lifting ∨ m = .gauging) → (∀ why, s.core.motion.stage ≠ .putDown why) →
                    s.core.meas.SpotsOnly .G →
                      ∃ t, exec (.curtainClear us) s = .next t
                        ∧ t.core = { (s.found us).cleared with
                            meas := s.core.meas.without .G [.gauge, .openRef]
                            motion := { s.core.motion with
                              arm := .moving m, stage := .putDown .aborted, armSince := (s.found us).now } })
                    ∧ (((∃ why, s.core.motion.stage = .putDown why)
                        ∨ (m = .sweeping ∧ s.core.motion.stage = .sweep)
                        ∨ (m = .returning ∧ s.core.motion.stage = .travel)) →
                      ∃ t, exec (.curtainClear us) s = .next t
                        ∧ t.core = { (s.found us).cleared with
                            motion := { s.core.motion with arm := .moving m, armSince := (s.found us).now } })
                    ∧ (m = .releasing → s.core.motion.stage = .release →
                      ∃ t, exec (.curtainClear us) s = .next t
                        ∧ t.core = { (s.found us).cleared with
                            motion := { s.core.motion with
                              arm := .moving m, armSince := (s.found us).now, valveOpen := false } })
                    ∧ (m = .returning → s.core.motion.stage = .reference → s.core.ConverterFree →
                      ∃ t, exec (.curtainClear us) s = .next t
                        ∧ t.core = { (s.found us).cleared with
                            motion := { s.core.motion with arm := .moving m, armSince := (s.found us).now }
                            meas := { s.core.meas with
                              conv := some
                                { channel := .G, kind := .spot, requesters := [.openRef], since := (s.found us).now
                                  limit := 12000 } } }))))

/-! ### The activity counters -/

/-- COUNTER_SET refuses a counter outside 0 to 3 as BAD_FIELD 1; a change of event, threshold, invert or edge starts
the count afresh, and a change of enable alone keeps it (R180). COUNTER_GET returns the four counters and clears those
marked (R183); that bit n of its mask marks counter n is notes 10. BANDS_SET takes four ascending thresholds from 1 to
200,000 and refuses the first one at fault (R185). A counter takes an event of its kind while it is enabled, and no
other: it adds 1, or the depth of the step queue for a QUEUE_DEPTH of threshold 0, and stops at 2^32 - 1 with its
overflow flag set (R181, R183, R184). The queue is sampled every 100 ms, and each millisecond that finds the view
light LIT or the thermal hold in force is counted (R184). BANDS_SET names the first threshold outside 1 to 200,000,
and with all four inside it the first that is not above the one before it. -/
def Obligations.CountersAreSetReadAndCount : Prop :=
  ((∀ (q : Req) (i : Fin 4) (n code : Nat) (e : CounterEvent) (th : Int) (en inv ed : Bool) (mask : Mask)
          (t1 t2 t3 t4 : Nat) (s : State), Taken q s →
          (4 ≤ n → exec (.counterSet q n mask en code th inv ed) s =
              .next (s.answered q 0x50 (.badField 1) .empty (s.found q.us)))
            ∧ (counterEventCodes[code]? = some e →
              exec (.counterSet q i.val 0x3E#16 en code th inv ed) s =
                let c : Counter :=
                  if (s.counters[i]).event = e ∧ (s.counters[i]).threshold = th ∧ (s.counters[i]).invert = inv
                      ∧ (s.counters[i]).edge = ed then { s.counters[i] with enable := en }
                  else { value := 0, overflow := false, enable := en, event := e, threshold := th, invert := inv, edge := ed
                         memory := false }
                .next { s.answered q 0x50 .done (.counter c) (s.found q.us) with counters := s.counters.set i c })
            ∧ exec (.counterGet q mask) s =
                .next { s.answered q 0x51 .done (.counters s.counters.toList) (s.found q.us) with
                  counters := Vector.ofFn fun j : Fin 4 =>
                    if mask.getLsbD j then { s.counters[j] with value := 0, overflow := false } else s.counters[j] }
            ∧ (1 ≤ t1 → t1 < t2 → t2 < t3 → t3 < t4 → t4 ≤ 200000 →
              exec (.bandsSet q t1 t2 t3 t4) s = .next
                (s.answered q 0x52 .done (.bands { t1 := t1, t2 := t2, t3 := t3, t4 := t4 })
                  { s.found q.us with bands := { t1 := t1, t2 := t2, t3 := t3, t4 := t4 } }))
            ∧ ((t1 = 0 ∨ 200000 < t1) →
              exec (.bandsSet q t1 t2 t3 t4) s = .next (s.answered q 0x52 (.badField 1) .empty (s.found q.us))))
       ∧ (∀ (us : Nat) (s : State),
             (s.core.depthAt + 100000 ≤ (s.found us).now →
                 exec (.queueDepthSample us) s = .next { s.quietly
                     { s.found us with depthAt := s.core.depthAt + 100000 } with
                   counters := s.counters.map fun c => c.take .queueDepth s.core.seq.queue.length })
               ∧ (s.core.illum.view.state ≠ .lit → s.core.illum.hold = false →
                 exec .msTick s = .next (s.quietly { s.core with now := (s.core.now / 1000 + 1) * 1000 }))
               ∧ (s.core.illum.view.state = .lit → s.core.illum.hold = false →
                 exec .msTick s = .next { s.quietly { s.core with now := (s.core.now / 1000 + 1) * 1000 } with
                   counters := s.counters.map fun c => c.take .viewLightMs 0 })
               ∧ (s.core.illum.view.state ≠ .lit → s.core.illum.hold = true →
                 exec .msTick s = .next { s.quietly { s.core with now := (s.core.now / 1000 + 1) * 1000 } with
                   counters := s.counters.map fun c => c.take .thermalHoldMs 0 })
               ∧ ∀ (c : Counter) (e : CounterEvent) (n : Int),
                 ((c.enable = false ∨ c.event ≠ e) → c.take e n = c)
                   ∧ (c.enable = true → c.event = e → e ∉ [.flashLux, .tempSamples, .queueDepth] → c.value < 4294967295 →
                     c.take e n = { c with value := c.value + 1 })
                   ∧ (c.enable = true → c.event = e → e ∉ [.flashLux, .tempSamples, .queueDepth] → c.value = 4294967295 →
                     c.take e n = { c with overflow := true })
                   ∧ (∀ d : Nat, c.enable = true → c.event = .queueDepth → c.threshold = 0 → c.value + d ≤ 4294967295 →
                     c.take .queueDepth d = { c with value := c.value + d })))
    ∧ (∀ (q : Req) (t1 t2 t3 t4 n : Nat) (s : State), Taken q s →
          ((1 ≤ t1 ∧ t1 ≤ 200000 ∧ (t2 = 0 ∨ 200000 < t2) ∧ n = 2)
            ∨ (1 ≤ t1 ∧ t1 ≤ 200000 ∧ 1 ≤ t2 ∧ t2 ≤ 200000 ∧ (t3 = 0 ∨ 200000 < t3) ∧ n = 3)
            ∨ (1 ≤ t1 ∧ t1 ≤ 200000 ∧ 1 ≤ t2 ∧ t2 ≤ 200000 ∧ 1 ≤ t3 ∧ t3 ≤ 200000 ∧ (t4 = 0 ∨ 200000 < t4) ∧ n = 4)
            ∨ (1 ≤ t1 ∧ t1 ≤ 200000 ∧ 1 ≤ t2 ∧ t2 ≤ 200000 ∧ 1 ≤ t3 ∧ t3 ≤ 200000 ∧ 1 ≤ t4 ∧ t4 ≤ 200000
              ∧ ((t2 ≤ t1 ∧ n = 2) ∨ (t1 < t2 ∧ t3 ≤ t2 ∧ n = 3) ∨ (t1 < t2 ∧ t2 < t3 ∧ t4 ≤ t3 ∧ n = 4)))) →
          exec (.bandsSet q t1 t2 t3 t4) s = .next (s.answered q 0x52 (.badField n) .empty (s.found q.us)))

/-- The threshold events: each sample is compared, inverted when invert is set, and counted at each sample or, with
edge set, at the first of a run; the memory takes the condition, is false at power-on and after a reset of the count,
and is kept while the counter is disabled; invert and edge act in no other event (R182). -/
def Obligations.SamplesAreCompared : Prop :=
  (∀ (c : Counter) (e : CounterEvent) (x : Int), c.enable = true → c.event = e →
    (e = .flashLux ∨ e = .tempSamples ∨ (e = .queueDepth ∧ c.threshold ≠ 0)) →
    ((c.take e x).memory = true ↔ ((c.threshold ≤ x ∧ c.invert = false) ∨ (x < c.threshold ∧ c.invert = true)))
      ∧ c.take e x = { (if (c.take e x).memory = true ∧ (c.edge = false ∨ c.memory = false) then c.add 1 else c) with
          memory := (c.take e x).memory })
    ∧ (∀ (c : Counter) (e : CounterEvent) (x : Int), c.enable = false → c.take e x = c)
    ∧ (∀ (c : Counter) (e : CounterEvent) (x : Int) (inv ed : Bool),
      e ≠ .flashLux → e ≠ .tempSamples → (e = .queueDepth → c.threshold = 0) →
      ({ c with invert := inv, edge := ed }.take e x) = { c.take e x with invert := inv, edge := ed })
    ∧ (∀ i : Fin 4, (State.reset.counters[i]).memory = false)
    ∧ (∀ (m : Mask) (en : Bool) (e : CounterEvent) (th : Int) (inv ed : Bool) (c : Counter),
      ((counterForm m en e th inv ed c).event ≠ c.event ∨ (counterForm m en e th inv ed c).threshold ≠ c.threshold
        ∨ (counterForm m en e th inv ed c).invert ≠ c.invert ∨ (counterForm m en e th inv ed c).edge ≠ c.edge) →
      (counterForm m en e th inv ed c).memory = false ∧ (counterForm m en e th inv ed c).value = 0)
end

