-- ==== Sys2Proof/Laws/State.lean ====
section
/-! SUPPORT. What the named updates of the state leave, field by field. -/

namespace Sys2Proof.Machine

/-! ### The instant of a command -/

@[simp] theorem Core.atUs_now (us : Nat) (s : Core) : (s.atUs us).now = max s.now (s.now / 1000 * 1000 + min us 999) := rfl
@[simp] theorem Core.atUs_depthAt (us : Nat) (s : Core) : (s.atUs us).depthAt = s.depthAt := rfl
@[simp] theorem Core.atUs_free (us : Nat) (s : Core) : (s.atUs us).free = s.free := rfl
@[simp] theorem Core.atUs_vols (us : Nat) (s : Core) : (s.atUs us).vols = s.vols := rfl
@[simp] theorem Core.atUs_dose (us : Nat) (s : Core) : (s.atUs us).dose = s.dose := rfl
@[simp] theorem Core.atUs_meas (us : Nat) (s : Core) : (s.atUs us).meas = s.meas := rfl
@[simp] theorem Core.atUs_illum (us : Nat) (s : Core) : (s.atUs us).illum = s.illum := rfl
@[simp] theorem Core.atUs_motion (us : Nat) (s : Core) : (s.atUs us).motion = s.motion := rfl
@[simp] theorem Core.atUs_cap (us : Nat) (s : Core) : (s.atUs us).cap = s.cap := rfl
@[simp] theorem Core.atUs_seq (us : Nat) (s : Core) : (s.atUs us).seq = s.seq := rfl
@[simp] theorem Core.atUs_faults (us : Nat) (s : Core) : (s.atUs us).faults = s.faults := rfl
@[simp] theorem Core.atUs_first (us : Nat) (s : Core) : (s.atUs us).first = s.first := rfl
@[simp] theorem Core.atUs_panel (us : Nat) (s : Core) : (s.atUs us).panel = s.panel := rfl
@[simp] theorem Core.atUs_bands (us : Nat) (s : Core) : (s.atUs us).bands = s.bands := rfl
@[simp] theorem Core.atUs_out (us : Nat) (s : Core) : (s.atUs us).out = s.out := rfl
@[simp] theorem Core.atUs_sig (us : Nat) (s : Core) : (s.atUs us).sig = s.sig := rfl

/-! ### A message -/

@[simp] theorem Core.emit_now (o : Out) (s : Core) : (s.emit o).now = s.now := rfl
@[simp] theorem Core.emit_depthAt (o : Out) (s : Core) : (s.emit o).depthAt = s.depthAt := rfl
@[simp] theorem Core.emit_free (o : Out) (s : Core) : (s.emit o).free = s.free := rfl
@[simp] theorem Core.emit_vols (o : Out) (s : Core) : (s.emit o).vols = s.vols := rfl
@[simp] theorem Core.emit_dose (o : Out) (s : Core) : (s.emit o).dose = s.dose := rfl
@[simp] theorem Core.emit_meas (o : Out) (s : Core) : (s.emit o).meas = s.meas := rfl
@[simp] theorem Core.emit_illum (o : Out) (s : Core) : (s.emit o).illum = s.illum := rfl
@[simp] theorem Core.emit_motion (o : Out) (s : Core) : (s.emit o).motion = s.motion := rfl
@[simp] theorem Core.emit_cap (o : Out) (s : Core) : (s.emit o).cap = s.cap := rfl
@[simp] theorem Core.emit_seq (o : Out) (s : Core) : (s.emit o).seq = s.seq := rfl
@[simp] theorem Core.emit_faults (o : Out) (s : Core) : (s.emit o).faults = s.faults := rfl
@[simp] theorem Core.emit_first (o : Out) (s : Core) : (s.emit o).first = s.first := rfl
@[simp] theorem Core.emit_panel (o : Out) (s : Core) : (s.emit o).panel = s.panel := rfl
@[simp] theorem Core.emit_bands (o : Out) (s : Core) : (s.emit o).bands = s.bands := rfl
@[simp] theorem Core.emit_out (o : Out) (s : Core) : (s.emit o).out = s.out ++ [o] := rfl
@[simp] theorem Core.emit_sig (o : Out) (s : Core) : (s.emit o).sig = s.sig := rfl

/-! ### A report -/

@[simp] theorem Core.report_now (r : Report) (s : Core) : (s.report r).now = s.now := rfl
@[simp] theorem Core.report_depthAt (r : Report) (s : Core) : (s.report r).depthAt = s.depthAt := rfl
@[simp] theorem Core.report_free (r : Report) (s : Core) : (s.report r).free = s.free := rfl
@[simp] theorem Core.report_vols (r : Report) (s : Core) : (s.report r).vols = s.vols := rfl
@[simp] theorem Core.report_dose (r : Report) (s : Core) : (s.report r).dose = s.dose := rfl
@[simp] theorem Core.report_meas (r : Report) (s : Core) : (s.report r).meas = s.meas := rfl
@[simp] theorem Core.report_illum (r : Report) (s : Core) : (s.report r).illum = s.illum := rfl
@[simp] theorem Core.report_motion (r : Report) (s : Core) : (s.report r).motion = s.motion := rfl
@[simp] theorem Core.report_cap (r : Report) (s : Core) : (s.report r).cap = s.cap := rfl
@[simp] theorem Core.report_seq (r : Report) (s : Core) : (s.report r).seq = s.seq := rfl
@[simp] theorem Core.report_faults (r : Report) (s : Core) : (s.report r).faults = s.faults := rfl
@[simp] theorem Core.report_first (r : Report) (s : Core) : (s.report r).first = s.first := rfl
@[simp] theorem Core.report_panel (r : Report) (s : Core) : (s.report r).panel = s.panel := rfl
@[simp] theorem Core.report_bands (r : Report) (s : Core) : (s.report r).bands = s.bands := rfl
@[simp] theorem Core.report_out (r : Report) (s : Core) : (s.report r).out = s.out ++ [.report r] := rfl
@[simp] theorem Core.report_sig (r : Report) (s : Core) : (s.report r).sig = s.sig := rfl

/-! ### A reply -/

@[simp] theorem Core.reply_now (e : Nat) (st : Status) (b : Body) (s : Core) : (s.reply e st b).now = s.now := rfl
@[simp] theorem Core.reply_depthAt (e : Nat) (st : Status) (b : Body) (s : Core) : (s.reply e st b).depthAt = s.depthAt := rfl
@[simp] theorem Core.reply_free (e : Nat) (st : Status) (b : Body) (s : Core) : (s.reply e st b).free = s.free := rfl
@[simp] theorem Core.reply_vols (e : Nat) (st : Status) (b : Body) (s : Core) : (s.reply e st b).vols = s.vols := rfl
@[simp] theorem Core.reply_dose (e : Nat) (st : Status) (b : Body) (s : Core) : (s.reply e st b).dose = s.dose := rfl
@[simp] theorem Core.reply_meas (e : Nat) (st : Status) (b : Body) (s : Core) : (s.reply e st b).meas = s.meas := rfl
@[simp] theorem Core.reply_illum (e : Nat) (st : Status) (b : Body) (s : Core) : (s.reply e st b).illum = s.illum := rfl
@[simp] theorem Core.reply_motion (e : Nat) (st : Status) (b : Body) (s : Core) : (s.reply e st b).motion = s.motion := rfl
@[simp] theorem Core.reply_cap (e : Nat) (st : Status) (b : Body) (s : Core) : (s.reply e st b).cap = s.cap := rfl
@[simp] theorem Core.reply_seq (e : Nat) (st : Status) (b : Body) (s : Core) : (s.reply e st b).seq = s.seq := rfl
@[simp] theorem Core.reply_faults (e : Nat) (st : Status) (b : Body) (s : Core) : (s.reply e st b).faults = s.faults := rfl
@[simp] theorem Core.reply_first (e : Nat) (st : Status) (b : Body) (s : Core) : (s.reply e st b).first = s.first := rfl
@[simp] theorem Core.reply_panel (e : Nat) (st : Status) (b : Body) (s : Core) : (s.reply e st b).panel = s.panel := rfl
@[simp] theorem Core.reply_bands (e : Nat) (st : Status) (b : Body) (s : Core) : (s.reply e st b).bands = s.bands := rfl
@[simp] theorem Core.reply_out (e : Nat) (st : Status) (b : Body) (s : Core) : (s.reply e st b).out = s.out ++ [.reply e { status := st, body := b }] := rfl
@[simp] theorem Core.reply_sig (e : Nat) (st : Status) (b : Body) (s : Core) : (s.reply e st b).sig = s.sig := rfl

/-! ### A count -/

@[simp] theorem Core.tell_now (e : CounterEvent) (n : Int) (s : Core) : (s.tell e n).now = s.now := rfl
@[simp] theorem Core.tell_depthAt (e : CounterEvent) (n : Int) (s : Core) : (s.tell e n).depthAt = s.depthAt := rfl
@[simp] theorem Core.tell_free (e : CounterEvent) (n : Int) (s : Core) : (s.tell e n).free = s.free := rfl
@[simp] theorem Core.tell_vols (e : CounterEvent) (n : Int) (s : Core) : (s.tell e n).vols = s.vols := rfl
@[simp] theorem Core.tell_dose (e : CounterEvent) (n : Int) (s : Core) : (s.tell e n).dose = s.dose := rfl
@[simp] theorem Core.tell_meas (e : CounterEvent) (n : Int) (s : Core) : (s.tell e n).meas = s.meas := rfl
@[simp] theorem Core.tell_illum (e : CounterEvent) (n : Int) (s : Core) : (s.tell e n).illum = s.illum := rfl
@[simp] theorem Core.tell_motion (e : CounterEvent) (n : Int) (s : Core) : (s.tell e n).motion = s.motion := rfl
@[simp] theorem Core.tell_cap (e : CounterEvent) (n : Int) (s : Core) : (s.tell e n).cap = s.cap := rfl
@[simp] theorem Core.tell_seq (e : CounterEvent) (n : Int) (s : Core) : (s.tell e n).seq = s.seq := rfl
@[simp] theorem Core.tell_faults (e : CounterEvent) (n : Int) (s : Core) : (s.tell e n).faults = s.faults := rfl
@[simp] theorem Core.tell_first (e : CounterEvent) (n : Int) (s : Core) : (s.tell e n).first = s.first := rfl
@[simp] theorem Core.tell_panel (e : CounterEvent) (n : Int) (s : Core) : (s.tell e n).panel = s.panel := rfl
@[simp] theorem Core.tell_bands (e : CounterEvent) (n : Int) (s : Core) : (s.tell e n).bands = s.bands := rfl
@[simp] theorem Core.tell_out (e : CounterEvent) (n : Int) (s : Core) : (s.tell e n).out = s.out ++ [.count e n] := rfl
@[simp] theorem Core.tell_sig (e : CounterEvent) (n : Int) (s : Core) : (s.tell e n).sig = s.sig := rfl

/-! ### An answer -/

@[simp] theorem Core.signal_now (g : Signal) (s : Core) : (s.signal g).now = s.now := rfl
@[simp] theorem Core.signal_depthAt (g : Signal) (s : Core) : (s.signal g).depthAt = s.depthAt := rfl
@[simp] theorem Core.signal_free (g : Signal) (s : Core) : (s.signal g).free = s.free := rfl
@[simp] theorem Core.signal_vols (g : Signal) (s : Core) : (s.signal g).vols = s.vols := rfl
@[simp] theorem Core.signal_dose (g : Signal) (s : Core) : (s.signal g).dose = s.dose := rfl
@[simp] theorem Core.signal_meas (g : Signal) (s : Core) : (s.signal g).meas = s.meas := rfl
@[simp] theorem Core.signal_illum (g : Signal) (s : Core) : (s.signal g).illum = s.illum := rfl
@[simp] theorem Core.signal_motion (g : Signal) (s : Core) : (s.signal g).motion = s.motion := rfl
@[simp] theorem Core.signal_cap (g : Signal) (s : Core) : (s.signal g).cap = s.cap := rfl
@[simp] theorem Core.signal_seq (g : Signal) (s : Core) : (s.signal g).seq = s.seq := rfl
@[simp] theorem Core.signal_faults (g : Signal) (s : Core) : (s.signal g).faults = s.faults := rfl
@[simp] theorem Core.signal_first (g : Signal) (s : Core) : (s.signal g).first = s.first := rfl
@[simp] theorem Core.signal_panel (g : Signal) (s : Core) : (s.signal g).panel = s.panel := rfl
@[simp] theorem Core.signal_bands (g : Signal) (s : Core) : (s.signal g).bands = s.bands := rfl
@[simp] theorem Core.signal_out (g : Signal) (s : Core) : (s.signal g).out = s.out := rfl
@[simp] theorem Core.signal_sig (g : Signal) (s : Core) : (s.signal g).sig = s.sig ++ [g] := rfl

/-! ### A slot -/

@[simp] theorem Core.setSlot_now (i : Fin 16) (v : Option Volume) (s : Core) : (s.setSlot i v).now = s.now := rfl
@[simp] theorem Core.setSlot_depthAt (i : Fin 16) (v : Option Volume) (s : Core) : (s.setSlot i v).depthAt = s.depthAt := rfl
@[simp] theorem Core.setSlot_free (i : Fin 16) (v : Option Volume) (s : Core) : (s.setSlot i v).free = s.free := rfl
@[simp] theorem Core.setSlot_vols (i : Fin 16) (v : Option Volume) (s : Core) : (s.setSlot i v).vols = { s.vols with slots := s.vols.slots.set i v } := rfl
@[simp] theorem Core.setSlot_dose (i : Fin 16) (v : Option Volume) (s : Core) : (s.setSlot i v).dose = s.dose := rfl
@[simp] theorem Core.setSlot_meas (i : Fin 16) (v : Option Volume) (s : Core) : (s.setSlot i v).meas = s.meas := rfl
@[simp] theorem Core.setSlot_illum (i : Fin 16) (v : Option Volume) (s : Core) : (s.setSlot i v).illum = s.illum := rfl
@[simp] theorem Core.setSlot_motion (i : Fin 16) (v : Option Volume) (s : Core) : (s.setSlot i v).motion = s.motion := rfl
@[simp] theorem Core.setSlot_cap (i : Fin 16) (v : Option Volume) (s : Core) : (s.setSlot i v).cap = s.cap := rfl
@[simp] theorem Core.setSlot_seq (i : Fin 16) (v : Option Volume) (s : Core) : (s.setSlot i v).seq = s.seq := rfl
@[simp] theorem Core.setSlot_faults (i : Fin 16) (v : Option Volume) (s : Core) : (s.setSlot i v).faults = s.faults := rfl
@[simp] theorem Core.setSlot_first (i : Fin 16) (v : Option Volume) (s : Core) : (s.setSlot i v).first = s.first := rfl
@[simp] theorem Core.setSlot_panel (i : Fin 16) (v : Option Volume) (s : Core) : (s.setSlot i v).panel = s.panel := rfl
@[simp] theorem Core.setSlot_bands (i : Fin 16) (v : Option Volume) (s : Core) : (s.setSlot i v).bands = s.bands := rfl
@[simp] theorem Core.setSlot_out (i : Fin 16) (v : Option Volume) (s : Core) : (s.setSlot i v).out = s.out := rfl
@[simp] theorem Core.setSlot_sig (i : Fin 16) (v : Option Volume) (s : Core) : (s.setSlot i v).sig = s.sig := rfl

/-! ### The flash in hand -/

@[simp] theorem Core.setFlash_now (l : Lifecycle) (f : Option Flash) (s : Core) : (s.setFlash l f).now = s.now := rfl
@[simp] theorem Core.setFlash_depthAt (l : Lifecycle) (f : Option Flash) (s : Core) : (s.setFlash l f).depthAt = s.depthAt := rfl
@[simp] theorem Core.setFlash_free (l : Lifecycle) (f : Option Flash) (s : Core) : (s.setFlash l f).free = s.free := rfl
@[simp] theorem Core.setFlash_vols (l : Lifecycle) (f : Option Flash) (s : Core) : (s.setFlash l f).vols = s.vols := rfl
@[simp] theorem Core.setFlash_dose (l : Lifecycle) (f : Option Flash) (s : Core) : (s.setFlash l f).dose = s.dose := rfl
@[simp] theorem Core.setFlash_meas (l : Lifecycle) (f : Option Flash) (s : Core) : (s.setFlash l f).meas = s.meas := rfl
@[simp] theorem Core.setFlash_illum (l : Lifecycle) (f : Option Flash) (s : Core) : (s.setFlash l f).illum = { s.illum with life := l, flash := f } := rfl
@[simp] theorem Core.setFlash_motion (l : Lifecycle) (f : Option Flash) (s : Core) : (s.setFlash l f).motion = s.motion := rfl
@[simp] theorem Core.setFlash_cap (l : Lifecycle) (f : Option Flash) (s : Core) : (s.setFlash l f).cap = s.cap := rfl
@[simp] theorem Core.setFlash_seq (l : Lifecycle) (f : Option Flash) (s : Core) : (s.setFlash l f).seq = s.seq := rfl
@[simp] theorem Core.setFlash_faults (l : Lifecycle) (f : Option Flash) (s : Core) : (s.setFlash l f).faults = s.faults := rfl
@[simp] theorem Core.setFlash_first (l : Lifecycle) (f : Option Flash) (s : Core) : (s.setFlash l f).first = s.first := rfl
@[simp] theorem Core.setFlash_panel (l : Lifecycle) (f : Option Flash) (s : Core) : (s.setFlash l f).panel = s.panel := rfl
@[simp] theorem Core.setFlash_bands (l : Lifecycle) (f : Option Flash) (s : Core) : (s.setFlash l f).bands = s.bands := rfl
@[simp] theorem Core.setFlash_out (l : Lifecycle) (f : Option Flash) (s : Core) : (s.setFlash l f).out = s.out := rfl
@[simp] theorem Core.setFlash_sig (l : Lifecycle) (f : Option Flash) (s : Core) : (s.setFlash l f).sig = s.sig := rfl

/-! ### The attempt in hand -/

@[simp] theorem Core.setAttempt_now (a : Attempt) (s : Core) : (s.setAttempt a).now = s.now := rfl
@[simp] theorem Core.setAttempt_depthAt (a : Attempt) (s : Core) : (s.setAttempt a).depthAt = s.depthAt := rfl
@[simp] theorem Core.setAttempt_free (a : Attempt) (s : Core) : (s.setAttempt a).free = s.free := rfl
@[simp] theorem Core.setAttempt_vols (a : Attempt) (s : Core) : (s.setAttempt a).vols = s.vols := rfl
@[simp] theorem Core.setAttempt_dose (a : Attempt) (s : Core) : (s.setAttempt a).dose = s.dose := rfl
@[simp] theorem Core.setAttempt_meas (a : Attempt) (s : Core) : (s.setAttempt a).meas = s.meas := rfl
@[simp] theorem Core.setAttempt_illum (a : Attempt) (s : Core) : (s.setAttempt a).illum = s.illum := rfl
@[simp] theorem Core.setAttempt_motion (a : Attempt) (s : Core) : (s.setAttempt a).motion = s.motion := rfl
@[simp] theorem Core.setAttempt_cap (a : Attempt) (s : Core) : (s.setAttempt a).cap = { s.cap with attempt := some a } := rfl
@[simp] theorem Core.setAttempt_seq (a : Attempt) (s : Core) : (s.setAttempt a).seq = s.seq := rfl
@[simp] theorem Core.setAttempt_faults (a : Attempt) (s : Core) : (s.setAttempt a).faults = s.faults := rfl
@[simp] theorem Core.setAttempt_first (a : Attempt) (s : Core) : (s.setAttempt a).first = s.first := rfl
@[simp] theorem Core.setAttempt_panel (a : Attempt) (s : Core) : (s.setAttempt a).panel = s.panel := rfl
@[simp] theorem Core.setAttempt_bands (a : Attempt) (s : Core) : (s.setAttempt a).bands = s.bands := rfl
@[simp] theorem Core.setAttempt_out (a : Attempt) (s : Core) : (s.setAttempt a).out = s.out := rfl
@[simp] theorem Core.setAttempt_sig (a : Attempt) (s : Core) : (s.setAttempt a).sig = s.sig := rfl

/-! ### The sequencer state -/

@[simp] theorem Core.setSeq_now (st : SeqState) (s : Core) : (s.setSeq st).now = s.now := rfl
@[simp] theorem Core.setSeq_depthAt (st : SeqState) (s : Core) : (s.setSeq st).depthAt = s.depthAt := rfl
@[simp] theorem Core.setSeq_free (st : SeqState) (s : Core) : (s.setSeq st).free = s.free := rfl
@[simp] theorem Core.setSeq_vols (st : SeqState) (s : Core) : (s.setSeq st).vols = s.vols := rfl
@[simp] theorem Core.setSeq_dose (st : SeqState) (s : Core) : (s.setSeq st).dose = s.dose := rfl
@[simp] theorem Core.setSeq_meas (st : SeqState) (s : Core) : (s.setSeq st).meas = s.meas := rfl
@[simp] theorem Core.setSeq_illum (st : SeqState) (s : Core) : (s.setSeq st).illum = s.illum := rfl
@[simp] theorem Core.setSeq_motion (st : SeqState) (s : Core) : (s.setSeq st).motion = s.motion := rfl
@[simp] theorem Core.setSeq_cap (st : SeqState) (s : Core) : (s.setSeq st).cap = s.cap := rfl
@[simp] theorem Core.setSeq_seq (st : SeqState) (s : Core) : (s.setSeq st).seq = { s.seq with state := st, reason := none } := rfl
@[simp] theorem Core.setSeq_faults (st : SeqState) (s : Core) : (s.setSeq st).faults = s.faults := rfl
@[simp] theorem Core.setSeq_first (st : SeqState) (s : Core) : (s.setSeq st).first = s.first := rfl
@[simp] theorem Core.setSeq_panel (st : SeqState) (s : Core) : (s.setSeq st).panel = s.panel := rfl
@[simp] theorem Core.setSeq_bands (st : SeqState) (s : Core) : (s.setSeq st).bands = s.bands := rfl
@[simp] theorem Core.setSeq_out (st : SeqState) (s : Core) : (s.setSeq st).out = s.out := rfl
@[simp] theorem Core.setSeq_sig (st : SeqState) (s : Core) : (s.setSeq st).sig = s.sig := rfl

/-! ### The operation in hand -/

@[simp] theorem Core.setOp_now (op : Option Operation) (s : Core) : (s.setOp op).now = s.now := rfl
@[simp] theorem Core.setOp_depthAt (op : Option Operation) (s : Core) : (s.setOp op).depthAt = s.depthAt := rfl
@[simp] theorem Core.setOp_free (op : Option Operation) (s : Core) : (s.setOp op).free = s.free := rfl
@[simp] theorem Core.setOp_vols (op : Option Operation) (s : Core) : (s.setOp op).vols = s.vols := rfl
@[simp] theorem Core.setOp_dose (op : Option Operation) (s : Core) : (s.setOp op).dose = s.dose := rfl
@[simp] theorem Core.setOp_meas (op : Option Operation) (s : Core) : (s.setOp op).meas = s.meas := rfl
@[simp] theorem Core.setOp_illum (op : Option Operation) (s : Core) : (s.setOp op).illum = s.illum := rfl
@[simp] theorem Core.setOp_motion (op : Option Operation) (s : Core) : (s.setOp op).motion = s.motion := rfl
@[simp] theorem Core.setOp_cap (op : Option Operation) (s : Core) : (s.setOp op).cap = s.cap := rfl
@[simp] theorem Core.setOp_seq (op : Option Operation) (s : Core) : (s.setOp op).seq = { s.seq with op := op } := rfl
@[simp] theorem Core.setOp_faults (op : Option Operation) (s : Core) : (s.setOp op).faults = s.faults := rfl
@[simp] theorem Core.setOp_first (op : Option Operation) (s : Core) : (s.setOp op).first = s.first := rfl
@[simp] theorem Core.setOp_panel (op : Option Operation) (s : Core) : (s.setOp op).panel = s.panel := rfl
@[simp] theorem Core.setOp_bands (op : Option Operation) (s : Core) : (s.setOp op).bands = s.bands := rfl
@[simp] theorem Core.setOp_out (op : Option Operation) (s : Core) : (s.setOp op).out = s.out := rfl
@[simp] theorem Core.setOp_sig (op : Option Operation) (s : Core) : (s.setOp op).sig = s.sig := rfl

end Sys2Proof.Machine
end

