-- ==== Sys2Proof/Laws/Link.lean ====
section
/-! SUPPORT. The end of a command and the taking of a request: what each can do, said once. -/

namespace Sys2Proof.Machine

/-! ### Taking answers up -/

theorem Core.settleWithin_of_sig_nil (n : Nat) (s : Core) (h : s.sig = []) : s.settleWithin n = s := by
  cases n <;> simp [Core.settleWithin, h]

/-- With no answer handed between the units, nothing is taken up. -/
theorem Core.settle_of_sig_nil (s : Core) (h : s.sig = []) : s.settle = s :=
  Core.settleWithin_of_sig_nil 256 s h

theorem Core.settleWithin_cons (n : Nat) (s : Core) (g : Signal) (rest : List Signal) (h : s.sig = g :: rest) :
    s.settleWithin (n + 1) = Core.settleWithin n ({ s with sig := rest }.handle g) := by
  simp [Core.settleWithin, h]

/-! ### Messages -/

/-- A message leaves everything of the link port but the reports, the replies and the count of dropped reports. -/
theorem Link.take_keeps (l : Link) (o : Out) :
    (l.take o).parser = l.parser ∧ (l.take o).tx = l.tx ∧ (l.take o).fragments = l.fragments
      ∧ (l.take o).checkErrors = l.checkErrors ∧ (l.take o).droppedRequests = l.droppedRequests
      ∧ (l.take o).lineBroken = l.lineBroken ∧ (l.take o).nextEntry = l.nextEntry
      ∧ (l.take o).pending.map (·.id) = l.pending.map (·.id) := by
  cases o with
  | report r => simp only [Link.take, Link.push]; split <;> simp
  | reply e r =>
    simp only [Link.take, Link.form, List.map_map, true_and]
    apply List.map_congr_left
    intro p _
    simp only [Function.comp]
    split <;> rfl
  | count e n => simp [Link.take]

/-- The next frame, if any, is all that the transmitter takes. -/
theorem Link.pump_keeps (l : Link) :
    l.pump.parser = l.parser ∧ l.pump.pending = l.pending ∧ l.pump.fragments = l.fragments
      ∧ l.pump.checkErrors = l.checkErrors ∧ l.pump.droppedReports = l.droppedReports
      ∧ l.pump.droppedRequests = l.droppedRequests ∧ l.pump.lineBroken = l.lineBroken
      ∧ l.pump.nextEntry = l.nextEntry ∧ l.pump.reports.length ≤ l.reports.length := by
  unfold Link.pump
  split
  · simp
  · split <;> simp_all

@[simp] theorem Link.pump_pending (l : Link) : l.pump.pending = l.pending := l.pump_keeps.2.1

/-! ### One command's end -/

theorem State.run_core (f : Core → Core) (s : State) :
    (s.run f).core = { (f { s.core with out := [], sig := [] }).settle with out := [], sig := [] } := rfl

theorem State.run_pending (f : Core → Core) (s : State) : (s.run f).pending = s.pending := rfl

/-- A change that hands nothing between the units is carried out as it is. -/
theorem State.run_of_sig_nil (f : Core → Core) (s : State) (c : Core)
    (hf : f { s.core with out := [], sig := [] } = c) (hs : c.sig = []) :
    s.run f = { s with
      core := { c with out := [], sig := [] }
      link := (c.out.foldl Link.take s.link).pump
      counters := c.out.foldl takeCounts s.counters } := by
  simp [State.run, State.commit, hf, Core.settle_of_sig_nil c hs]

/-- A change that hands nothing over at all. -/
theorem State.event_quietly (us : Nat) (f : Core → Core) (s : State) (c : Core) (hf : f (s.found us) = c)
    (ho : c.out = []) (hs : c.sig = []) : s.event us f = s.quietly c := by
  unfold State.event
  rw [State.run_of_sig_nil _ _ c hf hs]
  simp [ho, State.quietly]

/-! ### Requests -/

theorem State.request_taken (q : Req) (kind : Byte) (owner : Nat → State → State) (s : State) (h : Taken q s) :
    s.request q kind owner =
      owner s.link.nextEntry { s with
        core := s.core.atUs q.us
        link := { s.link with
          parser := Parser.hunt
          pending := s.link.pending ++ [{ id := s.link.nextEntry, kind := kind, tag := q.tag, reply := none }]
          nextEntry := s.link.nextEntry + 1 } } := by
  have h16 : ¬ 16 ≤ s.link.pending.length := by have := h.room; omega
  simp [State.request, State.accept, State.clock, h.line, h.length, h16]

/-- The reply of a request's own entry leaves the entries before it. -/
theorem Link.form_own (l : Link) (kind tag : Byte) (r : Reply) (n : Nat) (h : ∀ p ∈ l.pending, p.id ≠ n) :
    (l.pending ++ [({ id := n, kind := kind, tag := tag, reply := none } : PendingReply)]).map
        (fun p : PendingReply => if p.id = n then { p with reply := some r } else p)
      = l.pending ++ [({ id := n, kind := kind, tag := tag, reply := some r } : PendingReply)] := by
  simp only [List.map_append, List.map_cons, List.map_nil, if_true]
  congr 1
  conv_rhs => rw [← List.map_id l.pending]
  apply List.map_congr_left
  intro p hp
  simp [h p hp]

/-- A request whose owner makes a change of the blocks and forms one reply. -/
theorem State.ask_answered (q : Req) (kind : Byte) (f : Nat → Core → Core) (s : State) (st : Status) (b : Body)
    (c : Core) (h : Taken q s)
    (hf : f s.link.nextEntry (s.found q.us) = { c with out := [.reply s.link.nextEntry { status := st, body := b }] })
    (hs : c.sig = []) :
    s.ask q kind f = s.answered q kind st b c := by
  unfold State.ask
  rw [State.request_taken q kind _ s h, State.run_of_sig_nil _ _ _ hf (by simpa using hs)]
  simp only [State.answered, List.foldl_cons, List.foldl_nil, Link.take, Link.form, takeCounts, Link.after,
    Parser.hunt]
  rw [Link.form_own s.link kind q.tag _ _ h.fresh]

/-! ### The blocks as a command finds them -/

@[simp] theorem State.found_depthAt (us : Nat) (s : State) : (s.found us).depthAt = s.core.depthAt := rfl
@[simp] theorem State.found_free (us : Nat) (s : State) : (s.found us).free = s.core.free := rfl
@[simp] theorem State.found_vols (us : Nat) (s : State) : (s.found us).vols = s.core.vols := rfl
@[simp] theorem State.found_dose (us : Nat) (s : State) : (s.found us).dose = s.core.dose := rfl
@[simp] theorem State.found_meas (us : Nat) (s : State) : (s.found us).meas = s.core.meas := rfl
@[simp] theorem State.found_illum (us : Nat) (s : State) : (s.found us).illum = s.core.illum := rfl
@[simp] theorem State.found_motion (us : Nat) (s : State) : (s.found us).motion = s.core.motion := rfl
@[simp] theorem State.found_cap (us : Nat) (s : State) : (s.found us).cap = s.core.cap := rfl
@[simp] theorem State.found_seq (us : Nat) (s : State) : (s.found us).seq = s.core.seq := rfl
@[simp] theorem State.found_faults (us : Nat) (s : State) : (s.found us).faults = s.core.faults := rfl
@[simp] theorem State.found_first (us : Nat) (s : State) : (s.found us).first = s.core.first := rfl
@[simp] theorem State.found_panel (us : Nat) (s : State) : (s.found us).panel = s.core.panel := rfl
@[simp] theorem State.found_bands (us : Nat) (s : State) : (s.found us).bands = s.core.bands := rfl
@[simp] theorem State.found_out (us : Nat) (s : State) : (s.found us).out = [] := rfl
@[simp] theorem State.found_sig (us : Nat) (s : State) : (s.found us).sig = [] := rfl

/-! ### Requests with an owner of their own -/

/-- A taken request, as its owner finds the state: the clock set, the parser in HUNT and the entry added (R190). -/
def State.entered (q : Req) (kind : Byte) (s : State) : State :=
  { s with
    core := s.core.atUs q.us
    link := { s.link with
      parser := Parser.hunt
      pending := s.link.pending ++ [{ id := s.link.nextEntry, kind := kind, tag := q.tag, reply := none }]
      nextEntry := s.link.nextEntry + 1 } }

/-- The one reply of a request formed over a state whose other parts may have changed. -/
theorem State.run_reply (q : Req) (kind : Byte) (st : Status) (b : Body) (s t : State) (f : Core → Core) (c : Core)
    (hn : ∀ p ∈ t.link.pending, p.id ≠ t.link.nextEntry)
    (hs : s.link = { t.link with
        parser := Parser.hunt
        pending := t.link.pending ++ [{ id := t.link.nextEntry, kind := kind, tag := q.tag, reply := none }]
        nextEntry := t.link.nextEntry + 1 })
    (hc : s.counters = t.counters) (hp : s.pending = t.pending)
    (hf : f { s.core with out := [], sig := [] } =
      { c with out := [.reply t.link.nextEntry { status := st, body := b }] }) (hg : c.sig = []) :
    s.run f = t.answered q kind st b c := by
  rw [State.run_of_sig_nil f s _ hf (by simpa using hg)]
  obtain ⟨score, slink, scounters, spending⟩ := s
  subst hs hc hp
  simp only [State.answered, List.foldl_cons, List.foldl_nil, Link.take, Link.form, takeCounts, Link.after, Parser.hunt]
  rw [Link.form_own t.link kind q.tag _ _ hn]

end Sys2Proof.Machine
end

