-- ==== Sys2Proof/Laws/Kept.lean ====
section
/-! SUPPORT. What the units' operations keep: time, the panel, the band thresholds and the settings that requests own.
One lemma per operation of Machine/Ops.lean to Machine/Settle.lean, so that no later proof unfolds them for these. -/

namespace Sys2Proof.Machine

/-- Time, the panel and the settings that requests own stand: no operation that the units share touches them, and only
the commands that name one do. -/
abbrev Core.Keeps (s t : Core) : Prop :=
  t.now = s.now ∧ t.depthAt = s.depthAt ∧ t.panel = s.panel ∧ t.bands = s.bands ∧ t.vols.classes = s.vols.classes
    ∧ t.vols.instCount = s.vols.instCount ∧ t.cap.frameTimeout = s.cap.frameTimeout ∧ t.illum.eOp = s.illum.eOp
    ∧ t.illum.lampCal = s.illum.lampCal ∧ t.meas.cal = s.meas.cal

/-- What two operations keep, both in turn keep. -/
theorem Core.Keeps.trans {s t u : Core} (h : Core.Keeps s t) (k : Core.Keeps t u) : Core.Keeps s u := by
  unfold Core.Keeps at *
  simp_all

@[simp] theorem Core.emit_kept (o : Out) (s : Core) : Core.Keeps s (Core.emit o s) := by
  unfold Core.Keeps Core.emit
  simp

@[simp] theorem Core.report_kept (r : Report) (s : Core) : Core.Keeps s (Core.report r s) := by
  unfold Core.Keeps Core.report
  simp

@[simp] theorem Core.reply_kept (entry : Nat) (status : Status) (body : Body) (s : Core) : Core.Keeps s (Core.reply
    entry status body s) := by
  unfold Core.Keeps Core.reply
  simp

@[simp] theorem Core.tell_kept (e : CounterEvent) (sample : Int) (s : Core) : Core.Keeps s (Core.tell e sample s) := by
  unfold Core.Keeps Core.tell
  simp

@[simp] theorem Core.signal_kept (g : Signal) (s : Core) : Core.Keeps s (Core.signal g s) := by
  unfold Core.Keeps Core.signal
  simp

@[simp] theorem Core.setSlot_kept (i : Fin 16) (v : Option Volume) (s : Core) : Core.Keeps s (Core.setSlot i v s) := by
  unfold Core.Keeps Core.setSlot
  simp

@[simp] theorem Core.editSlot_kept (i : Fin 16) (f : Volume → Volume) (s : Core) : Core.Keeps s (Core.editSlot i f s)
    := by
  unfold Core.Keeps Core.editSlot
  (repeat' split) <;> simp_all

@[simp] theorem Core.editMounted_kept (f : Volume → Volume) (s : Core) : Core.Keeps s (Core.editMounted f s) := by
  unfold Core.Keeps Core.editMounted
  (repeat' split) <;> simp_all

@[simp] theorem Core.appendException_kept (i : Fin 16) (kind : ExceptionKind) (opening detail : Nat) (seq : Option
    SeqNo) (s : Core) : Core.Keeps s (Core.appendException i kind opening detail seq s) := by
  unfold Core.Keeps Core.appendException
  (repeat' split) <;> simp_all

@[simp] theorem Core.appendMounted_kept (kind : ExceptionKind) (opening detail : Nat) (seq : Option SeqNo) (s : Core)
    : Core.Keeps s (Core.appendMounted kind opening detail seq s) := by
  unfold Core.Keeps Core.appendMounted
  (repeat' split) <;> simp_all

@[simp] theorem Core.stopPause_kept (s : Core) : Core.Keeps s (Core.stopPause s) := by
  unfold Core.Keeps Core.stopPause
  (repeat' split) <;> simp_all

@[simp] theorem Core.runPause_kept (s : Core) : Core.Keeps s (Core.runPause s) := by
  unfold Core.Keeps Core.runPause
  (repeat' split) <;> simp_all

@[simp] theorem Core.reportHold_kept (reason : HoldReason) (s : Core) : Core.Keeps s (Core.reportHold reason s) := by
  unfold Core.Keeps Core.reportHold
  simp

@[simp] theorem Core.setHold_kept (reason : HoldReason) (s : Core) : Core.Keeps s (Core.setHold reason s) := by
  unfold Core.Keeps Core.setHold
  simp

@[simp] theorem Core.enterHold_kept (reason : HoldReason) (s : Core) : Core.Keeps s (Core.enterHold reason s) := by
  unfold Core.Keeps Core.enterHold
  (repeat' split) <;> simp_all

@[simp] theorem Core.raiseFault_kept (k : FaultKind) (d : FaultDetail) (s : Core) : Core.Keeps s (Core.raiseFault k d
    s) := by
  unfold Core.Keeps Core.raiseFault
  simp

@[simp] theorem Core.reportAssist_kept (k : AssistKind) (opening : Option Nat) (s : Core) : Core.Keeps s
    (Core.reportAssist k opening s) := by
  unfold Core.Keeps Core.reportAssist
  simp

@[simp] theorem Core.holdInterlock_kept (s : Core) : Core.Keeps s (Core.holdInterlock s) := by
  unfold Core.Keeps Core.holdInterlock
  dsimp only
  (repeat' split) <;> simp_all

@[simp] theorem Core.endFaults_kept (s : Core) (es : List FaultEntry) : Core.Keeps s (Core.endFaults s es) := by
  induction es generalizing s with
  | nil => simp [Core.Keeps, Core.endFaults]
  | cons e es ih =>
    unfold Core.endFaults
    split
    · exact Core.Keeps.trans (by simp [Core.Keeps]) (ih _)
    · exact ih s

@[simp] theorem Core.judgeFaults_kept (s : Core) : Core.Keeps s (Core.judgeFaults s) := by
  unfold Core.Keeps Core.judgeFaults
  simp

@[simp] theorem Core.checkLow_kept (i : Fin 16) (s : Core) : Core.Keeps s (Core.checkLow i s) := by
  unfold Core.Keeps Core.checkLow
  (repeat' split) <;> simp_all

theorem Core.checksWith_kept (close : Core → Core) (hc : ∀ s, Core.Keeps s (close s)) (i : Fin 16) (seq : Option SeqNo)
    (s : Core) : Core.Keeps s (Core.checksWith close i seq s) := by
  have hf : ∀ (f : ViewLight → ViewLight) (s : Core), Core.Keeps s (Core.forceView close f s) := by
    intro f s
    unfold Core.forceView
    simpa [Core.Keeps] using hc { s with illum := { s.illum with view := f s.illum.view } }
  have h1 : ∀ s : Core, Core.Keeps s (Core.checkCeiling close s) := by
    intro s
    unfold Core.Keeps Core.checkCeiling
    (repeat' split) <;> simp_all
  have h2 : ∀ s : Core, Core.Keeps s (Core.checkExhausted close i seq s) := by
    intro s
    unfold Core.Keeps Core.checkExhausted
    dsimp only
    (repeat' split) <;> simp_all
  unfold Core.Keeps Core.checksWith
  dsimp only
  split <;> simp_all

@[simp] theorem Core.checksStill_kept (seq : Option SeqNo) (s : Core) : Core.Keeps s (Core.checksStill seq s) := by
  unfold Core.checksStill
  split
  · exact Core.checksWith_kept id (fun _ => by simp [Core.Keeps]) _ seq s
  · simp [Core.Keeps]

@[simp] theorem Core.addDose_kept (q : Nat) (f : Volume → Volume) (s : Core) : Core.Keeps s (Core.addDose q f s) := by
  unfold Core.Keeps Core.addDose
  simp

@[simp] theorem Core.chargeView_kept (eV ms : Nat) (s : Core) : Core.Keeps s (Core.chargeView eV ms s) := by
  unfold Core.Keeps Core.chargeView
  simp

@[simp] theorem Core.closePeriod_kept (s : Core) : Core.Keeps s (Core.closePeriod s) := by
  unfold Core.Keeps Core.closePeriod
  (repeat' split) <;> simp_all

@[simp] theorem Core.checks_kept (i : Fin 16) (seq : Option SeqNo) (s : Core) : Core.Keeps s (Core.checks i seq s) :=
  Core.checksWith_kept _ Core.closePeriod_kept i seq s

@[simp] theorem Core.beginPeriodAt_kept (eV : Nat) (s : Core) : Core.Keeps s (Core.beginPeriodAt eV s) := by
  unfold Core.Keeps Core.beginPeriodAt
  (repeat' split) <;> simp_all

@[simp] theorem Core.beginPeriod_kept (s : Core) : Core.Keeps s (Core.beginPeriod s) := by
  unfold Core.Keeps Core.beginPeriod
  simp

@[simp] theorem Core.withView_kept (f : ViewLight → ViewLight) (s : Core) : Core.Keeps s (Core.withView f s) := by
  unfold Core.Keeps Core.withView
  dsimp only
  (repeat' split) <;> simp_all

@[simp] theorem Core.reviseView_kept (s : Core) : Core.Keeps s (Core.reviseView s) := by
  unfold Core.Keeps Core.reviseView
  (repeat' split) <;> simp_all

@[simp] theorem Core.fullPeriod_kept (a : Accrual) (s : Core) : Core.Keeps s (Core.fullPeriod a s) := by
  unfold Core.Keeps Core.fullPeriod
  dsimp only
  (repeat' split) <;> simp_all

@[simp] theorem Core.moveCursor_kept (k : Nat) (s : Core) : Core.Keeps s (Core.moveCursor k s) := by
  unfold Core.Keeps Core.moveCursor
  dsimp only
  (repeat' split) <;> simp_all

@[simp] theorem Core.tellFlash_kept (eUsed : Nat) (dimmed : Bool) (cause : Cause) (s : Core) : Core.Keeps s
    (Core.tellFlash eUsed dimmed cause s) := by
  unfold Core.Keeps Core.tellFlash
  (repeat' split) <;> simp_all

@[simp] theorem Core.chargeFlash_kept (adm : Admission) (used : Nat × Source × Bool) (q : Nat) (seq : SeqNo) (s :
    Core) : Core.Keeps s (Core.chargeFlash adm used q seq s).1 := by
  unfold Core.Keeps Core.chargeFlash
  dsimp only
  (repeat' split) <;> simp_all

@[simp] theorem Core.chargeWindow_kept (adm : Admission) (r : Option Result) (seq : SeqNo) (s : Core) : Core.Keeps s
    (Core.chargeWindow adm r seq s).1 := by
  unfold Core.Keeps Core.chargeWindow
  (repeat' split) <;> simp_all

@[simp] theorem Core.chargeAborted_kept (adm : Admission) (litUs : Micros) (seq : SeqNo) (s : Core) : Core.Keeps s
    (Core.chargeAborted adm litUs seq s).1 := by
  unfold Core.Keeps Core.chargeAborted
  (repeat' split) <;> simp_all

@[simp] theorem Core.captureLampOn_kept (qPlan : Nat) (s : Core) : Core.Keeps s (Core.captureLampOn qPlan s) := by
  unfold Core.Keeps Core.captureLampOn
  (repeat' split) <;> simp_all

@[simp] theorem Core.lampOn_kept (s : Core) : Core.Keeps s (Core.lampOn s) := by
  unfold Core.Keeps Core.lampOn
  (repeat' split) <;> simp_all

@[simp] theorem Core.grant_kept (ch : Channel) (e : PendingConv) (s : Core) : Core.Keeps s (Core.grant ch e s) := by
  unfold Core.Keeps Core.grant
  (repeat' split) <;> simp_all

@[simp] theorem Core.grantNext_kept (s : Core) : Core.Keeps s (Core.grantNext s) := by
  unfold Core.Keeps Core.grantNext
  (repeat' split) <;> simp_all

@[simp] theorem Core.post_kept (ch : Channel) (kind : ConvKind) (who : Requester) (s : Core) : Core.Keeps s
    (Core.post ch kind who s) := by
  unfold Core.Keeps Core.post
  (repeat' split) <;> simp_all

@[simp] theorem Core.withdraw_kept (ch : Channel) (gone : Requester → Bool) (s : Core) : Core.Keeps s (Core.withdraw
    ch gone s) := by
  unfold Core.Keeps Core.withdraw
  simp

@[simp] theorem Core.abandonWindow_kept (s : Core) : Core.Keeps s (Core.abandonWindow s) := by
  unfold Core.Keeps Core.abandonWindow
  dsimp only
  (repeat' split) <;> simp_all

@[simp] theorem Core.writeRecord_kept (r : Record) (s : Core) : Core.Keeps s (Core.writeRecord r s) := by
  unfold Core.Keeps Core.writeRecord
  dsimp only
  (repeat' split) <;> simp_all

@[simp] theorem Core.tellOutcome_kept (opening : Nat) (seq : SeqNo) (outcome : CaptureOutcome) (s : Core) :
    Core.Keeps s (Core.tellOutcome opening seq outcome s) := by
  unfold Core.Keeps Core.tellOutcome
  (repeat' split) <;> simp_all

@[simp] theorem Core.restoreView_kept (s : Core) : Core.Keeps s (Core.restoreView s) := by
  unfold Core.Keeps Core.restoreView
  simp

@[simp] theorem Core.recordAttempt_kept (a : Attempt) (outcome : CaptureOutcome) (dose : DoseRecord) (s : Core) :
    Core.Keeps s (Core.recordAttempt a outcome dose s) := by
  unfold Core.Keeps Core.recordAttempt
  (repeat' split) <;> simp_all

@[simp] theorem Core.latchCapture_kept (ok dimmed : Bool) (s : Core) : Core.Keeps s (Core.latchCapture ok dimmed s)
    := by
  unfold Core.Keeps Core.latchCapture
  simp

@[simp] theorem Capture.toIdle_frameTimeout (c : Capture) : c.toIdle.frameTimeout = c.frameTimeout := rfl

@[simp] theorem Core.finishAttempt_kept (a : Attempt) (outcome : CaptureOutcome) (dose : DoseRecord) (s : Core) :
    Core.Keeps s (Core.finishAttempt a outcome dose s) := by
  unfold Core.Keeps Core.finishAttempt
  dsimp only
  split <;> simp

@[simp] theorem Core.tryFinish_kept (s : Core) : Core.Keeps s (Core.tryFinish s) := by
  unfold Core.Keeps Core.tryFinish
  (repeat' split) <;> simp_all

@[simp] theorem Core.captureDose_kept (rec_ : DoseRecord) (s : Core) : Core.Keeps s (Core.captureDose rec_ s) := by
  unfold Core.Keeps Core.captureDose
  (repeat' split) <;> simp_all

@[simp] theorem Core.captureLampOff_kept (s : Core) : Core.Keeps s (Core.captureLampOff s) := by
  unfold Core.Keeps Core.captureLampOff
  (repeat' split) <;> simp_all

@[simp] theorem Core.endUnlit_kept (s : Core) : Core.Keeps s (Core.endUnlit s) := by
  unfold Core.Keeps Core.endUnlit
  simp

@[simp] theorem Core.endUnlitWith_kept (e : AttemptEnding) (s : Core) : Core.Keeps s (Core.endUnlitWith e s) := by
  unfold Core.Keeps Core.endUnlitWith
  simp

@[simp] theorem Core.setFlash_kept (life : Lifecycle) (f : Option Flash) (s : Core) : Core.Keeps s (Core.setFlash
    life f s) := by
  unfold Core.Keeps Core.setFlash
  simp

@[simp] theorem Core.dropFlash_kept (s : Core) : Core.Keeps s (Core.dropFlash s) := by
  unfold Core.Keeps Core.dropFlash
  simp

@[simp] theorem Core.refuseFlash_kept (f : Flash) (r : FlashRefusal) (s : Core) : Core.Keeps s (Core.refuseFlash f r
    s) := by
  unfold Core.Keeps Core.refuseFlash
  (repeat' split) <;> simp_all

@[simp] theorem Core.meetHold_kept (f : Flash) (s : Core) : Core.Keeps s (Core.meetHold f s) := by
  unfold Core.Keeps Core.meetHold
  (repeat' split) <;> simp_all

@[simp] theorem Core.enterThermal_kept (value : Option Int) (s : Core) : Core.Keeps s (Core.enterThermal value s) := by
  unfold Core.Keeps Core.enterThermal
  dsimp only
  (repeat' split) <;> simp_all

@[simp] theorem Core.admit_kept (f : Flash) (r : Result) (s : Core) : Core.Keeps s (Core.admitFlash f r s) := by
  unfold Core.Keeps Core.admitFlash
  dsimp only
  (repeat' split) <;> simp_all

@[simp] theorem Core.useReading_kept (r : Result) (s : Core) : Core.Keeps s (Core.useReading r s) := by
  unfold Core.Keeps Core.useReading
  (repeat' split) <;> simp_all

@[simp] theorem Core.testHold_kept (faulted : Bool) (value : Option Int) (s : Core) : Core.Keeps s (Core.testHold
    faulted value s) := by
  unfold Core.Keeps Core.testHold
  (repeat' split) <;> simp_all

@[simp] theorem Core.advance_kept (s : Core) : Core.Keeps s (Core.advance s) := by
  unfold Core.Keeps Core.advance
  (repeat' split) <;> simp_all

@[simp] theorem Core.enterAdmitting_kept (f : Flash) (s : Core) : Core.Keeps s (Core.enterAdmitting f s) := by
  unfold Core.Keeps Core.enterAdmitting
  dsimp only
  (repeat' split) <;> simp_all

@[simp] theorem Core.leaveThermal_kept (value : Option Int) (s : Core) : Core.Keeps s (Core.leaveThermal value s) := by
  unfold Core.Keeps Core.leaveThermal
  dsimp only
  (repeat' split) <;> simp_all

@[simp] theorem Core.thermalTest_kept (faulted : Bool) (value : Option Int) (s : Core) : Core.Keeps s
    (Core.thermalTest faulted value s) := by
  unfold Core.Keeps Core.thermalTest
  (repeat' split) <;> simp_all

@[simp] theorem Core.thermalAtMount_kept (s : Core) : Core.Keeps s (Core.thermalAtMount s) := by
  unfold Core.Keeps Core.thermalAtMount
  (repeat' split) <;> simp_all

@[simp] theorem Core.askFlash_kept (side : Side) (s : Core) : Core.Keeps s (Core.askFlash side s) := by
  unfold Core.Keeps Core.askFlash
  (repeat' split) <;> simp_all

@[simp] theorem Core.giveLeave_kept (s : Core) : Core.Keeps s (Core.giveLeave s) := by
  unfold Core.Keeps Core.giveLeave
  (repeat' split) <;> simp_all

@[simp] theorem Core.handWindow_kept (r : Option Result) (s : Core) : Core.Keeps s (Core.handWindow r s) := by
  unfold Core.Keeps Core.handWindow
  (repeat' split) <;> simp_all

@[simp] theorem Core.lampsOff_kept (f : Flash) (s : Core) : Core.Keeps s (Core.lampsOff f s) := by
  unfold Core.Keeps Core.lampsOff
  (repeat' split) <;> simp_all

@[simp] theorem Core.illumBreak_kept (s : Core) : Core.Keeps s (Core.illumBreak s) := by
  unfold Core.Keeps Core.illumBreak
  (repeat' split) <;> simp_all

@[simp] theorem Core.abortLit_kept (f : Flash) (s : Core) : Core.Keeps s (Core.abortLit f s) := by
  unfold Core.Keeps Core.abortLit
  (repeat' split) <;> simp_all

@[simp] theorem Core.illumAbort_kept (s : Core) : Core.Keeps s (Core.illumAbort s) := by
  unfold Core.Keeps Core.illumAbort
  (repeat' split) <;> simp_all

@[simp] theorem Core.setPlaten_kept (p : PlatenState) (s : Core) : Core.Keeps s (Core.setPlaten p s) := by
  unfold Core.Keeps Core.setPlaten
  simp

@[simp] theorem Core.setArm_kept (a : ArmState) (stage : ArmStage) (s : Core) : Core.Keeps s (Core.setArm a stage s)
    := by
  unfold Core.Keeps Core.setArm
  simp

@[simp] theorem Core.setAngle_kept (a : AngleState) (s : Core) : Core.Keeps s (Core.setAngle a s) := by
  unfold Core.Keeps Core.setAngle
  simp

@[simp] theorem Core.angleStopped_kept (s : Core) : Core.Keeps s (Core.angleStopped s) := by
  unfold Core.Keeps Core.angleStopped
  (repeat' split) <;> simp_all

@[simp] theorem Core.dropForce_kept (s : Core) : Core.Keeps s (Core.dropForce s) := by
  unfold Core.Keeps Core.dropForce
  simp

@[simp] theorem Core.dropGauge_kept (s : Core) : Core.Keeps s (Core.dropGauge s) := by
  unfold Core.Keeps Core.dropGauge
  simp

@[simp] theorem Core.startPlaten_kept (m : PlatenMove) (s : Core) : Core.Keeps s (Core.startPlaten m s) := by
  unfold Core.Keeps Core.startPlaten
  simp

@[simp] theorem Core.startArm_kept (m : ArmMove) (stage : ArmStage) (s : Core) : Core.Keeps s (Core.startArm m stage
    s) := by
  unfold Core.Keeps Core.startArm
  simp

@[simp] theorem Core.beginRaise_kept (s : Core) : Core.Keeps s (Core.beginRaise s) := by
  unfold Core.Keeps Core.beginRaise
  simp

@[simp] theorem Core.askRaise_kept (s : Core) : Core.Keeps s (Core.askRaise s).1 := by
  unfold Core.Keeps Core.askRaise
  (repeat' split) <;> simp_all

@[simp] theorem Core.sampleForce_kept (s : Core) : Core.Keeps s (Core.sampleForce s) := by
  unfold Core.Keeps Core.sampleForce
  simp

@[simp] theorem Core.beginLowering_kept (s : Core) : Core.Keeps s (Core.beginLowering s) := by
  unfold Core.Keeps Core.beginLowering
  dsimp only
  (repeat' split) <;> simp_all

@[simp] theorem Core.askLowering_kept (s : Core) : Core.Keeps s (Core.askLowering s) := by
  unfold Core.Keeps Core.askLowering
  (repeat' split) <;> simp_all

@[simp] theorem Core.failLowering_kept (force : Bool) (r : PlatenReason) (s : Core) : Core.Keeps s (Core.failLowering
    force r s) := by
  unfold Core.Keeps Core.failLowering
  simp

@[simp] theorem Core.forceResult_kept (r : Result) (s : Core) : Core.Keeps s (Core.forceResult r s) := by
  unfold Core.Keeps Core.forceResult
  (repeat' split) <;> simp_all

@[simp] theorem Core.refuseTurn_kept (o : TurnOutcome) (s : Core) : Core.Keeps s (Core.refuseTurn o s) := by
  unfold Core.Keeps Core.refuseTurn
  simp

@[simp] theorem Core.beginSuck_kept (t : Turn) (s : Core) : Core.Keeps s (Core.beginSuck t s) := by
  unfold Core.Keeps Core.beginSuck
  simp

@[simp] theorem Core.turnAtUp_kept (s : Core) : Core.Keeps s (Core.turnAtUp s) := by
  unfold Core.Keeps Core.turnAtUp
  (repeat' split) <;> simp_all

@[simp] theorem Core.turnFromPlaten_kept (s : Core) : Core.Keeps s (Core.turnFromPlaten s) := by
  have h := Core.askRaise_kept s
  unfold Core.Keeps Core.turnFromPlaten
  rcases hx : s.askRaise with ⟨x, a⟩
  cases a <;> simp_all

@[simp] theorem Core.askTurn_kept (s : Core) : Core.Keeps s (Core.askTurn s) := by
  unfold Core.Keeps Core.askTurn
  (repeat' split) <;> simp_all

@[simp] theorem Core.putDown_kept (why : PutDown) (s : Core) : Core.Keeps s (Core.putDown why s) := by
  unfold Core.Keeps Core.putDown
  simp

@[simp] theorem Core.beginReturn_kept (s : Core) : Core.Keeps s (Core.beginReturn s) := by
  unfold Core.Keeps Core.beginReturn
  simp

@[simp] theorem Core.giveAssist_kept (k : AssistKind) (t : Turn) (s : Core) : Core.Keeps s (Core.giveAssist k t s) := by
  unfold Core.Keeps Core.giveAssist
  dsimp only
  (repeat' split) <;> simp_all

@[simp] theorem Core.countFailure_kept (why : PutDown) (t : Turn) (s : Core) : Core.Keeps s (Core.countFailure why t
    s) := by
  unfold Core.Keeps Core.countFailure
  (repeat' split) <;> simp_all

@[simp] theorem Core.attemptFailed_kept (why : PutDown) (t : Turn) (s : Core) : Core.Keeps s (Core.attemptFailed why
    t s) := by
  unfold Core.Keeps Core.attemptFailed
  dsimp only
  (repeat' split) <;> simp_all

@[simp] theorem Core.tryGauging_kept (s : Core) : Core.Keeps s (Core.tryGauging s) := by
  unfold Core.Keeps Core.tryGauging
  (repeat' split) <;> simp_all

@[simp] theorem Core.gaugeResult_kept (r : Result) (s : Core) : Core.Keeps s (Core.gaugeResult r s) := by
  unfold Core.Keeps Core.gaugeResult
  (repeat' split) <;> simp_all

@[simp] theorem Core.vacuumLoss_kept (n : Nat) (s : Core) : Core.Keeps s (Core.vacuumLoss n s) := by
  unfold Core.Keeps Core.vacuumLoss
  dsimp only
  (repeat' split) <;> simp_all

@[simp] theorem Core.layLeaf_kept (t : Turn) (s : Core) : Core.Keeps s (Core.layLeaf t s) := by
  unfold Core.Keeps Core.layLeaf
  simp

@[simp] theorem Core.endTurn_kept (s : Core) : Core.Keeps s (Core.endTurn s) := by
  unfold Core.Keeps Core.endTurn
  (repeat' split) <;> simp_all

@[simp] theorem Core.openRefResult_kept (r : Result) (s : Core) : Core.Keeps s (Core.openRefResult r s) := by
  unfold Core.Keeps Core.openRefResult
  (repeat' split) <;> simp_all

@[simp] theorem Core.armFault_kept (m : ArmMove) (s : Core) : Core.Keeps s (Core.armFault m s) := by
  unfold Core.Keeps Core.armFault
  dsimp only
  (repeat' split) <;> simp_all

@[simp] theorem Core.takeHeld_kept (s : Core) : Core.Keeps s (Core.takeHeld s) := by
  unfold Core.Keeps Core.takeHeld
  dsimp only
  (repeat' split) <;> simp_all

@[simp] theorem Core.tellRaise_kept (ok : Bool) (s : Core) : Core.Keeps s (Core.tellRaise ok s) := by
  unfold Core.Keeps Core.tellRaise
  (repeat' split) <;> simp_all

@[simp] theorem Core.platenArrived_kept (s : Core) : Core.Keeps s (Core.platenArrived s) := by
  unfold Core.Keeps Core.platenArrived
  dsimp only
  (repeat' split) <;> simp_all

@[simp] theorem Core.raiseFailed_kept (s : Core) : Core.Keeps s (Core.raiseFailed s) := by
  unfold Core.Keeps Core.raiseFailed
  dsimp only
  (repeat' split) <;> simp_all

@[simp] theorem Core.moveAngle_kept (target : Nat) (s : Core) : Core.Keeps s (Core.moveAngle target s) := by
  unfold Core.Keeps Core.moveAngle
  simp

@[simp] theorem Core.mountAngle_kept (target : Nat) (s : Core) : Core.Keeps s (Core.mountAngle target s) := by
  unfold Core.Keeps Core.mountAngle
  (repeat' split) <;> simp_all

@[simp] theorem Core.endHoming_kept (h : Homing) (outcome : HomingOutcome) (renewed : Bool) (s : Core) : Core.Keeps s
    (Core.endHoming h outcome renewed s) := by
  unfold Core.Keeps Core.endHoming
  simp

@[simp] theorem Core.unreference_kept (p : HomingPhase) (s : Core) : Core.Keeps s (Core.unreference p s) := by
  unfold Core.Keeps Core.unreference
  (repeat' split) <;> simp_all

@[simp] theorem Core.breakHoming_kept (outcome : HomingOutcome) (s : Core) : Core.Keeps s (Core.breakHoming outcome
    s) := by
  unfold Core.Keeps Core.breakHoming
  (repeat' split) <;> simp_all

@[simp] theorem Core.enterPhase_kept (h : Homing) (p : HomingPhase) (s : Core) : Core.Keeps s (Core.enterPhase h p s)
    := by
  unfold Core.Keeps Core.enterPhase
  simp

@[simp] theorem Core.beginHoming_kept (entry : Nat) (s : Core) : Core.Keeps s (Core.beginHoming entry s) := by
  unfold Core.Keeps Core.beginHoming
  simp

@[simp] theorem Core.phaseDone_kept (h : Homing) (s : Core) : Core.Keeps s (Core.phaseDone h s) := by
  unfold Core.Keeps Core.phaseDone
  (repeat' split) <;> simp_all

@[simp] theorem Core.phaseFailed_kept (h : Homing) (s : Core) : Core.Keeps s (Core.phaseFailed h s) := by
  unfold Core.Keeps Core.phaseFailed
  simp

@[simp] theorem Core.homingRefResult_kept (r : Result) (s : Core) : Core.Keeps s (Core.homingRefResult r s) := by
  unfold Core.Keeps Core.homingRefResult
  (repeat' split) <;> simp_all

@[simp] theorem Core.motionBreak_kept (s : Core) : Core.Keeps s (Core.motionBreak s) := by
  unfold Core.Keeps Core.motionBreak
  dsimp only
  (repeat' split) <;> simp_all

@[simp] theorem Core.resumePlaten_kept (s : Core) : Core.Keeps s (Core.resumePlaten s) := by
  unfold Core.Keeps Core.resumePlaten
  (repeat' split) <;> simp_all

@[simp] theorem Core.resumeArm_kept (m : ArmMove) (t : Turn) (s : Core) : Core.Keeps s (Core.resumeArm m t s) := by
  unfold Core.Keeps Core.resumeArm
  dsimp only
  (repeat' split) <;> simp_all

@[simp] theorem Core.abortStopped_kept (m : ArmMove) (t : Turn) (s : Core) : Core.Keeps s (Core.abortStopped m t s)
    := by
  unfold Core.Keeps Core.abortStopped
  (repeat' split) <;> simp_all

@[simp] theorem Core.motionResume_kept (s : Core) : Core.Keeps s (Core.motionResume s) := by
  unfold Core.Keeps Core.motionResume
  dsimp only
  (repeat' split) <;> simp_all

@[simp] theorem Core.recoverArm_kept (s : Core) : Core.Keeps s (Core.recoverArm s) := by
  unfold Core.Keeps Core.recoverArm
  (repeat' split) <;> simp_all

@[simp] theorem Core.motionClear_kept (s : Core) : Core.Keeps s (Core.motionClear s) := by
  unfold Core.Keeps Core.motionClear
  dsimp only
  (repeat' split) <;> simp_all

@[simp] theorem Core.abortArm_kept (s : Core) : Core.Keeps s (Core.abortArm s) := by
  unfold Core.Keeps Core.abortArm
  dsimp only
  (repeat' split) <;> simp_all

@[simp] theorem Core.abortPlaten_kept (s : Core) : Core.Keeps s (Core.abortPlaten s) := by
  unfold Core.Keeps Core.abortPlaten
  dsimp only
  (repeat' split) <;> simp_all

@[simp] theorem Core.motionAbort_kept (s : Core) : Core.Keeps s (Core.motionAbort s) := by
  unfold Core.Keeps Core.motionAbort
  simp

@[simp] theorem Core.setAttempt_kept (a : Attempt) (s : Core) : Core.Keeps s (Core.setAttempt a s) := by
  unfold Core.Keeps Core.setAttempt
  simp

@[simp] theorem Core.gainPlace_kept (a : Attempt) (s : Core) : Core.Keeps s (Core.gainPlace a s) := by
  unfold Core.Keeps Core.gainPlace
  dsimp only
  (repeat' split) <;> simp_all

@[simp] theorem Core.askAttempt_kept (ask : SideAsked) (s : Core) : Core.Keeps s (Core.askAttempt ask s) := by
  unfold Core.Keeps Core.askAttempt
  (repeat' split) <;> simp_all

@[simp] theorem Core.enterAdmission_kept (a : Attempt) (s : Core) : Core.Keeps s (Core.enterAdmission a s) := by
  unfold Core.Keeps Core.enterAdmission
  simp

@[simp] theorem Core.awaitCameras_kept (a : Attempt) (s : Core) : Core.Keeps s (Core.awaitCameras a s) := by
  simp [Core.Keeps, Core.awaitCameras]

@[simp] theorem Core.startCameraWait_kept (a : Attempt) (s : Core) : Core.Keeps s (Core.startCameraWait a s) := by
  unfold Core.Keeps Core.startCameraWait
  dsimp only
  (repeat' split) <;> simp_all

@[simp] theorem Core.attemptPlatenDown_kept (s : Core) : Core.Keeps s (Core.attemptPlatenDown s) := by
  unfold Core.Keeps Core.attemptPlatenDown
  (repeat' split) <;> simp_all

@[simp] theorem Core.attemptPlatenFailed_kept (r : PlatenReason) (s : Core) : Core.Keeps s (Core.attemptPlatenFailed
    r s) := by
  unfold Core.Keeps Core.attemptPlatenFailed
  (repeat' split) <;> simp_all

@[simp] theorem Core.attemptRefused_kept (r : FlashRefusal) (s : Core) : Core.Keeps s (Core.attemptRefused r s) := by
  unfold Core.Keeps Core.attemptRefused
  (repeat' split) <;> simp_all

@[simp] theorem Core.writeMark_kept (note : Nat) (s : Core) : Core.Keeps s (Core.writeMark note s) := by
  unfold Core.Keeps Core.writeMark
  simp

@[simp] theorem Core.askMark_kept (note : Nat) (s : Core) : Core.Keeps s (Core.askMark note s) := by
  unfold Core.Keeps Core.askMark
  (repeat' split) <;> simp_all

@[simp] theorem Core.takeRoom_kept (s : Core) : Core.Keeps s (Core.takeRoom s) := by
  unfold Core.Keeps Core.takeRoom
  (repeat' split) <;> simp_all

@[simp] theorem Core.captureBreak_kept (s : Core) : Core.Keeps s (Core.captureBreak s) := by
  unfold Core.Keeps Core.captureBreak
  (repeat' split) <;> simp_all

@[simp] theorem Core.liftMark_kept (s : Core) : Core.Keeps s (Core.liftMark s) := by
  unfold Core.Keeps Core.liftMark
  dsimp only
  (repeat' split) <;> simp_all

@[simp] theorem Core.markAborting_kept (s : Core) : Core.Keeps s (Core.markAborting s) := by
  unfold Core.Keeps Core.markAborting
  (repeat' split) <;> simp_all

@[simp] theorem Core.captureAbort_kept (s : Core) : Core.Keeps s (Core.captureAbort s) := by
  unfold Core.Keeps Core.captureAbort
  (repeat' split) <;> simp_all

@[simp] theorem Core.handTo_kept (ch : Channel) (r : Result) (who : Requester) (s : Core) : Core.Keeps s (Core.handTo
    ch r who s) := by
  unfold Core.Keeps Core.handTo
  (repeat' split) <;> simp_all

@[simp] theorem Core.handT_kept (r : Result) (s : Core) : Core.Keeps s (Core.handT r s) := by
  unfold Core.Keeps Core.handT
  (repeat' split) <;> simp_all

@[simp] theorem Core.handAll_kept (c : Conversion) (r : Result) (s : Core) : Core.Keeps s (Core.handAll c r s) := by
  have hf : ∀ (rs : List Requester) (s : Core),
      Core.Keeps s (rs.foldl (fun s who => s.handTo c.channel r who) s) := by
    intro rs
    induction rs with
    | nil => intro s; simp [Core.Keeps]
    | cons w ws ih => intro s; simpa [Core.Keeps] using ih (s.handTo c.channel r w)
  have h := hf c.requesters (if c.channel = .T then s.handT r else s)
  unfold Core.Keeps Core.handAll
  dsimp only
  split <;> simp_all

@[simp] theorem Core.latchResult_kept (ch : Channel) (r : Result) (s : Core) : Core.Keeps s (Core.latchResult ch r s)
    := by
  unfold Core.Keeps Core.latchResult
  simp

@[simp] theorem Core.deliver_kept (c : Conversion) (raw : Int) (s : Core) : Core.Keeps s (Core.deliver c raw s) := by
  unfold Core.Keeps Core.deliver
  simp

@[simp] theorem Core.declareFault_kept (c : Conversion) (s : Core) : Core.Keeps s (Core.declareFault c s) := by
  unfold Core.Keeps Core.declareFault
  simp

@[simp] theorem Core.setSeq_kept (st : SeqState) (s : Core) : Core.Keeps s (Core.setSeq st s) := by
  unfold Core.Keeps Core.setSeq
  simp

@[simp] theorem Core.setOp_kept (op : Option Operation) (s : Core) : Core.Keeps s (Core.setOp op s) := by
  unfold Core.Keeps Core.setOp
  simp

@[simp] theorem Core.setAwaiting_kept (k : Option Awaited) (s : Core) : Core.Keeps s (Core.setAwaiting k s) := by
  unfold Core.Keeps Core.setAwaiting
  simp

@[simp] theorem Core.setHeadWork_kept (w : StepWork) (s : Core) : Core.Keeps s (Core.setHeadWork w s) := by
  unfold Core.Keeps Core.setHeadWork
  (repeat' split) <;> simp_all

@[simp] theorem Core.reportStep_kept (st : Step) (result : StepResult) (reason : Option StepReason) (extra :
    StepExtra) (s : Core) : Core.Keeps s (Core.reportStep st result reason extra s) := by
  unfold Core.Keeps Core.reportStep
  simp

@[simp] theorem Core.endStep_kept (result : StepResult) (reason : Option StepReason) (extra : StepExtra) (s : Core) :
    Core.Keeps s (Core.endStep result reason extra s) := by
  unfold Core.Keeps Core.endStep
  dsimp only
  (repeat' split) <;> simp_all

@[simp] theorem Core.endPlain_kept (result : StepResult) (reason : StepReason) (s : Core) : Core.Keeps s
    (Core.endPlain result reason s) := by
  unfold Core.Keeps Core.endPlain
  (repeat' split) <;> simp_all

@[simp] theorem Core.awaitAssist_kept (k : Awaited) (s : Core) : Core.Keeps s (Core.awaitAssist k s) := by
  unfold Core.Keeps Core.awaitAssist
  dsimp only
  (repeat' split) <;> simp_all

@[simp] theorem Core.holdAtStart_kept (r : HoldReason) (s : Core) : Core.Keeps s (Core.holdAtStart r s) := by
  unfold Core.Keeps Core.holdAtStart
  (repeat' split) <;> simp_all

@[simp] theorem Core.setCycle_kept (c : CycleProgress) (s : Core) : Core.Keeps s (Core.setCycle c s) := by
  unfold Core.Keeps Core.setCycle
  simp

@[simp] theorem Core.endCycle_kept (result : StepResult) (reason : StepReason) (c : CycleProgress) (stop : Nat) (s :
    Core) : Core.Keeps s (Core.endCycle result reason c stop s) := by
  unfold Core.Keeps Core.endCycle
  simp

@[simp] theorem Core.cycleE_kept (c : CycleProgress) (s : Core) : Core.Keeps s (Core.cycleE c s) := by
  unfold Core.Keeps Core.cycleE
  dsimp only
  (repeat' split) <;> simp_all

@[simp] theorem Core.cycleD_kept (c : CycleProgress) (stop : Nat) (s : Core) : Core.Keeps s (Core.cycleD c stop s) := by
  have h := Core.askRaise_kept (s.setCycle { c with pos := .D })
  unfold Core.Keeps Core.cycleD
  split
  · rcases hx : (s.setCycle { c with pos := .D }).askRaise with ⟨x, a⟩
    cases a <;> simp_all
  · simp

@[simp] theorem Core.cycleC_kept (c : CycleProgress) (stop : Nat) (s : Core) : Core.Keeps s (Core.cycleC c stop s) := by
  unfold Core.Keeps Core.cycleC
  (repeat' split) <;> simp_all

@[simp] theorem Core.cycleB_kept (c : CycleProgress) (stop : Nat) (s : Core) : Core.Keeps s (Core.cycleB c stop s) := by
  unfold Core.Keeps Core.cycleB
  dsimp only
  (repeat' split) <;> simp_all

@[simp] theorem Core.cycleA_kept (c : CycleProgress) (stop : Nat) (s : Core) : Core.Keeps s (Core.cycleA c stop s) := by
  unfold Core.Keeps Core.cycleA
  (repeat' split) <;> simp_all

@[simp] theorem Core.cycleAct_kept (c : CycleProgress) (stop retakes : Nat) (s : Core) : Core.Keeps s (Core.cycleAct
    c stop retakes s) := by
  unfold Core.Keeps Core.cycleAct
  (repeat' split) <;> simp_all

@[simp] theorem Core.cycleTo_kept (c : CycleProgress) (s : Core) : Core.Keeps s (Core.cycleTo c s) := by
  unfold Core.Keeps Core.cycleTo
  dsimp only
  (repeat' split) <;> simp_all

@[simp] theorem Core.startCycle_kept (stop : Nat) (s : Core) : Core.Keeps s (Core.startCycle stop s) := by
  unfold Core.Keeps Core.startCycle
  (repeat' split) <;> simp_all

@[simp] theorem Core.stage_kept (m : Mask) (x : Setting) (s : Core) : Core.Keeps s (Core.stage m x s) := by
  unfold Core.Keeps Core.stage
  simp

@[simp] theorem Core.beginWork_kept (w : StepWork) (s : Core) : Core.Keeps s (Core.beginWork w s) := by
  unfold Core.Keeps Core.beginWork
  (repeat' split) <;> simp_all

@[simp] theorem Core.startHead_kept (s : Core) : Core.Keeps s (Core.startHead s) := by
  unfold Core.Keeps Core.startHead
  (repeat' split) <;> simp_all

@[simp] theorem Core.cycleAttempt_kept (e : AttemptEnding) (c : CycleProgress) (stop retakes : Nat) (s : Core) :
    Core.Keeps s (Core.cycleAttempt e c stop retakes s) := by
  unfold Core.Keeps Core.cycleAttempt
  (repeat' split) <;> simp_all

@[simp] theorem Core.stepAttempt_kept (e : AttemptEnding) (s : Core) : Core.Keeps s (Core.stepAttempt e s) := by
  unfold Core.Keeps Core.stepAttempt
  dsimp only
  (repeat' split) <;> simp_all

@[simp] theorem Core.stepMark_kept (seq : Option SeqNo) (s : Core) : Core.Keeps s (Core.stepMark seq s) := by
  unfold Core.Keeps Core.stepMark
  (repeat' split) <;> simp_all

@[simp] theorem Core.stepTurn_kept (o : TurnOutcome) (s : Core) : Core.Keeps s (Core.stepTurn o s) := by
  unfold Core.Keeps Core.stepTurn
  dsimp only
  (repeat' split) <;> simp_all

@[simp] theorem Core.stepRaised_kept (s : Core) : Core.Keeps s (Core.stepRaised s) := by
  unfold Core.Keeps Core.stepRaised
  dsimp only
  (repeat' split) <;> simp_all

@[simp] theorem Core.takeOn_kept (s : Core) : Core.Keeps s (Core.takeOn s) := by
  unfold Core.Keeps Core.takeOn
  dsimp only
  (repeat' split) <;> simp_all

@[simp] theorem Core.release_kept (s : Core) : Core.Keeps s (Core.release s) := by
  unfold Core.Keeps Core.release
  dsimp only
  (repeat' split) <;> simp_all

@[simp] theorem Core.confirmTurn_kept (s : Core) : Core.Keeps s (Core.confirmTurn s) := by
  unfold Core.Keeps Core.confirmTurn
  dsimp only
  (repeat' split) <;> simp_all

@[simp] theorem Core.halt_kept (s : Core) : Core.Keeps s (Core.halt s) := by
  unfold Core.Keeps Core.halt
  (repeat' split) <;> simp_all

@[simp] theorem Core.seqBreak_kept (s : Core) : Core.Keeps s (Core.seqBreak s) := by
  unfold Core.Keeps Core.seqBreak
  (repeat' split) <;> simp_all

@[simp] theorem Core.reportCancelled_kept (reason : StepReason) (count : Nat) (s : Core) (steps : List Step) :
    Core.Keeps s (Core.reportCancelled reason count s steps) := by
  induction steps generalizing s count with
  | nil => simp [Core.Keeps, Core.reportCancelled]
  | cons st rest ih =>
    unfold Core.reportCancelled
    simpa [Core.Keeps] using ih 0 (s.reportStep st .cancelled (some reason) (st.work.extra count))

@[simp] theorem Core.abort_kept (s : Core) : Core.Keeps s (Core.abort s) := by
  unfold Core.Keeps Core.abort
  dsimp only
  (repeat' split) <;> simp_all

@[simp] theorem Core.handle_kept (g : Signal) (s : Core) : Core.Keeps s (Core.handle g s) := by
  unfold Core.Keeps Core.handle
  (repeat' split) <;> simp_all

@[simp] theorem Core.settleWithin_kept (n : Nat) (s : Core) : Core.Keeps s (Core.settleWithin n s) := by
  induction n generalizing s with
  | zero => simp [Core.Keeps, Core.settleWithin]
  | succ n ih =>
    unfold Core.settleWithin
    split
    · simp [Core.Keeps]
    · rename_i g rest _
      exact Core.Keeps.trans (by simp [Core.Keeps]) (ih _)

@[simp] theorem Core.settle_kept (s : Core) : Core.Keeps s (Core.settle s) := by
  unfold Core.Keeps Core.settle
  simp

end Sys2Proof.Machine
end

