-- ==== Sys2Proof/Laws/Ops.lean ====
section
/-! SUPPORT. What the shared operations on the mounted volume, the view light, the fault set and the converter do, said
once under the conditions in which they are plain. -/

namespace Sys2Proof.Machine

/-! ### Records -/

theorem Core.record_of (s : Core) (i : Fin 16) (v : Volume) (h : s.vols.slots[i] = some v) : s.record i = some (i, v) := by
  simp only [Core.record, i.isLt, dite_true]
  simp only [Fin.getElem_fin] at h
  simp [h]

theorem Core.mounted_of (s : Core) (i : Fin 16) (v : Volume) (hm : s.vols.mounted = some i)
    (h : s.vols.slots[i] = some v) : s.mounted = some (i, v) := by
  simp only [Core.mounted, hm, h, Option.map_some]

theorem Core.volume_of (s : Core) (i : Fin 16) (v : Volume) (hm : s.vols.mounted = some i)
    (h : s.vols.slots[i] = some v) : s.volume = some v := by
  simp only [Core.volume, Core.mounted_of s i v hm h, Option.map_some]

theorem Core.cls_of (s : Core) (i : Fin 16) (v : Volume) (c : ClassFields) (hm : s.vols.mounted = some i)
    (h : s.vols.slots[i] = some v) (hc : s.vols.classes[v.cls] = some c) : s.cls = some c := by
  simp only [Core.cls, Core.volume_of s i v hm h, hc]

theorem Core.cursor_of (s : Core) (i : Fin 16) (v : Volume) (hm : s.vols.mounted = some i)
    (h : s.vols.slots[i] = some v) : s.cursor = v.cursor := by
  simp only [Core.cursor, Core.volume_of s i v hm h]

theorem Core.editSlot_of (s : Core) (i : Fin 16) (v : Volume) (f : Volume → Volume) (h : s.vols.slots[i] = some v) :
    s.editSlot i f = s.setSlot i (some (f v)) := by
  simp only [Core.editSlot, h]

theorem Core.editMounted_of (s : Core) (i : Fin 16) (v : Volume) (f : Volume → Volume) (hm : s.vols.mounted = some i)
    (h : s.vols.slots[i] = some v) : s.editMounted f = s.setSlot i (some (f v)) := by
  simp only [Core.editMounted, hm, Core.editSlot_of s i v f h]

/-- The slot just set holds what it was set to. -/
theorem Core.setSlot_get (s : Core) (i : Fin 16) (v : Option Volume) : (s.setSlot i v).vols.slots[i] = v := by
  simp [Core.setSlot]

/-- A slot set twice holds the second. -/
theorem Core.setSlot_setSlot (s : Core) (i : Fin 16) (v w : Option Volume) : (s.setSlot i v).setSlot i w = s.setSlot i w := by
  simp [Core.setSlot]

/-! ### Exceptions -/

/-- An append with room in the pool and a detail of 32 bits (R22). -/
theorem Core.appendException_of (s : Core) (i : Fin 16) (v : Volume) (k : ExceptionKind) (opening detail : Nat)
    (seq : Option SeqNo) (h : s.vols.slots[i] = some v) (hr : 0 < s.freeExceptions) (hd : detail ≤ 4294967295) :
    s.appendException i k opening detail seq = s.setSlot i (some { v with
      exceptions := v.exceptions ++
        [{ kind := k, opening := opening, detail := detail, seq := seq, stamp := s.stamp }] }) := by
  simp only [Core.appendException, Nat.ne_of_gt hr, if_false, Core.editSlot_of s i v _ h, max32, Nat.min_eq_left hd]

theorem Core.appendMounted_of (s : Core) (i : Fin 16) (v : Volume) (k : ExceptionKind) (opening detail : Nat)
    (seq : Option SeqNo) (hm : s.vols.mounted = some i) (h : s.vols.slots[i] = some v) (hr : 0 < s.freeExceptions)
    (hd : detail ≤ 4294967295) :
    s.appendMounted k opening detail seq = s.setSlot i (some { v with
      exceptions := v.exceptions ++
        [{ kind := k, opening := opening, detail := detail, seq := seq, stamp := s.stamp }] }) := by
  simp only [Core.appendMounted, hm, Core.appendException_of s i v k opening detail seq h hr hd]

/-! ### The view light -/

theorem Core.closePeriod_none (s : Core) (h : s.dose.accrual = none) : s.closePeriod = s := by
  simp only [Core.closePeriod, h]

theorem Core.reviseView_none (s : Core) (h : s.dose.accrual = none) : s.reviseView = s := by
  simp only [Core.reviseView, h]

theorem ViewLight.state_off (v : ViewLight) (h : v.wanted = false) : v.state = .off := by
  simp [ViewLight.state, h]

/-- A change of the view light's flags that leaves it dark. -/
theorem Core.withView_dark (s : Core) (f : ViewLight → ViewLight) (h : s.illum.view.state ≠ .lit)
    (hf : (f s.illum.view).state ≠ .lit) :
    s.withView f = { s with illum := { s.illum with view := f s.illum.view } } := by
  simp only [Core.withView, h, if_false, Core.beginPeriod, Core.beginPeriodAt, hf]

/-- The cursor moved while the view light is off (R18). -/
theorem Core.moveCursor_dark (s : Core) (i : Fin 16) (v : Volume) (k : Nat) (hm : s.vols.mounted = some i)
    (h : s.vols.slots[i] = some v) (ha : s.dose.accrual = none) (hw : s.illum.view.wanted = false)
    (hc : s.illum.view.ceiling = false) :
    s.moveCursor k = { s.setSlot i (some { v with cursor := k }) with
      dose := { s.dose with aOpen := s.dose.aOpen.map fun _ => 0 }
      cap := { s.cap with litCount := 0 } } := by
  obtain ⟨now, depthAt, free, vols, ⟨aOpen, accrual⟩, meas, ⟨staged, active, eOp, lampCal, life, flash, closing, off, hold,
    ⟨wanted, suppressed, thermal, budget, ceiling⟩⟩, motion, cap, seq, faults, first, panel, bands, out, sig⟩ := s
  simp only at ha hw hc
  subst ha hw hc
  simp only [Core.moveCursor, Core.closePeriod]
  rw [Core.editMounted_of _ i v _ hm h]
  simp [Core.withView, ViewLight.state, Core.beginPeriod, Core.beginPeriodAt, Core.setSlot]

/-! ### Faults -/

/-- With no fault in the set nothing is judged. -/
theorem Core.judgeFaults_nil (s : Core) (h : s.faults = []) : s.judgeFaults = s := by
  simp only [Core.judgeFaults, h, Core.endFaults]

theorem Core.setPlaten_nil (s : Core) (p : PlatenState) (h : s.faults = []) :
    s.setPlaten p = { s with motion := { s.motion with platen := p, platenSince := s.now } } :=
  Core.judgeFaults_nil _ h

theorem Core.setArm_nil (s : Core) (a : ArmState) (st : ArmStage) (h : s.faults = []) :
    s.setArm a st = { s with motion := { s.motion with arm := a, stage := st, armSince := s.now } } :=
  Core.judgeFaults_nil _ h

theorem Core.setAngle_nil (s : Core) (a : AngleState) (h : s.faults = []) :
    s.setAngle a = { s with motion := { s.motion with angle := a, angleSince := s.now } } :=
  Core.judgeFaults_nil _ h

/-- The first fault of an empty set (R168, R170). -/
theorem Core.raiseFault_nil (s : Core) (k : FaultKind) (d : FaultDetail) (h : s.faults = []) :
    s.raiseFault k d = ({ s with
      faults := [{ kind := k, detail := d, stamp := s.stamp, count := 1, acked := false }]
      first := some { kind := k, detail := d, stamp := s.stamp } }.report
        (.faultRaised k d s.stamp 1 true 1)).enterHold .fault := by
  simp [Core.raiseFault, h, findFault, raisedEntry, placeFault]

/-- A hold entered leaves all but the sequencer and the messages (R139). -/
theorem Core.enterHold_keeps (s : Core) (r : HoldReason) :
    (s.enterHold r).seq.state = .held ∧ (s.enterHold r).seq.reason = some r
      ∧ (s.enterHold r).seq.queue = s.seq.queue ∧ (s.enterHold r).seq.op = s.seq.op
      ∧ (s.enterHold r).seq.started = s.seq.started ∧ (s.enterHold r).seq.cycle = s.seq.cycle
      ∧ (s.enterHold r).seq.awaiting = s.seq.awaiting ∧ (s.enterHold r).seq.interlock = s.seq.interlock
      ∧ (s.enterHold r).seq.latched = s.seq.latched ∧ (s.enterHold r).seq.nextId = s.seq.nextId
      ∧ (s.enterHold r).now = s.now ∧ (s.enterHold r).free = s.free ∧ (s.enterHold r).vols = s.vols
      ∧ (s.enterHold r).dose = s.dose ∧ (s.enterHold r).meas = s.meas ∧ (s.enterHold r).illum = s.illum
      ∧ (s.enterHold r).motion = s.motion ∧ (s.enterHold r).cap = s.cap ∧ (s.enterHold r).faults = s.faults
      ∧ (s.enterHold r).first = s.first ∧ (s.enterHold r).panel = s.panel ∧ (s.enterHold r).bands = s.bands
      ∧ (s.enterHold r).sig = s.sig := by
  unfold Core.enterHold
  split
  · rename_i h
    simp [h.1, h.2]
  · unfold Core.setHold Core.stopPause
    dsimp only
    split <;> simp [Core.reportHold]

/-- A hold entered with no PAUSE running. -/
theorem Core.setHold_still (s : Core) (r : HoldReason) (h : s.seq.pause = none) :
    s.setHold r = { s with seq := { s.seq with state := .held, reason := some r } }.reportHold r := by
  simp only [Core.setHold, Core.stopPause, h]

/-- A fault raised (R168 to R171): the set with its entry, the first-fault record when the set was empty, and HELD with
reason FAULT; all but these, the messages and a stopped PAUSE stands. -/
theorem Core.raiseFault_keeps (s : Core) (k : FaultKind) (d : FaultDetail) :
    (s.raiseFault k d).faults = placeFault (raisedEntry k d s.stamp (findFault k s.faults)) s.faults
      ∧ (s.raiseFault k d).first =
          (if s.faults.isEmpty then some { kind := k, detail := d, stamp := s.stamp } else s.first)
      ∧ (s.raiseFault k d).seq.state = .held ∧ (s.raiseFault k d).seq.reason = some .fault
      ∧ (s.raiseFault k d).seq.queue = s.seq.queue ∧ (s.raiseFault k d).seq.op = s.seq.op
      ∧ (s.raiseFault k d).seq.cycle = s.seq.cycle ∧ (s.raiseFault k d).seq.awaiting = s.seq.awaiting
      ∧ (s.raiseFault k d).seq.started = s.seq.started
      ∧ (s.raiseFault k d).now = s.now ∧ (s.raiseFault k d).free = s.free ∧ (s.raiseFault k d).vols = s.vols
      ∧ (s.raiseFault k d).dose = s.dose ∧ (s.raiseFault k d).meas = s.meas ∧ (s.raiseFault k d).illum = s.illum
      ∧ (s.raiseFault k d).motion = s.motion ∧ (s.raiseFault k d).cap = s.cap
      ∧ (s.raiseFault k d).panel = s.panel ∧ (s.raiseFault k d).bands = s.bands ∧ (s.raiseFault k d).sig = s.sig := by
  unfold Core.raiseFault
  dsimp only
  generalize hc : Core.report _ _ = c
  have h := c.enterHold_keeps .fault
  simp only [h]
  simp [← hc]

/-! ### Time -/

/-- A command does not take time back. -/
theorem Core.atUs_le (us : Nat) (s : Core) : s.now ≤ (s.atUs us).now := Nat.le_max_left _ _

/-- A command leaves the millisecond as it is (notes 2). -/
theorem Core.atUs_ms (us : Nat) (s : Core) : (s.atUs us).now / 1000 = s.now / 1000 := by
  have h (n : Nat) : max n (n / 1000 * 1000 + min us 999) / 1000 = n / 1000 := by omega
  exact h s.now

/-- So the time stamp stands. -/
theorem Core.atUs_stamp (us : Nat) (s : Core) : (s.atUs us).stamp = s.stamp := by
  simp only [Core.stamp, Core.atUs_ms]

/-! ### The converter -/

/-- A request posted to a free converter with nothing pending is granted at once (R52, R54). -/
theorem Core.post_free (s : Core) (ch : Channel) (who : Requester) (hc : s.meas.conv = none)
    (hp : s.meas.pending = ⟨none, none, none, none⟩) :
    s.post ch .spot who = { s with meas := { s.meas with
      conv := some { channel := ch, kind := .spot, requesters := [who], since := s.now, limit := 12000 } } } := by
  have hn : s.meas.next = none := by
    simp only [Measure.next, hp]
    decide
  simp only [Core.post, hc, hn, if_true, Core.grant, Core.convLimit]

/-- Some requesters withdraw from a channel, and no window of another stays in its entry (R56). -/
theorem Core.withdraw_without (s : Core) (ch : Channel) (gone : Requester → Bool) (gs : List Requester)
    (hg : ∀ r, gone r = decide (r ∈ gs))
    (h : ∀ e, s.meas.pending.get ch = some e → .window ∉ e.requesters ∨ .window ∈ gs) :
    s.withdraw ch gone = { s with meas := s.meas.without ch gs } := by
  have hf : (fun r => !gone r) = fun r => decide (r ∉ gs) := funext fun r => by simp [hg]
  have he : (s.meas.pending.get ch).bind (withdrawEntry gone) = (s.meas.pending.get ch).bind fun e =>
      let others := e.requesters.filter fun r => decide (r ∉ gs)
      if others = [] then none else some { kind := .spot, requesters := others } := by
    cases hp : s.meas.pending.get ch with
    | none => rfl
    | some e =>
      have hw : (e.requesters.filter fun r => decide (r ∉ gs)).contains .window = false := by
        rcases h e hp with h | h <;> simp [h]
      simp only [Option.bind_some, withdrawEntry, hf, hw, Bool.false_eq_true, if_false]
  simp only [Core.withdraw, Measure.without, hf, he]

/-! ### The clearing raise -/

/-- The end of a clearing raise clears the operation in hand, and holds the sequencer unless it is HELD (R145, R150). -/
theorem Core.stepRaised_of (s : Core) (h : s.seq.op = some .raise) :
    s.stepRaised = if s.seq.state = .held then s.setOp none
      else (s.setOp none).setHold (if s.seq.state = .halting then .halt else .assist) := by
  simp only [Core.stepRaised, h, if_true, Core.setOp]
  cases s.seq.state <;> rfl

end Sys2Proof.Machine
end

