-- ==== Sys2Proof/Laws/Wire.lean ====
section
/-! SUPPORT. The widths of the layouts of section 11.6 and of the fields that may be absent (R199): a field takes the
same number of bytes whether it is present or not. -/

namespace Sys2Proof.Machine

@[simp] theorem le_length (n x : Nat) : (le n x).length = n := by
  induction n generalizing x with
  | zero => rfl
  | succ n ih => simp [le, ih]

@[simp] theorem leInt_length (n : Nat) (x : Int) : (leInt n x).length = n := by simp [leInt]

@[simp] theorem flag_length (b : Bool) : (flag b).length = 1 := rfl

@[simp] theorem codeIn_length {α : Type} [BEq α] (xs : List α) (x : α) : (codeIn xs x).length = 1 := by simp [codeIn]

/-- A field that may be absent has the same width, present or absent, when its own bytes have the width named (R199). -/
theorem opt_length {α : Type} {n : Nat} {f : α → List Byte} (h : ∀ x, (f x).length = n) (o : Option α) :
    (opt n f o).length = n + 1 := by
  cases o <;> simp [opt, h]

@[simp] theorem resultFlagBytes_length (f : Option ResultFlag) : (resultFlagBytes f).length = 3 := by
  simp [resultFlagBytes]

/-- A latch takes the width that its absence takes (section 3.2, R199). -/
@[simp] theorem Result.bytes_length (r : Result) : r.bytes.length = 17 := by
  simp [Result.bytes, opt_length (leInt_length 4)]

/-- The figures of a refusal take the width that their absence takes (R34, R199). -/
@[simp] theorem RefusalFigures.bytes_length (f : RefusalFigures) : f.bytes.length = 25 := by
  simp [RefusalFigures.bytes, opt_length (le_length _)]

/-- The turn in hand takes the width that its absence takes (section 5.1, R199). -/
@[simp] theorem turnBytes_length (t : Turn) (stage : ArmStage) : (turnBytes t stage).length = 6 := by simp [turnBytes]

/-- A page label is 6 bytes (section 11.6). -/
@[simp] theorem PageLabel.bytes_length (l : PageLabel) : l.bytes.length = 6 := by
  cases l <;> simp [PageLabel.bytes]

@[simp] theorem labelBytes_length (l : Option PageLabel) : (labelBytes l).length = 6 := by
  cases l <;> simp [labelBytes]

/-- An exception entry is 16 bytes (section 11.6). -/
@[simp] theorem ExceptionEntry.bytes_length (e : ExceptionEntry) : e.bytes.length = 16 := by
  simp only [ExceptionEntry.bytes, List.length_append, le_length, codeIn_length, flag_length]

/-- A CAPTURE record is 60 bytes (section 11.6). -/
@[simp] theorem CaptureRecord.bytes_length (r : CaptureRecord) : r.bytes.length = 60 := by
  unfold CaptureRecord.bytes
  simp only [List.length_append, le_length, leInt_length, codeIn_length]
  rw [labelBytes_length, labelBytes_length]

/-- A MARK record is 15 bytes (section 11.6). -/
@[simp] theorem MarkRecord.bytes_length (r : MarkRecord) : r.bytes.length = 15 := by simp [MarkRecord.bytes]

/-- A segment is 7 bytes (R199). -/
@[simp] theorem Segment.bytes_length (g : Segment) : g.bytes.length = 7 := by simp [Segment.bytes]

end Sys2Proof.Machine
end

