-- ==== Sys2Proof/WellFormed.lean ====
section
/-! DEFINITION. Which commands a frame or a line of the station can bring: every field of a request fits the bytes
that R199 gives it, a text and a list fit their count bytes, and an event's instant lies inside a millisecond. A field
outside the range its rule allows is still well formed: its rule answers it. -/

namespace Sys2Proof

/-- An instant inside a millisecond (notes 2). -/
def usOk (us : Nat) : Bool := decide (us < 1000)

/-- A number that fits `n` bytes without a sign. -/
def fits (n x : Nat) : Bool := decide (x < 2 ^ (8 * n))

/-- A number that fits `n` bytes in two's complement. -/
def fitsInt (n : Nat) (x : Int) : Bool := decide (-2 ^ (8 * n - 1) ≤ x) && decide (x < 2 ^ (8 * n - 1))

/-- A text that fits its count byte. -/
def textFits (t : List Byte) : Bool := decide (t.length < 256)

/-- A segment of 7 bytes. -/
def SegmentSpec.wf (g : SegmentSpec) : Bool := fits 1 g.kind && fits 1 g.style && fits 2 g.first && fits 2 g.last

/-- A segment list that fits its count byte and, with at most 64 bytes of other fields, a payload. -/
def segsFit (gs : List SegmentSpec) : Bool := decide (gs.length * 7 ≤ 1024) && gs.all SegmentSpec.wf

/-- A class as CLASS_SET carries it. -/
def ClassFields.wf (x : ClassFields) : Bool :=
  textFits x.name && fits 4 x.eMat && fits 4 x.cOpen && fitsInt 2 x.warn && fitsInt 2 x.limit && fits 1 x.maxAngle
    && fits 1 x.vacuum && fits 2 x.puff && fits 1 x.retryLimit && fits 2 x.openFloor && fits 2 x.singleFloor
    && fits 2 x.force

/-- A lamp setting as a request carries it. -/
def Setting.wf (x : Setting) : Bool :=
  fits 2 x.cVU && fits 2 x.cVL && fits 2 x.cRU && fits 2 x.cRL && fits 4 x.d && fits 4 x.eFloor && fits 2 x.cV

/-- A lamp calibration as a request carries it. -/
def LampCal.wf (x : LampCal) : Bool :=
  fits 4 x.nVU && fits 4 x.nVL && fits 4 x.nRU && fits 4 x.nRL && fits 2 x.nView

/-- The parameters of a step as STEP_QUEUE carries them; the codes 0 to 5 are those of the six kinds. -/
def StepSpec.wf : StepSpec → Bool
  | .capture side mode => fits 1 side && fits 1 mode
  | .turn => true
  | .cycle stop retakes => fits 2 stop && fits 1 retakes
  | .light _ x => x.wf
  | .pause ms => fits 4 ms
  | .mark note => fits 2 note
  | .unknown code => fits 1 code && decide (6 ≤ code)

/-- A guard as STEP_QUEUE carries it. -/
def guardFits : Option GuardSpec → Bool
  | none => true
  | some g => fits 1 g.cond

/-- A whole frame (section 11.6). -/
def RxFrame.wf (f : RxFrame) : Bool := decide (f.payload.length ≤ 1024)

/-- The instant of a request. -/
def Req.wf (q : Req) : Bool := usOk q.us

/-- A command that a frame or a line can bring. -/
def Instr.wf : Instr → Bool
  | .powerOn => true
  | .identify q => q.wf
  | .linkStatus q _ => q.wf
  | .statusGet q => q.wf
  | .stationReset q => q.wf
  | .linkReset q => q.wf
  | .classSet q cls _ x => q.wf && fits 1 cls && x.wf
  | .volumeAdd q shelf cls budget _ p segs =>
    q.wf && textFits shelf && fits 1 cls && fits 6 budget && fits 1 p && segsFit segs
  | .volumeMount q slot _ start angle => q.wf && fits 1 slot && fits 2 start && fits 1 angle
  | .volumeUnmount q slot => q.wf && fits 1 slot
  | .volumeClose q slot _ => q.wf && fits 1 slot
  | .volumeWithdraw q slot => q.wf && fits 1 slot
  | .volumeRemove q slot => q.wf && fits 1 slot
  | .volumeSet q slot _ budget p cls segs =>
    q.wf && fits 1 slot && fits 6 budget && fits 1 p && fits 1 cls && segsFit segs
  | .volumeGet q slot _ start => q.wf && fits 1 slot && fits 2 start
  | .cursorSet q opening => q.wf && fits 2 opening
  | .exceptionsTake q slot n => q.wf && fits 1 slot && fits 1 n
  | .lightStage q _ x => q.wf && x.wf
  | .limitsSet q eOp => q.wf && fits 4 eOp
  | .lampsCalibrate q _ x => q.wf && x.wf
  | .calibrationFlash q => q.wf
  | .viewOn q => q.wf
  | .viewOff q => q.wf
  | .calibrate q channel _ x y => q.wf && fits 1 channel && fitsInt 4 x && fitsInt 5 y
  | .measure q channel => q.wf && fits 1 channel
  | .home q => q.wf
  | .angleSet q degrees => q.wf && fits 1 degrees
  | .captureDrain q n => q.wf && fits 1 n
  | .capturePeek q n => q.wf && fits 1 n
  | .framesSet q ms => q.wf && fits 2 ms
  | .stepQueue q work gate => q.wf && work.wf && guardFits gate
  | .stopSet q id opening => q.wf && fits 2 id && fits 2 opening
  | .halt q => q.wf
  | .abort q => q.wf
  | .resume q => q.wf
  | .stepFlush q => q.wf
  | .faultClear q kind => q.wf && fits 1 kind
  | .faultClearAll q => q.wf
  | .panelSet q ms => q.wf && fits 1 ms
  | .counterSet q n _ _ event threshold _ _ => q.wf && fits 1 n && fits 1 event && fitsInt 4 threshold
  | .counterGet q _ => q.wf
  | .bandsSet q t1 t2 t3 t4 => q.wf && fits 4 t1 && fits 4 t2 && fits 4 t3 && fits 4 t4
  | .unknownKind us _ _ => usOk us
  | .droppedRequest us _ _ => usOk us
  | .checkError us f => usOk us && f.wf
  | .fragment us _ _ => usOk us
  | .interByteGap us _ _ => usOk us
  | .lineBreak us => usOk us
  | .frameSent us => usOk us
  | .advance us => usOk us
  | .retakeKey us => usOk us
  | .turnedKey us => usOk us
  | .backKey us => usOk us
  | .holdKey us => usOk us
  | .continueKey us => usOk us
  | .keyRelease us _ => usOk us
  | .curtainBroken us => usOk us
  | .curtainClear us => usOk us
  | .toneEnd us => usOk us
  | .spotResult us _ => usOk us
  | .conversionFault us => usOk us
  | .lateResultDiscarded us _ => usOk us
  | .tempTimer us => usOk us
  | .lampOff us _ => usOk us
  | .recoveryEnd us => usOk us
  | .thermalWaitExpiry us => usOk us
  | .viewPeriodEnd us => usOk us
  | .homingPhaseDone us => usOk us
  | .homingPhaseTimeout us => usOk us
  | .angleReached us => usOk us
  | .angleTimeout us => usOk us
  | .platenSampleTimer us => usOk us
  | .settlingEnd us => usOk us
  | .loweringTimeout us => usOk us
  | .platenUp us => usOk us
  | .raiseTimeout us => usOk us
  | .cupContact us => usOk us
  | .vacuumAtLevel us => usOk us
  | .puffEnd us => usOk us
  | .vacuumTimeout us => usOk us
  | .vacuumBelow us => usOk us
  | .leafRaised us => usOk us
  | .putDownDone us => usOk us
  | .sweepArrived us => usOk us
  | .releaseDone us => usOk us
  | .armAtPark us => usOk us
  | .armLimitExpiry us => usOk us
  | .cameraLineChange us _ _ _ => usOk us
  | .cameraWaitExpiry us => usOk us
  | .frameTimeout us => usOk us
  | .pauseEnd us => usOk us
  | .queueDepthSample us => usOk us
  | .msTick => true
  | .rawCurtainInputChange us _ => usOk us
  | .rawInputLevelChange us _ _ => usOk us
  | .firstSettling us _ => usOk us
  | .lineReturnToIdle us => usOk us

end Sys2Proof
end

