-- ==== Sys2Proof/Tests/Slice0.lean ====
section
/-! SUPPORT. Tests of the model: the form checks refuse what is ill formed, the manual's worked figures come out, and
each statement's hypotheses are met by a state and operands shown here. -/

open Sys2Proof Sys2Proof.Machine

/-! ### Ill-formed commands are refused -/

/-- A request at the start of a millisecond. -/
def tq : Req := { us := 0, tag := 1#8, lengthOk := true }

/-- Of two candidate classes, the one of section 2.6. -/
def tClass : ClassFields :=
  { name := [0x76#8], eMat := 8000, cOpen := 600000, warn := 300, limit := 350, maxAngle := 110, vacuum := 30, puff := 40,
    retryLimit := 2, openFloor := 600, singleFloor := 150, force := 40 }

/-- The staged setting of section 2.6. -/
def tSetting : Setting := { cVU := 2048, cVL := 2048, cRU := 2048, cRL := 2048, d := 40000, eFloor := 6000, cV := 1024 }

/-- The lamp calibration of sections 2.6 and 2.6.4. -/
def tLamps : LampCal := { nVU := 5000, nVL := 5000, nRU := 5000, nRL := 5000, nView := 2000 }

theorem test_wf_accepts : (Instr.lightStage tq 0x7F#16 tSetting).wf = true := by decide
theorem test_wf_refuses_instant : (Instr.identify { tq with us := 1000 }).wf = false := by decide
theorem test_wf_refuses_byte : (Instr.measure tq 256).wf = false := by decide
theorem test_wf_refuses_negative : (Instr.calibrate tq 0 6#16 (-2147483649) 0).wf = false := by decide
theorem test_wf_refuses_text : (Instr.volumeAdd tq (List.replicate 256 0x41#8) 0 1 0 0 []).wf = false := by decide +kernel
theorem test_wf_refuses_segments : segsFit (List.replicate 147 ⟨0, 0, 1, 1, false⟩) = false := by decide +kernel
theorem test_wf_refuses_segment : SegmentSpec.wf ⟨256, 0, 1, 1, false⟩ = false := by decide
theorem test_wf_refuses_class : ({ tClass with puff := 65536 } : ClassFields).wf = false := by decide
theorem test_wf_refuses_class_name : ({ tClass with name := List.replicate 256 0x41#8 } : ClassFields).wf = false := by decide +kernel
theorem test_wf_refuses_setting : ({ tSetting with cV := 65536 } : Setting).wf = false := by decide
theorem test_wf_refuses_lamps : ({ tLamps with nView := 65536 } : LampCal).wf = false := by decide
theorem test_wf_refuses_step : StepSpec.wf (.cycle 65536 0) = false := by decide
theorem test_wf_refuses_known_as_unknown : StepSpec.wf (.unknown 5) = false := by decide
theorem test_wf_refuses_guard : guardFits (some { cond := 256, want := true }) = false := by decide
theorem test_wf_refuses_frame :
    RxFrame.wf { kind := 1, tag := 0, payload := List.replicate 1025 0#8, check := 0 } = false := by decide +kernel

/-! ### The manual's worked figures -/

/-- The typed segments of section 1.1.1. -/
def tSpecs : List SegmentSpec :=
  [⟨0, 1, 1, 4, false⟩, ⟨0, 0, 1, 10, false⟩, ⟨2, 0, 11, 12, false⟩, ⟨0, 0, 13, 20, false⟩, ⟨1, 3, 1, 2, true⟩]

/-- Section 1.1.1: the segments, and so 24 leaves. -/
def tSegs : List Segment :=
  [{ kind := .leaves, style := .romanLower, first := 1, last := 4, foldout := false },
   { kind := .leaves, style := .arabic, first := 1, last := 10, foldout := false },
   { kind := .gap, style := .arabic, first := 11, last := 12, foldout := false },
   { kind := .leaves, style := .arabic, first := 13, last := 20, foldout := false },
   { kind := .plates, style := .unnumbered, first := 1, last := 2, foldout := true }]

/-- Section 1.1.1: the list is accepted, with the codes of R199. -/
theorem test_segments_accepted : acceptedSegments tSpecs = some tSegs := by decide
/-- Section 1.1.1: L is 24. -/
theorem test_leaf_count : leafCount tSegs = 24 := by decide
/-- Section 1.1.1, opening 0. -/
theorem test_labels_front : leftLabel tSegs 0 = .frontBoard ∧ rightLabel tSegs 0 = .leaf 0 .romanLower 1 true := by decide
/-- Section 1.1.1, opening 14: the gap stands before the right page. -/
theorem test_labels_gap :
    leftLabel tSegs 14 = .leaf 1 .arabic 10 false ∧ rightLabel tSegs 14 = .leaf 3 .arabic 13 true
      ∧ gapBefore tSegs 14 = true ∧ gapBefore tSegs 15 = false := by decide
/-- Section 1.1.1, openings 22 to 24. -/
theorem test_foldouts :
    isFoldout tSegs 22 = false ∧ isFoldout tSegs 23 = true ∧ isFoldout tSegs 24 = true
      ∧ leftLabel tSegs 24 = .leaf 4 .unnumbered 2 false ∧ rightLabel tSegs 24 = .backBoard := by decide

/-- Section 2.6.1, flash 1: limited by the material cap. -/
def tFirst : Admission :=
  { cVU := 1637, cVL := 1637, cRU := 1637, cRL := 1637, eReq := 10003, eEff := 8000, eApp := 7996, cause := .material,
    dimmed := true, qPlan := 319840, d := 40000, t := some 250, dark := false }

/-- A volume of the class of section 2.6 with an ample budget, in the foliation of section 1.1.1. -/
def tVolume : Volume :=
  { inst := 1, shelf := [0x41#8], cls := 0, state := .registered, budget := 10000000, uF := 1000000, uV := 0, p := 10,
    low := false, exhausted := false, segs := tSegs, cursor := 5, captured := [],
    tallies := { captured := 0, attempts := 0, retakes := 0, turns := 0, manualTurns := 0, doublePicks := 0 },
    exceptions := [], summary := Summary.zero }

/-- Section 2.6.1, flash 1. -/
theorem test_admission_material :
    admitCapture tClass tVolume 0 tSetting tLamps 200000 (some 250) false none = .ok tFirst := by decide +kernel
/-- Section 2.6.1, flash 2: limited by the dose. -/
theorem test_admission_dose :
    admitCapture tClass tVolume 319920 tSetting tLamps 200000 (some 250) false none =
      .ok { tFirst with cVU := 1433, cVL := 1433, cRU := 1433, cRL := 1433, eEff := 7002, eApp := 6999, cause := .dose,
                        qPlan := 279960 } := by decide +kernel
/-- Section 2.6.1, flash 3: refused CEILING. -/
theorem test_admission_ceiling :
    admitCapture tClass tVolume 599960 tSetting tLamps 200000 (some 250) false none =
      .error { reason := .ceiling, figures := some { cause := .dose, eReq := 10003, eEff := 1, floor := 6000,
                                                     aOpen := some 599960, u := some 1000000 } } := by decide +kernel
/-- Section 2.6.2: a warm page, refused with the floor of 6,000 and admitted with 3,000. -/
theorem test_admission_thermal :
    admitCapture tClass tVolume 0 { tSetting with eFloor := 3000 } tLamps 200000 (some 330) false none =
      .ok { tFirst with cVU := 819, cVL := 819, cRU := 819, cRL := 819, eEff := 4001, eApp := 4000, cause := .thermal,
                        qPlan := 160000, t := some 330 } := by decide +kernel
/-- Section 2.6.3: RECTO alone, not dimmed. -/
theorem test_admission_recto :
    admitCapture tClass tVolume 0 (forcedSide (some .recto) tSetting) tLamps 200000 (some 250) false none =
      .ok { tFirst with cVU := 0, cVL := 0, cRU := 2048, cRL := 2048, eReq := 5002, eEff := 5002, eApp := 5002,
                        cause := .none, dimmed := false, qPlan := 200080 } := by decide +kernel
/-- Section 2.6.1: the meter of flash 1, and section 3.4.1: a spot of P. -/
theorem test_meter :
    meterLux 1343000 { x := 1200, y := 50000 } = 7998 ∧ meterLux 21000 { x := 1200, y := 50000 } = 119 := by decide
/-- Section 3.4.1: channel T, rounded down, and clamped. -/
theorem test_temperature :
    temperatureOf 2500000 { x := -200, y := 1500 } = 247 ∧ temperatureOf (-1000000) { x := -200, y := 1500 } = -379
      ∧ temperatureOf 8388607 { x := -200, y := 1500 } = 1300
      ∧ temperatureOf (-8388608) { x := -200, y := 1500 } = -400 := by decide
/-- Section 3.4.1: channel F. -/
theorem test_force : forceOf 170000 { x := 3000, y := 2000 } = 39 := by decide
/-- Section 3.4.1: channel G. -/
theorem test_transmittance :
    transmittanceOf 4158500 4200500 500 = 990 ∧ transmittanceOf 350500 4200500 500 = 83
      ∧ transmittanceOf 4300000 4200500 500 = 1000 := by decide
/-- R189 is the cyclic redundancy check whose published check value, over the digits 1 to 9, is 29B1h. -/
theorem test_check_value :
    frameCheck [0x31#8, 0x32#8, 0x33#8, 0x34#8, 0x35#8, 0x36#8, 0x37#8, 0x38#8, 0x39#8] = 0x29B1#16 := by decide +kernel

/-! ### Frames (section 11.6), with checks worked out by hand from R189 -/

/-- MEASURE of T: channel code 3. -/
theorem test_frame_measure :
    decodeFrame 0 { kind := 0x29, tag := 7, payload := [3#8], check := 0x0AFE#16 } = .measure { tq with tag := 7 } 3 := by
  decide +kernel
/-- The same with a byte too many: its length is wrong (R190). -/
theorem test_frame_measure_long :
    decodeFrame 0 { kind := 0x29, tag := 7, payload := [3#8, 0#8], check := 0x91AA#16 } =
      .measure { us := 0, tag := 7, lengthOk := false } 3 := by decide +kernel
/-- The same with one bit corrupted. -/
theorem test_frame_check :
    decodeFrame 0 { kind := 0x29, tag := 7, payload := [2#8], check := 0x0AFE#16 } =
      .checkError 0 { kind := 0x29, tag := 7, payload := [2#8], check := 0x0AFE#16 } := by decide +kernel
/-- CURSOR_SET to 13: two bytes, the least significant first. -/
theorem test_frame_cursor :
    decodeFrame 0 { kind := 0x19, tag := 2, payload := [13#8, 0#8], check := 0x75BC#16 } =
      .cursorSet { tq with tag := 2 } 13 := by decide +kernel
/-- LIMITS_SET to 10,000 lux. -/
theorem test_frame_limits :
    decodeFrame 0 { kind := 0x21, tag := 3, payload := [0x10#8, 0x27#8, 0#8, 0#8], check := 0xB8D8#16 } =
      .limitsSet { tq with tag := 3 } 10000 := by decide +kernel
/-- A kind outside the catalogue. -/
theorem test_frame_unknown :
    decodeFrame 0 { kind := 0x7F, tag := 1, payload := [], check := 0x8C86#16 } = .unknownKind 0 0x7F 1 := by
  decide +kernel

/-! ### States for the witnesses -/

/-- The power-on state with its blocks changed. -/
def tAt (f : Core → Core) : State := { State.reset with core := f State.reset.core }

/-- A mounted volume of a defined class, with the curtain CLEAR, T and F calibrated and time running. -/
def tMount (c : Core) : Core :=
  { c with
    now := 5000000
    vols := { c.vols with
      classes := c.vols.classes.set 0 (some tClass), slots := c.vols.slots.set 0 (some tVolume), mounted := some 0 }
    dose := { c.dose with aOpen := some 0 }
    panel := { c.panel with broken := false, rawBroken := false }
    motion := { c.motion with
      platen := .up, arm := .parked, angle := .atAngle, anglePos := some 110, cRef := some 4200500 }
    meas := { c.meas with cal := ⟨some ⟨1200, 50000⟩, none, some ⟨3000, 2000⟩, some ⟨-200, 1500⟩⟩ }
    illum := { c.illum with lampCal := some tLamps, staged := tSetting } }

/-- That state. -/
def tMounted : State := tAt tMount

/-- A request is taken when the link port is as at power-on. -/
theorem taken_of (q : Req) (s : State) (h : s.link = State.reset.link) (hq : q.lengthOk = true) : Taken q s := by
  obtain ⟨c, l, k, p⟩ := s
  simp only at h
  subst h
  exact ⟨rfl, (by decide : 0 < 16), hq, fun p hp => absurd hp (List.not_mem_nil)⟩

/-! ### Each statement's hypotheses are met: the machine -/

theorem met_StepRunsTheFrontCommand : State.reset.pending = [] := rfl

/-- Counts at their bounds, and a command that waits. -/
def tFull : State :=
  { State.reset with
    link := { State.reset.link with
      fragments := 4294967295, checkErrors := 4294967295, droppedReports := 4294967295, droppedRequests := 4294967295 }
    counters := Vector.replicate 4 { Counter.powerOn with value := 4294967295 }
    pending := [.msTick] }

/-- The power-on state is within the capacities. -/
theorem withinCapacities_reset : State.reset.core.WithinCapacities :=
  ⟨by decide, by decide, fun _ => by decide, by decide, by decide, fun i v h => by simp [State.reset, Core.powerOn,
    VolumeTable.powerOn] at h, fun h => by simp [State.reset, Core.powerOn, Motion.powerOn] at h⟩

theorem met_StepKeepsBounds :
    tFull.Bounded ∧ tFull.core.WithinCapacities ∧ ∃ t, step tFull = .next t :=
  ⟨⟨⟨by decide, by decide, by decide, by decide, by decide, by decide, by decide, by decide⟩, by decide⟩,
    withinCapacities_reset, _, rfl⟩

theorem met_StepKeepsStill : tFull.core.Still ∧ tFull.core.panel.broken = true ∧ ∃ t, step tFull = .next t :=
  ⟨fun _ => by decide, rfl, _, rfl⟩

/-- A class at the upper ends of its ranges. -/
def tLastClass : ClassFields := ⟨[0x41#8], 200000, 1000000000, 1990, 2000, 180, 200, 500, 3, 1000, 999, 300⟩

/-- Settings at the ends of their ranges: a class, a lamp setting, the lamp calibration and two channels among them. -/
def tEnds : State :=
  { (tAt fun c => { c with
      bands := ⟨1, 2, 3, 200000⟩, panel := { c.panel with debounce := 80 }
      cap := { c.cap with frameTimeout := 30000 }
      illum := { c.illum with
        staged := ⟨4095, 4095, 4095, 4095, 500000, 200000, 4095⟩
        lampCal := some ⟨100000, 100000, 100000, 100000, 5000⟩ }
      meas := { c.meas with cal := ⟨some ⟨-65536, 200000⟩, some ⟨65535, 0⟩, none, some ⟨2000, 3000⟩⟩ }
      vols := { c.vols with classes := c.vols.classes.set 7 (some tLastClass) } }) with
    pending := [.halt tq] }

theorem met_StepKeepsSettingsLegal : tEnds.core.SettingsLegal ∧ ∃ t, step tEnds = .next t :=
  ⟨{ debounce := by decide, bands := by decide, cap := by decide, frameTimeout := by decide
     staged := by unfold Setting.Legal; decide
     active := by unfold Setting.Legal; decide
     lamps := fun _ h => by cases h; unfold LampCal.Legal; decide
     channels := fun ch _ h => by cases ch <;> cases h <;> unfold CalPair.Legal <;> decide
     classes := fun i x h => by
       by_cases hi : i = 7
       · subst hi; cases h; unfold ClassFields.Legal; decide
       · have key : ∀ j : Fin 8, j ≠ 7 → tEnds.core.vols.classes[j] = none := by decide
         rw [key i hi] at h; cases h }, _, rfl⟩

theorem met_TimeGoesOn :
    (∃ t, exec (.identify { tq with us := 999 }) State.reset = .next t) ∧ Instr.identify { tq with us := 999 } ≠ .powerOn
      ∧ (∃ t, exec .msTick State.reset = .next t) ∧ Instr.msTick ≠ .powerOn :=
  ⟨⟨_, rfl⟩, by decide, ⟨_, rfl⟩, by decide⟩

theorem met_SettingsHaveOneOwner :
    (∃ t, exec (.halt tq) State.reset = .next t) ∧ Instr.halt tq ≠ .powerOn
      ∧ (∀ q n m x, Instr.halt tq ≠ .classSet q n m x) ∧ (∀ q a b d e, Instr.halt tq ≠ .bandsSet q a b d e)
      ∧ (∀ q ms, Instr.halt tq ≠ .panelSet q ms) ∧ (∀ q ms, Instr.halt tq ≠ .framesSet q ms)
      ∧ (∀ q e, Instr.halt tq ≠ .limitsSet q e) ∧ (∀ q m x, Instr.halt tq ≠ .lampsCalibrate q m x)
      ∧ (∀ q ch m x y, Instr.halt tq ≠ .calibrate q ch m x y) :=
  ⟨⟨_, rfl⟩, by decide, fun _ _ _ _ h => (nomatch h), fun _ _ _ _ _ h => (nomatch h), fun _ _ h => (nomatch h),
    fun _ _ h => (nomatch h), fun _ _ h => (nomatch h), fun _ _ _ h => (nomatch h), fun _ _ _ _ _ h => (nomatch h)⟩

/-! ### The link port -/

/-- A pending-reply list with 16 entries. -/
def tSixteen : List PendingReply := (List.range 16).map fun n => { id := n, kind := 0x29, tag := 0, reply := none }

theorem met_RequestsMayBeTurnedAway :
    (Instr.halt { tq with lengthOk := false }).request? = some ({ tq with lengthOk := false }, 0x42)
      ∧ Taken { tq with lengthOk := true } State.reset ∧ (Instr.halt tq).request? = some (tq, 0x42)
      ∧ ({ State.reset.link with pending := tSixteen, nextEntry := 16 } : Link).lineBroken = false
      ∧ 16 ≤ ({ State.reset.link with pending := tSixteen, nextEntry := 16 } : Link).pending.length
      ∧ ({ State.reset.link with lineBroken := true } : Link).lineBroken = true :=
  ⟨rfl, taken_of _ _ rfl rfl, rfl, rfl, by decide, rfl⟩

theorem met_ControllerIsRead :
    Taken tq State.reset ∧ State.reset.core.motion.angle ≠ .moving
      ∧ Taken tq (tAt fun c => { c with motion := { c.motion with angle := .moving } }) :=
  ⟨taken_of _ _ rfl rfl, by decide, taken_of _ _ rfl rfl⟩

theorem met_LinkResetsStartAfresh :
    Taken tq State.reset ∧ State.reset.link.lineBroken = false
      ∧ ({ State.reset.link with lineBroken := true } : Link).lineBroken = true := ⟨taken_of _ _ rfl rfl, rfl, rfl⟩

/-- A capture attempt of both sides. -/
def tAttempt : Attempt :=
  { ask := .auto, opening := 5, side := .both, phase := .admitting, prep := .platen, interlock := false, seq := 0,
    litStamp := 0, number := 0, qPlan := 0, dose := none, frameSince := none, frameLimit := 8000, aborting := false }

/-- A flash with the admission of section 2.6.1, whose D has just elapsed. -/
def tCalFlash : Flash :=
  { by_ := .calibration 0, asked := 0, metHold := none, needLeave := false, tAsked := false, adm := some tFirst,
    litAt := 4960000 }

/-- A station with a lit attempt. -/
def tLitStation : State := tAt fun c => { tMount c with
  illum := { (tMount c).illum with life := .lit, flash := some { tCalFlash with by_ := .capture .both } }
  cap := { c.cap with attempt := some { tAttempt with phase := .lit, seq := 1, number := 1 } } }

/-- A station at rest, and one with a lit attempt. -/
theorem met_StationResetKeepsAccounts :
    (Taken tq tMounted ∧ tMounted.core.illum.life ≠ .lit ∧ tMounted.core.illum.closing = none
        ∧ tMounted.core.dose.accrual = none ∧ tMounted.core.cap.attempt = none
        ∧ tMounted.core.vols.slots[(0 : Fin 16)] = some tVolume ∧ tMounted.core.vols.slots[(1 : Fin 16)] = none)
      ∧ (Taken tq tLitStation
        ∧ tLitStation.core.cap.attempt = some { tAttempt with phase := .lit, seq := 1, number := 1 }
        ∧ tLitStation.core.illum.life = .lit
        ∧ tLitStation.core.illum.flash = some { tCalFlash with by_ := .capture .both }
        ∧ tCalFlash.adm = some tFirst ∧ tLitStation.core.illum.closing = none
        ∧ tLitStation.core.vols.mounted = some 0 ∧ tLitStation.core.vols.slots[(0 : Fin 16)] = some tVolume) :=
  ⟨⟨taken_of _ _ rfl rfl, by decide⟩, taken_of _ _ rfl rfl, by decide⟩

theorem met_RequestsMayBeTurnedAway_kind :
    (0x06#8).toNat ∉ catalogue ∧ (0x53#8).toNat ∉ catalogue ∧ Taken { us := 0, tag := 1#8, lengthOk := true } State.reset
      ∧ ({ State.reset.link with pending := tSixteen, nextEntry := 16 } : Link).lineBroken = false
      ∧ 16 ≤ ({ State.reset.link with pending := tSixteen, nextEntry := 16 } : Link).pending.length :=
  ⟨by decide, by decide, taken_of _ _ rfl rfl, rfl, by decide⟩

/-- A frame with an empty payload and a check that is wrong for it. -/
def tWrong : RxFrame := { kind := 0x01, tag := 0, payload := [], check := 0 }

theorem met_CheckIsFormed :
    State.reset.link.lineBroken = false ∧ tWrong.payload.length ≤ 1024 ∧ State.reset.link.checkErrors < 4294967295
      ∧ ∃ t, exec (.checkError 0 tWrong) State.reset = .next t := by
  refine ⟨rfl, by decide, by decide, ?_⟩
  simp only [exec, execCheckError]
  split <;> exact ⟨_, rfl⟩

theorem met_DamagedFramesAreCounted :
    State.reset.link.lineBroken = false ∧ tWrong.payload.length ≤ 1024
      ∧ frameCheck (frameBody tWrong.kind tWrong.tag tWrong.payload) ≠ tWrong.check
      ∧ State.reset.link.parser = { phase := .hunt, buf := [] } ∧ 1024 < (1#8).toNat + 256 * (4#8).toNat
      ∧ State.reset.link.fragments ≤ 4294967295
      ∧ ({ phase := .length, buf := [1#8] } : Parser).phase ≠ .hunt := by
  refine ⟨rfl, by decide, by decide +kernel, rfl, by decide, by decide, by decide⟩

/-- The three clauses: a formed reply behind a waiting one, a report with no reply formed, and nothing at all. -/
theorem met_TransmitterTakesTheNextFrame :
    (∃ (a b : List PendingReply) (p : PendingReply) (r : Reply),
        [{ id := 0, kind := 0x29, tag := 0, reply := none },
          { id := 1, kind := 0x01, tag := 0, reply := some { status := .done, body := .empty } }] = a ++ p :: b
          ∧ p.reply = some r ∧ ∀ x ∈ a, x.reply = none)
      ∧ (∀ p ∈ tSixteen, p.reply = none) ∧ State.reset.link.reports = [] :=
  ⟨⟨[{ id := 0, kind := 0x29, tag := 0, reply := none }], [],
      { id := 1, kind := 0x01, tag := 0, reply := some { status := .done, body := .empty } },
      { status := .done, body := .empty }, rfl, rfl, by decide⟩, by decide, rfl⟩

/-! ### The volume table -/

theorem met_ClassSetDefinesTheClass :
    Taken tq tMounted ∧ 7 < 8 ∧ tMounted.core.volume = some tVolume ∧ tVolume.cls = (0 : Fin 8)
      ∧ (∀ v, State.reset.core.volume = some v → v.cls ≠ (7 : Fin 8)) ∧ Taken tq State.reset
      ∧ (1 ≤ tClass.name.length ∧ tClass.name.length ≤ 12 ∧ ∀ b ∈ tClass.name, 0x20 ≤ b.toNat ∧ b.toNat ≤ 0x7E)
      ∧ tClass.warn + 10 ≤ tClass.limit ∧ tClass.singleFloor < tClass.openFloor
      ∧ tClass = { name := tClass.name, eMat := max 500 (min 200000 tClass.eMat),
                   cOpen := max 1000 (min 1000000000 tClass.cOpen), warn := max (-400) (min 1990 tClass.warn),
                   limit := min 2000 tClass.limit, maxAngle := max 80 (min 180 tClass.maxAngle),
                   vacuum := max 5 (min 200 tClass.vacuum), puff := max 10 (min 500 tClass.puff),
                   retryLimit := min 3 tClass.retryLimit, openFloor := max 1 (min 1000 tClass.openFloor),
                   singleFloor := tClass.singleFloor, force := max 5 (min 300 tClass.force) } :=
  ⟨taken_of _ _ rfl rfl, by decide, rfl, rfl, fun v h => by simp [State.reset, Core.powerOn, Core.volume, Core.mounted,
    VolumeTable.powerOn] at h, taken_of _ _ rfl rfl, by decide, by decide, by decide, by decide⟩

theorem met_VolumeAddRegisters :
    Taken tq tMounted ∧ shelfOk [0x42#8] = true ∧ acceptedSegments tSpecs = some tSegs
      ∧ tMounted.core.vols.classes[0] ≠ none ∧ 1 ≤ 1000000000000 ∧ 1000000000000 ≤ 1000000000000
      ∧ (∀ (j : Fin 16) (v : Volume), tMounted.core.vols.slots[j] = some v → v.shelf ≠ [0x42#8])
      ∧ tMounted.core.vols.slots[(1 : Fin 16)] = none
      ∧ (∀ j : Fin 16, j < 1 → tMounted.core.vols.slots[j] ≠ none) ∧ tSegs.length ≤ tMounted.core.freeSegments := by
  refine ⟨taken_of _ _ rfl rfl, by decide, by decide, by decide, by decide, by decide, ?_, by decide, by decide,
    by decide⟩
  have h : ∀ j : Fin 16, tMounted.core.vols.slots[j].all fun v => decide (v.shelf ≠ [0x42#8]) := by decide
  intro j v hv
  have := h j
  simpa [hv] using this

/-- The volume registered and the station ready for its mounting. -/
def tRegistered : State := tAt fun c => { tMount c with vols := { (tMount c).vols with mounted := none } }

theorem met_VolumeMountBegins :
    Taken tq tRegistered ∧ tRegistered.core.vols.slots[(0 : Fin 16)] = some tVolume ∧ tVolume.state = .registered
      ∧ tRegistered.core.vols.mounted = none ∧ tRegistered.core.vols.classes[tVolume.cls] = some tClass
      ∧ 24 ≤ tVolume.leaves ∧ tRegistered.core.seq.state = .idle ∧ tRegistered.core.motion.arm = .parked
      ∧ tRegistered.core.motion.platen = .up ∧ tRegistered.core.illum.life = .idle
      ∧ tRegistered.core.meas.latch.t = none ∧ tRegistered.core.faults = []
      ∧ tRegistered.core.motion.angle = .atAngle :=
  ⟨taken_of _ _ rfl rfl, by decide⟩

/-- Of the three volumes of the clauses: one mounted, one registered and lacking openings, one with every opening. -/
theorem met_VolumesLeaveTheCradle :
    Taken tq tMounted ∧ tMounted.core.vols.slots[(0 : Fin 16)] = some tVolume
      ∧ (tMounted.core.quiet = true ∧ tMounted.core.vols.mounted = some 0 ∧ tMounted.core.illum.view.wanted = false
        ∧ tMounted.core.dose.accrual = none)
      ∧ Taken tq tRegistered ∧ tRegistered.core.vols.slots[(0 : Fin 16)] = some tVolume
      ∧ (tVolume.state = .registered ∧ tRegistered.core.vols.mounted ≠ some 0
        ∧ tVolume.captured.length < tVolume.leaves + 1 ∧ 0 < tRegistered.core.freeExceptions
        ∧ tVolume.leaves + 1 - tVolume.captured.length ≤ 4294967295)
      ∧ ({ tVolume with captured := List.range 25 } : Volume).captured.length = tVolume.leaves + 1 := by
  refine ⟨taken_of _ _ rfl rfl, by decide, by decide, taken_of _ _ rfl rfl, by decide, by decide, by decide⟩

/-- R at its low-water line exactly. -/
theorem met_VolumeSetRaisesTheBudget :
    Taken tq tRegistered ∧ tRegistered.core.vols.slots[(0 : Fin 16)] = some tVolume
      ∧ tRegistered.core.vols.mounted ≠ some 0 ∧ tVolume.u + 1111111 * tVolume.p / 100 ≤ 1111111
      ∧ tVolume.u < 1111111 ∧ 1111111 ≤ 1000000000000 := by
  refine ⟨taken_of _ _ rfl rfl, by decide⟩

theorem met_VolumeGetReadsTheRecord :
    (Taken tq tMounted ∧ tMounted.core.vols.slots[(0 : Fin 16)] = some tVolume ∧ tMounted.core.vols.mounted = some 0)
      ∧ Taken tq tRegistered ∧ tRegistered.core.vols.slots[(0 : Fin 16)] = some tVolume
      ∧ tRegistered.core.vols.mounted ≠ some 0 :=
  ⟨⟨taken_of _ _ rfl rfl, by decide⟩, taken_of _ _ rfl rfl, by decide⟩

/-- To the present opening, and to the last. -/
theorem met_CursorSetMovesTheCursor :
    Taken tq tMounted ∧ tMounted.core.vols.mounted = some 0 ∧ tMounted.core.vols.slots[(0 : Fin 16)] = some tVolume
      ∧ tMounted.core.quiet = true ∧ tMounted.core.illum.view.wanted = false ∧ tMounted.core.illum.view.ceiling = false
      ∧ tMounted.core.dose.accrual = none ∧ 5 ≤ tVolume.leaves ∧ 5 = tVolume.cursor
      ∧ 24 ≤ tVolume.leaves ∧ 24 ≠ tVolume.cursor ∧ 0 < tMounted.core.freeExceptions ∧ tVolume.cursor ≤ 4294967295 :=
  ⟨taken_of _ _ rfl rfl, by decide⟩

theorem met_VolumeGetReadsTheRecord_exceptions :
    Taken tq tMounted ∧ tMounted.core.vols.slots[(0 : Fin 16)] = some tVolume ∧ (1 ≤ 1 ∧ 1 ≤ 16) ∧ (1 ≤ 16 ∧ 16 ≤ 16)
      ∧ 16 < 17 := ⟨taken_of _ _ rfl rfl, by decide⟩

/-! ### Light and dose -/

theorem met_LightIsStaged :
    Taken tq tMounted ∧ tMounted.core.dose.accrual = none ∧ 0x007F#16 &&& 0xFF80#16 = 0 ∧ 0x0000#16 &&& 0xFF80#16 = 0
      ∧ 200000 ≤ 200000 ∧ tSetting.cVU ≤ 4095 ∧ 200 ≤ tSetting.d ∧ tSetting.d ≤ 500000 ∧ tSetting.eFloor ≤ 200000
      ∧ tSetting.cV ≤ 4095 := ⟨taken_of _ _ rfl rfl, by decide⟩

theorem met_LampsAreCalibrated :
    Taken tq State.reset ∧ State.reset.core.dose.accrual = none ∧ State.reset.core.illum.lampCal = none
      ∧ ({ nVU := min 5000 100000, nVL := min 5000 100000, nRU := min 5000 100000, nRL := min 5000 100000,
           nView := min 2000 5000 } : LampCal) = tLamps
      ∧ ({ tLamps with nView := min 5001 5000 } : LampCal) ≠ { tLamps with nView := 5001 }
      ∧ (0x0F#16 &&& 0xFFE0#16 = 0#16 ∧ (0x0F#16).getLsbD 4 = false ∧ ∀ k, k < 4 → (0x0F#16).getLsbD k = true)
      ∧ ((0x00#16).getLsbD 0 = false ∧ ∀ k, k < 0 → (0x00#16).getLsbD k = true) :=
  ⟨taken_of _ _ rfl rfl, by decide⟩

theorem met_LampsAreCalibrated_present :
    Taken tq (tAt tMount) ∧ (tAt tMount).core.dose.accrual = none ∧ (tAt tMount).core.illum.lampCal = some tLamps
      ∧ (0x10#16 &&& 0xFFE0#16 = 0#16) ∧ (0x10#16).getLsbD 4 = true ∧ (0x10#16).getLsbD 0 = false :=
  ⟨taken_of _ _ rfl rfl, by decide⟩

/-- No volume mounted, with a T latch of an age, the converter free or not. -/
def tReady (age : Nat) (conv : Option Conversion) : State := tAt fun c => { tMount c with
  vols := { (tMount c).vols with mounted := none }
  illum := { (tMount c).illum with staged := { tSetting with cVU := 1024, cVL := 1024, cRU := 1024, cRL := 1024 } }
  meas := { (tMount c).meas with
    conv := conv
    latch := ⟨none, none, none, some { code := 2500000, stamp := BitVec.ofNat 32 (5000 - age), flag := none,
                                       value := some 247, kind := .spot }⟩ } }

/-- A spot conversion of F that a MEASURE waits for, just complete and, 8 ms later, at its limit. -/
def tSpot : Conversion :=
  { channel := .F, kind := .spot, requesters := [.measure 0], since := 4996000, limit := 12000 }

/-- The latch at 1,001 ms and at 1,000 ms, the converter free and at work. -/
theorem met_CalibrationFlashBegins :
    (Taken tq tMounted ∧ tMounted.core.vols.mounted.isSome)
      ∧ { tRegistered.core.panel with broken := true }.broken = true
      ∧ (∀ s ∈ [tReady 1001 none, tReady 1000 none, tReady 1000 (some tSpot)],
        s.core.vols.mounted = none ∧ s.core.illum.life = .idle ∧ s.core.illum.lampCal = some tLamps
          ∧ s.core.meas.cal.t ≠ none ∧ s.core.panel.broken = false ∧ s.core.illum.hold = false
          ∧ s.core.illum.lampOffAt = none ∧ s.core.meas.latch.t.isSome
          ∧ s.core.meas.pending = ⟨none, none, none, none⟩)
      ∧ Taken tq (tReady 1001 none) ∧ Taken tq (tReady 1000 none) ∧ Taken tq (tReady 1000 (some tSpot))
      ∧ (1000 < (((tReady 1001 none).found 0).stamp - 3999#32).toNat ∧ (tReady 1001 none).core.meas.conv = none)
      ∧ ((((tReady 1000 none).found 0).stamp - 4000#32).toNat ≤ 1000 ∧ (tReady 1000 none).core.meas.conv = none
        ∧ (tReady 1000 (some tSpot)).core.meas.conv = some tSpot
        ∧ 5002 = (tLamps.nVU * 1024 + tLamps.nVL * 1024 + tLamps.nRU * 1024 + tLamps.nRL * 1024 + 4095 - 1) / 4095
        ∧ 0 < 5002 ∧ 5002 ≤ (tReady 1000 none).core.illum.eOp
        ∧ (tReady 1000 none).core.vols.classes[(0 : Fin 8)] = some tClass ∧ 5002 ≤ tClass.eMat) :=
  ⟨⟨taken_of _ _ rfl rfl, by decide⟩, rfl, by decide, taken_of _ _ rfl rfl, taken_of _ _ rfl rfl, taken_of _ _ rfl rfl,
    by decide⟩

/-- The view light lit, with its first period just full. -/
def tLit : State := tAt fun c => { tMount c with
  dose := { aOpen := some 0, accrual := some { since := 4900000, eV := 501 } }
  illum := { (tMount c).illum with
    view := { wanted := true, suppressed := false, thermal := false, budget := false, ceiling := false } } }

theorem met_ViewLightIsSwitchedAndCharged :
    (Taken tq State.reset ∧ State.reset.core.volume = none)
      ∧ (tMounted.core.volume = some tVolume ∧ ({ tMounted.core.illum with lampCal := none } : Illum).lampCal = none)
      ∧ (tMounted.core.volume = some tVolume ∧ tMounted.core.illum.lampCal ≠ none
        ∧ ({ tVolume with exhausted := true } : Volume).exhausted = true)
      ∧ (Taken tq tMounted ∧ tMounted.core.volume = some tVolume ∧ tMounted.core.illum.lampCal = some tLamps
        ∧ tMounted.core.cls = some tClass ∧ tVolume.exhausted = false ∧ tMounted.core.illum.view.wanted = false
        ∧ tMounted.core.illum.view.suppressed = false ∧ tMounted.core.illum.view.thermal = false
        ∧ tMounted.core.illum.view.ceiling = false ∧ tMounted.core.illum.view.state ≠ .lit)
      ∧ (tLit.core.vols.mounted = some 0 ∧ tLit.core.vols.slots[(0 : Fin 16)] = some tVolume
        ∧ tLit.core.vols.classes[tVolume.cls] = some tClass
        ∧ tLit.core.dose = { aOpen := some 0, accrual := some { since := 4900000, eV := 501 } }
        ∧ tLit.core.illum.view.state = .lit ∧ 4900000 + 100000 ≤ (tLit.found 0).now
        ∧ 0 + 501 * 100 < tClass.cOpen ∧ tClass.cOpen ≤ 1000000000 ∧ tVolume.u + 501 * 100 < tVolume.budget
        ∧ tVolume.u + 501 * 100 + tVolume.budget * tVolume.p / 100 ≤ tVolume.budget ∧ tVolume.budget ≤ 1000000000000
        ∧ tVolume.summary.viewMs + 100 ≤ 4294967295) :=
  ⟨⟨taken_of _ _ rfl rfl, by decide⟩, by decide, by decide, ⟨taken_of _ _ rfl rfl, by decide⟩, by decide⟩

theorem met_AdmittedFlashKeepsToTheBudget :
    admitCapture tClass tVolume 0 tSetting tLamps 200000 (some 250) false none = .ok tFirst := test_admission_material

theorem met_FlashIsChargedOnItsMeter :
    tFirst.dark = false ∧ (none : Option ResultFlag) ≠ some .fault ∧ (1343000 : Int) ≠ 8388607
      ∧ tMounted.core.meas.cal.p = some { x := 1200, y := 50000 } ∧ tMounted.core.vols.mounted = some 0
      ∧ tMounted.core.vols.slots[(0 : Fin 16)] = some tVolume
      ∧ tMounted.core.dose = { aOpen := some 0, accrual := none }
      ∧ 7998 = ((max 0 (min 8388607 ((1343000 : Int) - 1200))).toNat * (50000 : Int).toNat + 8388607 - 1) / 8388607
      ∧ 319920 = (7998 * tFirst.d + 1000 - 1) / 1000 := by decide

/-- Below the line, at the line, and with no line at all. -/
theorem met_LowWaterIsWatched :
    tMounted.core.vols.slots[(0 : Fin 16)] = some tVolume ∧ tMounted.core.vols.mounted = some 0
      ∧ ({ tVolume with uF := 9000001 } : Volume).budget - ({ tVolume with uF := 9000001 } : Volume).u
          < ({ tVolume with uF := 9000001 } : Volume).budget * ({ tVolume with uF := 9000001 } : Volume).p / 100
      ∧ tVolume.low = false
      ∧ ({ tVolume with uF := 9000000 } : Volume).budget * ({ tVolume with uF := 9000000 } : Volume).p / 100
          ≤ ({ tVolume with uF := 9000000 } : Volume).budget - ({ tVolume with uF := 9000000 } : Volume).u
      ∧ ({ tVolume with budget := 9 } : Volume).budget * ({ tVolume with budget := 9 } : Volume).p < 100 := by decide

/-- Its window. -/
def tWindow : Conversion :=
  { channel := .P, kind := .window, requesters := [.window], since := 4960000, limit := 52000 }

/-- The station while it is lit. -/
def tFlashing : State := tAt fun c => { tMount c with
  illum := { (tMount c).illum with life := .lit, flash := some tCalFlash }
  meas := { (tMount c).meas with conv := some tWindow } }

/-- A CAPTURE step. -/
def tCapture : Step := { id := 1, origin := .link, work := .capture .auto false, gate := none }

/-- The station whose capture flash has waited 60 s in the hold. -/
def tWaiting : State := tAt fun c => { tMount c with
  now := 60000000
  illum := { (tMount c).illum with
    life := .thermalHold, hold := true
    flash := some { tCalFlash with by_ := .capture .both, adm := none, metHold := some 0 } }
  cap := { c.cap with attempt := some tAttempt }
  seq := { c.seq with queue := [tCapture], state := .running, started := true, op := some .attempt } }

theorem met_FlashesEnd :
    (tFlashing.core.illum.life = .lit ∧ tFlashing.core.illum.flash = some tCalFlash
        ∧ tCalFlash.by_ = .calibration 0 ∧ tCalFlash.adm = some tFirst
        ∧ tCalFlash.litAt + tFirst.d ≤ (tFlashing.found 0).now ∧ tFlashing.core.meas.conv = some tWindow
        ∧ tWindow.kind = .window ∧ tWindow.channel = .P ∧ tWindow.requesters = [.window]
        ∧ tFlashing.core.meas.pending = ⟨none, none, none, none⟩
        ∧ tFlashing.core.meas.cal.p = some { x := 1200, y := 50000 } ∧ tFlashing.core.faults = []
        ∧ -8388608 < (8388606 : Int) ∧ (8388606 : Int) < 8388607)
      ∧ (({ tMounted.core.illum with life := .recovering, lampOffAt := some 4850000 } : Illum).life = .recovering
        ∧ 4850000 + 150000 ≤ (tMounted.found 0).now)
      ∧ (tWaiting.core.illum.life = .thermalHold ∧ tWaiting.core.illum.hold = true
        ∧ tWaiting.core.illum.flash =
            some { tCalFlash with by_ := .capture .both, adm := none, metHold := some 0 }
        ∧ 0 + 60000000 ≤ (tWaiting.found 0).now ∧ tWaiting.core.cap.attempt = some tAttempt
        ∧ tAttempt.phase = .admitting ∧ tWaiting.core.seq.op = some .attempt
        ∧ tWaiting.core.seq.queue = [tCapture] ∧ tCapture.work = .capture .auto false) := by decide

/-! ### Measurement -/

theorem met_ChannelsAreCalibrated :
    Taken tq State.reset ∧ State.reset.core.meas.cal.p = none ∧ State.reset.core.meas.cal.g = none
      ∧ State.reset.core.meas.cal.f = none ∧ State.reset.core.meas.cal.t = none
      ∧ (-65536 ≤ (65535 : Int) ∧ (65535 : Int) ≤ 65535 ∧ 1000 ≤ (200000 : Int) ∧ (200000 : Int) ≤ 200000)
      ∧ 5000 < (5001 : Int) ∧ (-400 ≤ (2000 : Int) ∧ (2000 : Int) ≤ 2000 ∧ 1 ≤ (3000 : Int) ∧ (3000 : Int) ≤ 3000)
      ∧ State.reset.core.meas.conv = none ∧ State.reset.core.meas.pending = ⟨none, none, none, none⟩ ∧ 4 ≤ 4 :=
  ⟨taken_of _ _ rfl rfl, by decide⟩

/-- Each of the four channels on a free converter, a busy converter, and G without an open reference. -/
theorem met_MeasurePostsARequest :
    (Taken tq tMounted ∧ [Channel.P, .G, .F, .T][0]? = some .P ∧ [Channel.P, .G, .F, .T][1]? = some .G
        ∧ [Channel.P, .G, .F, .T][2]? = some .F ∧ [Channel.P, .G, .F, .T][3]? = some .T
        ∧ tMounted.core.motion.cRef ≠ none ∧ tMounted.core.meas.conv = none
        ∧ tMounted.core.meas.pending = ⟨none, none, none, none⟩)
      ∧ (Taken tq tFlashing ∧ tFlashing.core.meas.conv = some tWindow
        ∧ tFlashing.core.meas.pending = ⟨none, none, none, none⟩)
      ∧ Taken tq State.reset ∧ State.reset.core.motion.cRef = none :=
  ⟨⟨taken_of _ _ rfl rfl, by decide⟩, ⟨taken_of _ _ rfl rfl, by decide⟩, taken_of _ _ rfl rfl, by decide⟩

theorem met_SpotResultWritesTheLatch :
    tSpot.channel = .F ∧ tSpot.channel ≠ .T ∧ tSpot.kind = .spot ∧ tSpot.requesters = [.measure 0]
      ∧ tSpot.since + 4000 ≤ (tMounted.found 0).now ∧ (tMounted.found 0).now ≤ tSpot.since + tSpot.limit
      ∧ (tAt fun c => { tMount c with meas := { (tMount c).meas with conv := some tSpot } }).core.meas.conv = some tSpot
      ∧ tMounted.core.meas.pending = ⟨none, none, none, none⟩ ∧ tMounted.core.faults = [] := by decide

theorem met_MeasurePostsARequest_conversions :
    ({ tSpot with since := 4988000 } : Conversion).kind = .spot ∧ tSpot.channel ≠ .T
      ∧ tSpot.requesters = [.measure 0] ∧ 4988000 + tSpot.limit ≤ (tMounted.found 0).now
      ∧ tMounted.core.meas.pending = ⟨none, none, none, none⟩ ∧ tMounted.core.faults = []
      ∧ 4500000 + 500000 ≤ (tMounted.found 0).now ∧ tMounted.core.meas.conv = none := by decide

/-! ### The cradle -/

/-- The station at power-on with F calibrated and the curtain CLEAR. -/
def tCold : State := tAt fun c => { c with
  panel := { c.panel with broken := false }
  meas := { c.meas with cal := { c.meas.cal with f := some ⟨3000, 2000⟩ } } }

theorem met_HomeBegins :
    (Taken tq State.reset ∧ State.reset.core.panel.broken = true)
      ∧ ({ State.reset.core.panel with broken := false }.broken = false ∧ State.reset.core.meas.cal.f = none)
      ∧ (Taken tq tCold ∧ tCold.core.panel.broken = false ∧ tCold.core.meas.cal.f ≠ none
        ∧ tCold.core.motion.homing = none ∧ tCold.core.seq.state = .idle ∧ tCold.core.illum.life = .idle
        ∧ tCold.core.motion.platen = .unreferenced ∧ tCold.core.motion.angle = .unreferenced
        ∧ tCold.core.motion.arm = .unreferenced ∧ tCold.core.faults = []) :=
  ⟨⟨taken_of _ _ rfl rfl, rfl⟩, ⟨rfl, rfl⟩, taken_of _ _ rfl rfl, by decide⟩

/-- A homing that has just entered a phase, 2,000 ms ago. -/
def tHoming (p : HomingPhase) : State := tAt fun c => { c with
  now := 2000000
  motion := { c.motion with homing := some { entry := 0, phase := p, since := 0 } } }

theorem met_HomingGoesThroughItsPhases :
    ∀ p ∈ [HomingPhase.platen, .arm, .angleSensor, .angleTarget],
      (tHoming p).core.motion.homing = some { entry := 0, phase := p, since := 0 } ∧ (tHoming p).core.faults = []
        ∧ (tHoming p).core.motion.stepRaise = false ∧ (tHoming p).core.cls = none
        ∧ (tHoming p).core.motion.lowerHeld = false ∧ (tHoming p).core.motion.turnWait = none
        ∧ (tHoming p).core.meas.conv = none ∧ (tHoming p).core.meas.pending = ⟨none, none, none, none⟩ := by decide

theorem met_HomingPhaseFails :
    (tHoming .platen).core.motion.homing = some { entry := 0, phase := .platen, since := 0 }
      ∧ 0 + 2000000 ≤ ((tHoming .platen).found 0).now ∧ (tHoming .platen).core.faults = []
      ∧ (tHoming .platen).core.motion.stepRaise = false ∧ (tHoming .platen).core.motion.lowerHeld = false
      ∧ (tHoming .platen).core.motion.turnWait = none := by decide

/-- The mounted station with its motion changed, 20 s after power-on. -/
def tMotion (f : Motion → Motion) : State := tAt fun c => { tMount c with now := 20000000, motion := f (tMount c).motion }

/-- At the least and the widest angle that the class allows, and at the limit of a move. -/
theorem met_AngleMoves :
    (Taken tq State.reset ∧ State.reset.core.motion.angle = .unreferenced)
      ∧ (Taken tq (tMotion fun m => { m with angle := .moving })
        ∧ (tMotion fun m => { m with angle := .moving }).core.motion.angle = .moving)
      ∧ (Taken tq tMounted ∧ tMounted.core.motion.angle = .atAngle ∧ tMounted.core.motion.platen = .up
        ∧ tMounted.core.motion.arm = .parked ∧ tMounted.core.motion.anglePos ≠ some 80 ∧ 80 ≤ 80 ∧ 80 ≤ 180
        ∧ (∀ c, tMounted.core.cls = some c → 80 ≤ c.maxAngle) ∧ tMounted.core.faults = [])
      ∧ ((tMotion fun m => { m with angle := .moving, angleTarget := some 110, angleSince := 10000000 }).core.motion.angle
            = .moving
        ∧ (tMotion fun m => m).core.motion.homing = none ∧ (tMotion fun m => m).core.motion.lowerHeld = false
        ∧ (tMotion fun m => m).core.motion.turnWait = none ∧ (tMotion fun m => m).core.faults = []
        ∧ 10000000 + 10000000 ≤ ((tMotion fun m => m).found 0).now) := by
  refine ⟨⟨taken_of _ _ rfl rfl, rfl⟩, ⟨taken_of _ _ rfl rfl, rfl⟩, ⟨taken_of _ _ rfl rfl, by decide, by decide,
    by decide, by decide, by decide, by decide, ?_, by decide⟩, by decide⟩
  have h : tMounted.core.cls = some tClass := by decide
  intro c hc
  rw [h] at hc
  cases hc
  decide

/-- The platen LOWERING at the end of its settling interval and of its 2,000 ms. -/
def tLowering : State := tMotion fun m => { m with
  platen := .moving .lowering, platenSince := 18000000, settle := some 19850000, sampleAt := 19980000 }

/-- The same for the attempt of a CAPTURE step, with the transmitter busy. -/
def tLoweringFor : State :=
  { tLowering with
    core := { tLowering.core with
      cap := { tLowering.core.cap with attempt := some { tAttempt with phase := .preparing } }
      seq := { tLowering.core.seq with queue := [tCapture], state := .running, started := true, op := some .attempt } }
    link := { tLowering.link with tx := some (.report (.panelCurtain 0#32 true)) } }

/-- The platen RAISING for 2,000 ms. -/
def tRaising : State := tMotion fun m => { m with platen := .moving .raising, platenSince := 18000000 }

theorem met_PlatenMoves :
    (tLoweringFor.core.cap.attempt = some { tAttempt with phase := .preparing } ∧ tAttempt.prep = .platen
        ∧ tLoweringFor.core.meas.conv = none ∧ tLoweringFor.core.meas.pending = ⟨none, none, none, none⟩
        ∧ tLoweringFor.core.motion.sampleAt + 20000 ≤ (tLoweringFor.found 0).now
        ∧ tLoweringFor.core.motion.platenSince + 2000000 ≤ (tLoweringFor.found 0).now
        ∧ tLoweringFor.core.seq.op = some .attempt ∧ tLoweringFor.core.seq.queue = tCapture :: []
        ∧ tCapture.work = .capture .auto false
        ∧ tLoweringFor.link.tx ≠ none ∧ tLoweringFor.link.reports.length + 4 ≤ 32)
      ∧ (tLoweringFor.core.motion.platen = .moving .lowering ∧ tLoweringFor.core.motion.settle = some 19850000
        ∧ 19850000 + 150000 ≤ (tLoweringFor.found 0).now ∧ tLoweringFor.core.faults = []
        ∧ tLoweringFor.core.cap.attempt = some { tAttempt with phase := .preparing }
        ∧ tAttempt.prep = .platen ∧ tAttempt.interlock = false ∧ tAttempt.side = .both
        ∧ tLoweringFor.core.cap.camV.ready = false)
      ∧ (tRaising.core.motion.platen = .moving .raising ∧ tRaising.core.motion.homing = none
        ∧ tRaising.core.faults = [] ∧ tRaising.core.motion.stepRaise = false ∧ tRaising.core.motion.turnWait = none
        ∧ tRaising.core.motion.platenSince + 2000000 ≤ (tRaising.found 0).now) := by decide

/-- The turn in hand at the second of its attempts. -/
def tTurn : Turn :=
  { opening := 5, attempt := 2, retries := 1, many := false, laid := false, failed := false, vacLost := false,
    aborting := false }

/-- The mounted station with that turn in hand. -/
def tArm (f : Motion → Motion) : State := tMotion fun m => f { m with turn := some tTurn }

/-- In LIFTING with the cup on the leaf for 800 ms. -/
def tSuck (puff : Option Puff) : State := tArm fun m => { m with
  arm := .moving .lifting, stage := .suck, armSince := 19200000, puff := puff }

theorem met_LeafIsLifted :
    ((tArm fun m => { m with arm := .moving .lifting, stage := .descend }).core.motion.turn = some tTurn
        ∧ (tArm fun m => { m with arm := .moving .lifting, stage := .descend }).core.panel.broken = false
        ∧ (tArm fun m => { m with arm := .moving .lifting, stage := .descend }).core.faults = []
        ∧ (tArm fun m => { m with arm := .moving .lifting, stage := .descend }).core.cls = some tClass
        ∧ (tArm fun m => { m with arm := .moving .lifting, stage := .descend }).core.motion.arm = .moving .lifting
        ∧ (tArm fun m => { m with arm := .moving .lifting, stage := .descend }).core.motion.stage = .descend)
      ∧ ((tSuck none).core.motion.turn = some tTurn ∧ (tSuck none).core.motion.arm = .moving .lifting
        ∧ (tSuck none).core.motion.stage = .suck ∧ (tSuck none).core.motion.puff = none
        ∧ (tSuck none).core.motion.vacuumAt = false
        ∧ (tSuck none).core.motion.armSince + 800000 ≤ ((tSuck none).found 0).now
        ∧ (tSuck none).core.meas.pending.g = none ∧ (tSuck none).core.meas.conv = none)
      ∧ ((tSuck (some ⟨19920000, 80⟩)).core.motion.puff = some ⟨19920000, 80⟩
        ∧ 19920000 + 80 * 1000 ≤ ((tSuck (some ⟨19920000, 80⟩)).found 0).now)
      ∧ ((tArm fun m => { m with arm := .moving .gauging, stage := .leafUp }).core.motion.arm = .moving .gauging
        ∧ (tArm fun m => { m with arm := .moving .gauging, stage := .leafUp }).core.motion.stage = .leafUp
        ∧ (tArm fun m => { m with arm := .moving .gauging, stage := .leafUp }).core.meas.pending
            = ⟨none, none, none, none⟩) := by decide

/-- A gauge result of the kind that the clauses tell apart. -/
def tGauge (tg : Int) : Result := { code := 0, stamp := 0, flag := none, value := some tg, kind := .spot }

/-- At the open floor, just below it, at the single floor, and just below that. -/
theorem met_GaugeClassesTheLeaf :
    (tArm fun m => { m with arm := .moving .gauging, stage := .gauge }).core.motion.arm = .moving .gauging
      ∧ (tArm fun m => { m with arm := .moving .gauging, stage := .gauge }).core.motion.stage = .gauge
      ∧ (tArm fun m => { m with arm := .moving .gauging, stage := .gauge }).core.panel.broken = false
      ∧ (tArm fun m => { m with arm := .moving .gauging, stage := .gauge }).core.faults = []
      ∧ (tArm fun m => { m with arm := .moving .gauging, stage := .gauge }).core.cls = some tClass
      ∧ ((tGauge 600).flag ≠ some .fault ∧ (tGauge 600).value = some 600 ∧ (tClass.openFloor : Int) ≤ 600)
      ∧ ((tGauge 599).value = some 599 ∧ (599 : Int) < tClass.openFloor ∧ (tClass.singleFloor : Int) ≤ 599)
      ∧ ((tGauge 150).value = some 150 ∧ (tClass.singleFloor : Int) ≤ 150)
      ∧ ((tGauge 149).value = some 149 ∧ (149 : Int) < tClass.openFloor ∧ (149 : Int) < tClass.singleFloor) := by decide

theorem met_LeafIsCarriedAndLaid :
    ((tArm fun m => { m with arm := .moving .sweeping, stage := .sweep }).core.motion.turn = some tTurn
        ∧ (tArm fun m => { m with arm := .moving .sweeping, stage := .sweep }).core.panel.broken = false
        ∧ (tArm fun m => { m with arm := .moving .sweeping, stage := .sweep }).core.faults = []
        ∧ (tArm fun m => { m with arm := .moving .sweeping, stage := .sweep }).core.motion.arm = .moving .sweeping)
      ∧ ((tArm fun m => { m with arm := .moving .releasing, stage := .release }).core.motion.arm = .moving .releasing
        ∧ (tArm fun m => { m with arm := .moving .releasing, stage := .release, vacuumAt := true }).core.motion.vacuumAt
            = true
        ∧ (tArm fun m => { m with arm := .moving .releasing, stage := .release }).core.motion.vacuumAt = false
        ∧ (tArm fun m => m).core.vols.mounted = some 0 ∧ (tArm fun m => m).core.vols.slots[(0 : Fin 16)] = some tVolume
        ∧ (tArm fun m => m).core.dose.accrual = none ∧ (tArm fun m => m).core.illum.view.wanted = false
        ∧ (tArm fun m => m).core.illum.view.ceiling = false ∧ tVolume.tallies.turns < 4294967295)
      ∧ ((tArm fun m => { m with arm := .moving .returning, stage := .travel }).core.motion.arm = .moving .returning
        ∧ (tArm fun m => { m with arm := .moving .returning, stage := .travel }).core.motion.stage = .travel
        ∧ (tArm fun m => m).core.motion.homing = none ∧ (tArm fun m => m).core.meas.conv = none
        ∧ (tArm fun m => m).core.meas.pending = ⟨none, none, none, none⟩) := by decide

/-- The retry that the limit just allows. -/
theorem met_PutDownEndsTheAttempt :
    ((tArm fun m => { m with arm := .moving .lifting, stage := .putDown .aborted }).core.motion.turn = some tTurn
        ∧ (tArm fun m => { m with arm := .moving .lifting, stage := .putDown .aborted }).core.motion.arm
            = .moving .lifting
        ∧ (tArm fun m => m).core.panel.broken = false ∧ (tArm fun m => m).core.faults = []
        ∧ (tArm fun m => { m with arm := .moving .lifting, stage := .putDown .aborted }).core.motion.stage
            = .putDown .aborted)
      ∧ ((tArm fun m => { m with arm := .moving .lifting, stage := .putDown .lostLeaf }).core.motion.stage
            = .putDown .lostLeaf
        ∧ tTurn.aborting = false ∧ (tArm fun m => m).core.vols.mounted = some 0
        ∧ (tArm fun m => m).core.vols.slots[(0 : Fin 16)] = some tVolume
        ∧ (tArm fun m => m).core.vols.classes[tVolume.cls] = some tClass ∧ tTurn.retries + 1 ≤ tClass.retryLimit
        ∧ 0 < (tArm fun m => m).core.freeExceptions ∧ tTurn.attempt ≤ 4294967295) := by decide

theorem met_VacuumLossStopsTheCarry :
    ((tArm fun m => { m with arm := .moving .sweeping, stage := .sweep, vacuumAt := true }).core.motion.turn = some tTurn
        ∧ (tArm fun m => m).core.faults = [] ∧ tTurn.aborting = false
        ∧ (tArm fun m => { m with arm := .moving .sweeping, stage := .sweep, vacuumAt := true }).core.motion.arm
            = .moving .sweeping
        ∧ (tArm fun m => m).core.vols.mounted = some 0 ∧ (tArm fun m => m).core.vols.slots[(0 : Fin 16)] = some tVolume
        ∧ 0 < (tArm fun m => m).core.freeExceptions)
      ∧ ((tArm fun m => { m with arm := .moving .lifting, stage := .suck, vacuumAt := true }).core.motion.arm
            = .moving .lifting
        ∧ (tArm fun m => { m with arm := .moving .lifting, stage := .suck, vacuumAt := true }).core.motion.stage = .suck
        ∧ (tArm fun m => { m with arm := .moving .lifting, stage := .suck, vacuumAt := true }).core.motion.vacuumAt = true
        ∧ (tArm fun m => m).core.meas.pending.g = none ∧ (tArm fun m => m).core.meas.conv = none) := by decide

/-- A TURN step. -/
def tTurnStep : Step := { id := 1, origin := .link, work := .turn, gate := none }

/-- The turn of a head TURN step, in a phase of the arm for some milliseconds. -/
def tArmFor (m : ArmMove) (stage : ArmStage) (ms : Nat) : State :=
  let s := tArm fun x => { x with arm := .moving m, stage := stage, armSince := 20000000 - ms * 1000 }
  { s with core := { s.core with
      seq := { s.core.seq with queue := [tTurnStep, tCapture], state := .running, started := true, op := some .turn } } }

/-- Each phase at its limit. -/
theorem met_ArmLimitEndsTheTurn :
    ∀ x ∈ [(ArmMove.lifting, ArmStage.descend, 1500), (.gauging, .leafUp, 1000), (.lifting, .putDown .lostLeaf, 1000),
        (.gauging, .putDown .aborted, 1000), (.sweeping, .sweep, 3000), (.releasing, .release, 500),
        (.returning, .travel, 3000)],
      let s := tArmFor x.1 x.2.1 x.2.2
      s.core.motion.turn = some tTurn ∧ tTurn.aborting = false ∧ s.core.motion.arm = .moving x.1
        ∧ s.core.motion.stage = x.2.1 ∧ s.core.motion.homing = none
        ∧ s.core.motion.armSince + x.2.2 * 1000 ≤ (s.found 0).now ∧ s.core.faults = []
        ∧ s.core.seq.op = some .turn ∧ s.core.seq.queue = tTurnStep :: [tCapture] ∧ tTurnStep.work = .turn := by decide

/-! ### Capture -/

theorem met_RingIsDrained :
    Taken tq tMounted ∧ (1 ≤ 1 ∧ 1 ≤ 8) ∧ (1 ≤ 8 ∧ 8 ≤ 8) ∧ 8 < 9 ∧ tMounted.core.cap.attempt = none
      ∧ tMounted.core.cap.mark = none := ⟨taken_of _ _ rfl rfl, by decide⟩

theorem met_PeekLeavesTheRing :
    Taken tq tWaiting ∧ Taken tq tMounted ∧ (0 < 1 ∧ 8 < 9) ∧ (1 ≤ 1 ∧ 1 ≤ 8) ∧ (1 ≤ 8 ∧ 8 ≤ 8)
      ∧ tMounted.core.cap.attempt = none ∧ tMounted.core.cap.mark = none :=
  ⟨taken_of _ _ rfl rfl, taken_of _ _ rfl rfl, by decide⟩

/-- A lit attempt whose cameras are TRIGGERED. -/
def tLitAttempt : State := tAt fun c => { tMount c with
  cap := { c.cap with
    attempt := some { tAttempt with phase := .lit }, camV := { c.cap.camV with frame := .triggered, trigger := true }
    camR := { c.cap.camR with frame := .triggered, trigger := true } } }

/-- For each camera. -/
theorem met_CameraLinesAreWatched :
    (tMounted.core.faults = [] ∧ tMounted.core.cap.attempt = none)
      ∧ (tLitAttempt.core.faults = [] ∧ tLitAttempt.core.cap.attempt = some { tAttempt with phase := .lit }
        ∧ tAttempt.aborting = false ∧ ∀ k ∈ [Camera.V, .R], (tLitAttempt.core.cap.cam k).frame = .triggered) := by decide

/-- A camera wait of 2,000 ms. -/
def tCameraWait : State := tAt fun c => { tMount c with
  cap := { c.cap with attempt := some { tAttempt with phase := .preparing, prep := .cameras 3000000 } }
  seq := { c.seq with queue := [tCapture], state := .running, started := true, op := some .attempt } }

/-- A frame timeout of 2,000 ms just over, with camera V still TRIGGERED. -/
def tFrameWait : State := tAt fun c => { tMount c with
  cap := { c.cap with
    attempt := some { tAttempt with phase := .collecting, frameSince := some 3000000, frameLimit := 2000 }
    camV := { c.cap.camV with frame := .triggered }, camR := { c.cap.camR with frame := .taken } } }

theorem met_CamerasTimeOut :
    (tCameraWait.core.cap.attempt = some { tAttempt with phase := .preparing, prep := .cameras 3000000 }
        ∧ tCameraWait.core.faults = [] ∧ 3000000 + 2000000 ≤ (tCameraWait.found 0).now
        ∧ tCameraWait.core.seq.op = some .attempt ∧ tCameraWait.core.seq.queue = tCapture :: []
        ∧ tCapture.work = .capture .auto false)
      ∧ (tFrameWait.core.cap.attempt =
            some { tAttempt with phase := .collecting, frameSince := some 3000000, frameLimit := 2000 }
        ∧ tFrameWait.core.faults = [] ∧ tAttempt.dose = none ∧ 3000000 + 2000 * 1000 ≤ (tFrameWait.found 0).now
        ∧ tFrameWait.core.cap.camV.frame = .triggered ∧ tFrameWait.core.cap.camR.frame ≠ .triggered) := by decide

/-! ### Steps and faults -/

/-- A CYCLE step. -/
def tCycle : Step := { id := 2, origin := .link, work := .cycle 24 1, gate := none }

/-- The sequencer with a queue and a state. -/
def tSeq (steps : List Step) (st : SeqState) : State :=
  tAt fun c => { tMount c with seq := { c.seq with queue := steps, state := st } }

/-- A queue just full, one HELD with room for one, and the idle station. -/
theorem met_StepsAreQueuedAndEdited :
    Taken tq (tSeq [] .held) ∧ stepGuard none = .ok none
      ∧ stepWork (.cycle 24 1) = .ok (.cycle 24 1, 0#16) ∧ stepGuard (some ⟨7, true⟩) = .ok (some ⟨.openingCaptured, true⟩)
      ∧ 16 ≤ (tSeq (List.replicate 16 tCycle) .held).core.seq.queue.length
      ∧ (tSeq (List.replicate 15 tCycle) .held).core.seq.queue.length < 16
      ∧ (tSeq (List.replicate 15 tCycle) .held).core.seq.state = .held
      ∧ (tMounted.core.seq.state = .idle ∧ tMounted.core.seq.queue = [] ∧ tMounted.core.seq.started = false)
      ∧ (∀ x ∈ (tSeq [tCapture] .held).core.seq.queue, x.id ≠ 2)
      ∧ ((tSeq [tCapture, tCycle] .held).core.seq.queue = [] ++ tCapture :: [tCycle]
        ∧ (∀ x ∈ [] ++ [tCycle], x.id ≠ 1) ∧ tCapture.id = 1 ∧ tCapture.work.kind ≠ .cycle)
      ∧ ((tAt fun c => { c with seq := { c.seq with queue := [tCapture, tCycle] } }).core.seq.queue
            = [tCapture] ++ tCycle :: []
        ∧ (∀ x ∈ [tCapture] ++ [], x.id ≠ 2) ∧ tCycle.id = 2 ∧ tCycle.work = .cycle 24 1
        ∧ State.reset.core.vols.mounted = none) := by
  refine ⟨taken_of _ _ rfl rfl, rfl, rfl, rfl, by decide, by decide, by decide, by decide, by decide, by decide,
    by decide⟩

/-- The exceptions of a volume that leave fewer than 5 free entries of the pool. -/
def tCrowded : State := tAt fun c => { tMount c with
  vols := { (tMount c).vols with
    slots := (tMount c).vols.slots.set 0 (some { tVolume with
      exceptions := List.replicate 252
        { kind := .noPick, opening := 0, detail := 1, seq := none, stamp := 0 } }) }
  seq := { c.seq with state := .held } }

/-- A fault of channel F. -/
def tFault : FaultEntry :=
  { kind := .meterFault, detail := .channels [.F], stamp := 0, count := 1, acked := false }

theorem met_HaltResumeAbort :
    (Taken tq tMounted ∧ tMounted.core.seq.state = .idle ∧ tMounted.core.seq.pause = none)
      ∧ (Taken tq tWaiting ∧ tWaiting.core.seq.state = .running ∧ tWaiting.core.seq.op ≠ none
        ∧ tWaiting.core.seq.state ≠ .held)
      ∧ ((tSeq [] .halting).core.seq.state = .halting ∧ (tSeq [] .held).core.seq.state = .held)
      ∧ [tFault] ≠ []
      ∧ ((tSeq [] .held).core.faults = [] ∧ { (tSeq [] .held).core.panel with broken := true }.broken = true)
      ∧ (Taken tq tCrowded ∧ tCrowded.core.seq.state = .held ∧ tCrowded.core.faults = []
        ∧ tCrowded.core.panel.broken = false ∧ tCrowded.core.freeExceptions < 5)
      ∧ (Taken tq (tSeq [] .held) ∧ (tSeq [] .held).core.panel.broken = false ∧ 5 ≤ (tSeq [] .held).core.freeExceptions
        ∧ (tSeq [] .held).core.seq.queue = [])
      ∧ (tMounted.core.cap.attempt = none ∧ tMounted.core.cap.mark = none ∧ tMounted.core.illum.flash = none
        ∧ tMounted.core.motion.homing = none ∧ tMounted.core.motion.turn = none
        ∧ tMounted.core.motion.turnWait = none ∧ tMounted.core.motion.lowerHeld = false
        ∧ tMounted.core.motion.stepRaise = false ∧ tMounted.core.motion.platen = .up)
      ∧ (4990000 + 10000 ≤ (tMounted.found 0).now ∧ (tMounted.found 0).now < 4990001 + 10000
        ∧ ({ tMounted.core.seq with
              queue := [{ tCycle with work := .pause 10 }], state := .running
              pause := some { left := 10000, since := some 4990000 } } : Sequencer).queue
            = [{ tCycle with work := .pause 10 }]) :=
  ⟨⟨taken_of _ _ rfl rfl, by decide⟩, ⟨taken_of _ _ rfl rfl, by decide⟩, by decide, by decide, by decide,
    ⟨taken_of _ _ rfl rfl, by decide, by decide, by decide, by decide +kernel⟩, ⟨taken_of _ _ rfl rfl, by decide⟩,
    by decide, by decide⟩

/-- The station with that fault, whose latch is good or faulted. -/
def tFaulted (bad : Bool) : State := tAt fun c => { tMount c with
  faults := [tFault]
  meas := { (tMount c).meas with
    latch := ⟨none, none, some { code := 0, stamp := 0, flag := if bad then some .fault else none, value := none,
                                 kind := .spot }, none⟩ } }

theorem met_FaultsAreCleared :
    Taken tq (tFaulted false) ∧ Taken tq (tFaulted true) ∧ faultKindCodes[0]? = some .meterFault
      ∧ faultKindCodes[6]? = some .cameraTimeout ∧ (∀ e ∈ (tFaulted false).core.faults, e.kind ≠ .cameraTimeout)
      ∧ (tFaulted false).core.faults = [tFault] ∧ tFault.kind = .meterFault
      ∧ (tFaulted false).core.faultPresent tFault = false ∧ (tFaulted true).core.faultPresent tFault = true
      ∧ (tFaulted true).core.faults ≠ [] :=
  ⟨taken_of _ _ rfl rfl, taken_of _ _ rfl rfl, by decide⟩

/-! ### The panel -/

/-- An input pressed for just the debounce time. -/
def tPress : InputState := { raw := true, pressed := false, since := 4980000, settled := true }

/-- Every input so pressed, with blocks changed. -/
def tPanel (f : Core → Core) : State := tAt fun c => f { tMount c with
  panel := { (tMount c).panel with inputs := ⟨tPress, tPress, tPress, tPress, tPress, tPress⟩ } }

/-- A VACUUM_LOST of the fault set. -/
def tVacuumFault : FaultEntry := { kind := .vacuumLost, detail := .vacuum 1, stamp := 0, count := 1, acked := false }

/-- Every input so pressed, HELD with the interlock hold pending. -/
def tHeld : State := tPanel fun c => { c with
  seq := { c.seq with state := .held, reason := some .interlock, interlock := true } }

theorem met_KeysAct :
    (((tPanel id).found 0).pressDue .advance = true ∧ ((tPanel id).found 0).pressDue .retake = true
        ∧ ((tPanel id).found 0).pressDue .back = true ∧ ((tPanel id).found 0).pressDue .hold = true
        ∧ ((tPanel id).found 0).pressDue .cont = true ∧ ((tPanel id).found 0).pressDue .turned = true
        ∧ (tMounted.found 0).pressDue .turned = false)
      ∧ (tSeq [] .halting).core.seq.state = .halting ∧ State.reset.core.vols.mounted = none
      ∧ State.reset.core.cursor = 0
      ∧ ((tPanel fun c => { c with seq := { c.seq with state := .held }, faults := [tVacuumFault] }).core.seq.state = .held
        ∧ (∀ e ∈ [tVacuumFault], e.kind = .vacuumLost) ∧ tHeld.core.seq.state = .held ∧ tHeld.core.assisting = true
        ∧ ((tPanel fun c => { c with seq := { c.seq with state := .held } }).core.assisting = false))
      ∧ (∀ e ∈ (tPanel fun c => { c with faults := [tFault] }).core.faults, e.kind ≠ .vacuumLost)
      ∧ ((tPanel id).core.seq.state = .idle ∧ (tPanel id).core.seq.pause = none ∧ (tPanel id).core.faults = []
        ∧ (tPanel id).core.panel.broken = false ∧ 5 ≤ (tPanel id).core.freeExceptions
        ∧ (tPanel id).core.seq.queue = [])
      ∧ (tPanel fun c => { c with seq := { c.seq with state := .held } }).core.seq.state = .held
      ∧ ((tPanel id).core.vols.mounted = some 0 ∧ (tPanel id).core.vols.slots[(0 : Fin 16)] = some tVolume
        ∧ (tPanel id).core.seq.started = false ∧ (tPanel id).core.seq.interlock = false
        ∧ (tPanel fun c => { c with panel := { c.panel with broken := true } }).core.panel.broken = true
        ∧ tVolume.cursor ∉ tVolume.captured ∧ tVolume.cursor < tVolume.leaves
        ∧ (tPanel id).core.motion.arm = .parked ∧ (tPanel id).core.motion.platen = .up
        ∧ (tPanel id).core.seq.awaiting = none ∧ (tPanel id).core.dose.accrual = none
        ∧ (tPanel id).core.illum.view.wanted = false ∧ (tPanel id).core.illum.view.ceiling = false
        ∧ tVolume.tallies.manualTurns < 4294967295 ∧ tVolume.cursor + 1 ≤ 4294967295 ∧ 0 < tVolume.cursor
        ∧ (tPanel id).core.quiet = true) := by
  refine ⟨by decide, by decide, by decide, by decide, by decide, by decide, by decide, by decide, by decide⟩

/-- Every input released since the same instant. -/
def tReleased : State := tAt fun c => { tMount c with
  panel := { (tMount c).panel with
    inputs := ⟨{ tPress with raw := false, pressed := true }, { tPress with settled := false },
      { tPress with raw := false }, { tPress with raw := false }, { tPress with raw := false },
      { tPress with raw := false }⟩
    tone := some 4850000 } }

/-- Inputs that have settled and stand as they are debounced. -/
def tSettled : State := tAt fun c => { tMount c with
  panel := { (tMount c).panel with
    inputs := ⟨{ tPress with pressed := true }, { tPress with raw := false }, { tPress with raw := false },
      { tPress with raw := false }, { tPress with raw := false }, { tPress with raw := false }⟩ } }

theorem met_InputsAreDebounced :
    ((tReleased.core.input .turned).raw ≠ true ∧ (tReleased.core.input .turned).settled = true)
      ∧ ((tReleased.core.input .retake).settled = false
        ∧ (tReleased.core.input .retake).since + tReleased.core.panel.debounce * 1000 ≤ (tReleased.found 0).now)
      ∧ ((tReleased.core.input .advance).pressed = true ∧ (tReleased.core.input .advance).raw = false
        ∧ (tReleased.core.input .advance).since + tReleased.core.panel.debounce * 1000 ≤ (tReleased.found 0).now)
      ∧ (Taken tq tSettled ∧ 0 ∉ [10, 20, 40, 80] ∧ 9 ∉ [10, 20, 40, 80] ∧ 10 ∈ [10, 20, 40, 80]
        ∧ 80 ∈ [10, 20, 40, 80])
      ∧ (∀ j, (tSettled.core.input j).settled = true ∧ (tSettled.core.input j).pressed = (tSettled.core.input j).raw)
      ∧ tReleased.core.panel.tone = some 4850000 ∧ 4850000 + 150000 ≤ (tReleased.found 0).now := by
  refine ⟨by decide, by decide, by decide, ⟨taken_of _ _ rfl rfl, by decide⟩, ?_, by decide, by decide⟩
  intro j
  cases j <;> decide

/-- The mounted station with the curtain BROKEN and 200 ms of clear light. -/
def tClearing : State := tAt fun c => { tMount c with
  panel := { (tMount c).panel with broken := true, clearSince := some 4800000 } }

theorem met_CurtainIsWatched :
    (tMounted.core.illum.flash = none ∧ tMounted.core.cap.attempt = none ∧ tMounted.core.motion.homing = none
        ∧ tMounted.core.motion.platen = .up ∧ tMounted.core.motion.angle = .atAngle
        ∧ tMounted.core.motion.arm = .parked ∧ tMounted.core.motion.lowerHeld = false
        ∧ tMounted.core.motion.turnWait = none ∧ tMounted.core.faults = [] ∧ tMounted.core.seq.pause = none
        ∧ tMounted.core.panel.broken = false)
      ∧ (tClearing.core.illum.flash = none ∧ tClearing.core.cap.attempt = none ∧ tClearing.core.motion.homing = none
        ∧ tClearing.core.motion.platen = .up ∧ tClearing.core.motion.angle = .atAngle
        ∧ tClearing.core.motion.arm = .parked ∧ tClearing.core.motion.lowerHeld = false
        ∧ tClearing.core.motion.turnWait = none ∧ tClearing.core.faults = [] ∧ tClearing.core.seq.pause = none
        ∧ tClearing.core.panel.broken = true ∧ tClearing.core.panel.clearSince = some 4800000
        ∧ 4800000 + 200000 ≤ (tClearing.found 0).now)
      ∧ State.reset.core.panel.rawBroken = true := by decide

/-! ### The activity counters -/

/-- A counter of QUEUE_DEPTH one below its last value. -/
def tCounter : Counter :=
  { value := 4294967294, overflow := false, enable := true, event := .queueDepth, threshold := 0, invert := false
    edge := false, memory := false }

theorem met_CountersAreSetReadAndCount :
    Taken tq State.reset ∧ 4 ≤ 4 ∧ counterEventCodes[0]? = some .tempSamples
      ∧ counterEventCodes[16]? = some .converterWaits ∧ (1 ≤ 1 ∧ 1 < 2 ∧ 2 < 3 ∧ 3 < 200000 ∧ 200000 ≤ 200000)
      ∧ 200000 < 200001 ∧ tMounted.core.depthAt + 100000 ≤ (tMounted.found 0).now
      ∧ (tMounted.core.illum.view.state ≠ .lit ∧ tMounted.core.illum.hold = false)
      ∧ (tLit.core.illum.view.state = .lit ∧ tLit.core.illum.hold = false)
      ∧ (tWaiting.core.illum.view.state ≠ .lit ∧ tWaiting.core.illum.hold = true)
      ∧ ({ tCounter with enable := false } : Counter).enable = false
      ∧ (({ tCounter with event := .turns } : Counter).event = .turns
        ∧ CounterEvent.turns ∉ [.flashLux, .tempSamples, .queueDepth]
        ∧ ({ tCounter with event := .turns } : Counter).value < 4294967295)
      ∧ ({ tCounter with value := 4294967295 } : Counter).value = 4294967295
      ∧ (tCounter.enable = true ∧ tCounter.event = .queueDepth ∧ tCounter.threshold = 0
        ∧ tCounter.value + 1 ≤ 4294967295) := ⟨taken_of _ _ rfl rfl, by decide⟩

/-- A sample at the threshold, a sample just below it, and a change of threshold. -/
theorem met_SamplesAreCompared :
    (({ tCounter with threshold := 3 } : Counter).enable = true
        ∧ ({ tCounter with threshold := 3 } : Counter).event = .queueDepth
        ∧ ({ tCounter with threshold := 3 } : Counter).threshold ≠ 0)
      ∧ (({ tCounter with threshold := 3 } : Counter).take .queueDepth 3).memory = true
      ∧ (({ tCounter with threshold := 3 } : Counter).take .queueDepth 2).memory = false
      ∧ ({ tCounter with enable := false } : Counter).enable = false
      ∧ (CounterEvent.turns ≠ .flashLux ∧ CounterEvent.turns ≠ .tempSamples
        ∧ (CounterEvent.turns = .queueDepth → tCounter.threshold = 0))
      ∧ (counterForm 0x0008#16 true .queueDepth 1 false false tCounter).threshold ≠ tCounter.threshold := by decide

/-! ### One step each -/

/-- Section 10.4: of the samples 250, 342, 345 and 298, a counter of TEMP_SAMPLES_AT_OR_ABOVE with threshold 340 and edge
set counts the first of a run alone. -/
theorem test_edge :
    ([250, 342, 345, 298].foldl (fun (c : Counter) x => c.take .tempSamples x)
        { Counter.powerOn with enable := true, event := .tempSamples, threshold := 340, edge := true }).value = 1 := by
  decide
/-- Section 11.4.1: a length of 40,000 (9C40h) after an A5h discards a fragment. -/
theorem test_noisy_line :
    (match exec (.fragment 0 [0x00#8, 0xA5#8, 0x40#8, 0x9C#8] .lengthOver) State.reset with
      | .next t => t.link.fragments
      | _ => 0) = 1 := by decide +kernel
/-- R11, R12: a mounting at opening 24 takes the cursor there and opens its account. -/
theorem test_mount :
    (match exec (.volumeMount tq 0 2#16 24 0) tRegistered with
      | .next t => (t.core.cursor, t.core.dose.aOpen)
      | _ => (0, none)) = (24, some 0) := by decide +kernel
/-- R141, R142: a CAPTURE queued in IDLE starts and asks for the platen. -/
theorem test_capture_starts :
    (match exec (.stepQueue tq (.capture 0 1) none) tMounted with
      | .next t => (t.core.seq.state, t.core.motion.platen)
      | _ => (.idle, .up)) = (.running, .moving .lowering) := by decide +kernel
/-- R97: a lowering with the angle MOVING is held. -/
theorem test_lowering_waits :
    (match exec (.stepQueue tq (.capture 0 1) none) (tMotion fun m => { m with angle := .moving }) with
      | .next t => (t.core.motion.platen, t.core.motion.lowerHeld)
      | _ => (.up, false)) = (.up, true) := by decide +kernel
/-- Section 5.5.2: a force of 61 against a target of 40 raises PLATEN_FORCE with detail 61. -/
theorem test_force_fault :
    ((tLowering.core.forceResult
      { code := 0, stamp := 0, flag := none, value := some 61, kind := .spot }).faults.map (·.detail)) = [.force 61]
      ∧ (tLowering.core.forceResult
        { code := 0, stamp := 0, flag := none, value := some 60, kind := .spot }).faults = [] := by decide +kernel

/-! ### Further clauses -/

/-- The mounted station with its record changed. -/
def tRecord (f : Volume → Volume) : State := tAt fun c => { tMount c with
  vols := { (tMount c).vols with slots := (tMount c).vols.slots.set 0 (some (f tVolume)) } }

/-- A mask without bit 4, and one with the bit of p alone. -/
theorem met_VolumeAddRegisters_mask :
    Taken tq tMounted ∧ shelfOk [0x42#8] = true ∧ 7 < 8 ∧ (0x0000#16).getLsbD 4 = false
      ∧ (0x0008#16).getLsbD 4 = false := ⟨taken_of _ _ rfl rfl, by decide⟩

/-- A budget above 10^12, and one below the dose used of an exhausted record, of the mounted volume. -/
theorem met_VolumeSetRaisesTheBudget_clamped :
    (Taken tq tMounted ∧ tMounted.core.vols.slots[(0 : Fin 16)] = some tVolume ∧ tMounted.core.vols.mounted = some 0
        ∧ tMounted.core.vols.classes[tVolume.cls] = some tClass ∧ tMounted.core.dose.aOpen = some 0 ∧ 0 < tClass.cOpen
        ∧ 1000000000000 = max (max 1 tVolume.u) (min 1000000000000 1000000000001)
        ∧ tVolume.u < 1000000000000 ∧ tVolume.u + 1000000000000 * tVolume.p / 100 ≤ 1000000000000)
      ∧ ((tRecord fun v => { v with low := true, exhausted := true }).core.vols.slots[(0 : Fin 16)]
            = some { tVolume with low := true, exhausted := true }
        ∧ 1000000 = max (max 1 tVolume.u) (min 1000000000000 1) ∧ 1000000 = tVolume.u) :=
  ⟨⟨taken_of _ _ rfl rfl, by decide⟩, by decide⟩

/-- Above L with the cursor at L, and with the cursor elsewhere. -/
theorem met_CursorSetMovesTheCursor_clamped :
    (Taken tq tMounted ∧ tMounted.core.vols.mounted = some 0 ∧ tMounted.core.vols.slots[(0 : Fin 16)] = some tVolume
        ∧ tMounted.core.quiet = true ∧ tMounted.core.illum.view.wanted = false
        ∧ tMounted.core.illum.view.ceiling = false ∧ tMounted.core.dose.accrual = none ∧ tVolume.leaves < 25
        ∧ tVolume.cursor ≠ tVolume.leaves ∧ 0 < tMounted.core.freeExceptions ∧ tVolume.cursor ≤ 4294967295)
      ∧ (Taken tq (tRecord fun v => { v with cursor := 24 })
        ∧ (tRecord fun v => { v with cursor := 24 }).core.vols.slots[(0 : Fin 16)] = some { tVolume with cursor := 24 }
        ∧ (tRecord fun v => { v with cursor := 24 }).core.quiet = true
        ∧ ({ tVolume with cursor := 24 } : Volume).cursor = ({ tVolume with cursor := 24 } : Volume).leaves) :=
  ⟨⟨taken_of _ _ rfl rfl, by decide⟩, taken_of _ _ rfl rfl, by decide⟩

/-- VIEW OFF at the end of 100 ms of light. -/
theorem met_ViewLightIsSwitchedAndCharged_off :
    Taken tq tLit ∧ tLit.core.vols.mounted = some 0 ∧ tLit.core.vols.slots[(0 : Fin 16)] = some tVolume
      ∧ tLit.core.vols.classes[tVolume.cls] = some tClass
      ∧ tLit.core.dose = { aOpen := some 0, accrual := some { since := 4900000, eV := 501 } }
      ∧ tLit.core.illum.view.state = .lit ∧ 100 = ((tLit.found 0).now - 4900000 + 999) / 1000
      ∧ 0 + 501 * 100 < tClass.cOpen ∧ tClass.cOpen ≤ 1000000000 ∧ tVolume.u + 501 * 100 < tVolume.budget
      ∧ tVolume.u + 501 * 100 + tVolume.budget * tVolume.p / 100 ≤ tVolume.budget ∧ tVolume.budget ≤ 1000000000000
      ∧ tVolume.summary.viewMs + 100 ≤ 4294967295 := ⟨taken_of _ _ rfl rfl, by decide⟩

/-- Admissions above the warn temperature, on a faulted reading, on a free value, and of a calibration flash. -/
theorem met_AdmittedFlashKeepsToTheBudget_caps :
    ((admitCapture tClass tVolume 0 { tSetting with eFloor := 3000 } tLamps 200000 (some 330) false none).isOk = true
        ∧ tClass.warn < 330)
      ∧ (admitCapture tClass tVolume 0 State.reset.core.illum.staged tLamps 200000 none true none).isOk = true
      ∧ (admitCapture tClass tVolume 0 tSetting tLamps 200000 none false (some 7000)).isOk = true
      ∧ (admitCalibration (some 8000) tSetting tLamps 200000 (some 250)).isOk = true := by decide +kernel

/-- A conversion of G that a MEASURE waits for, just complete. -/
def tSpotG : Conversion :=
  { channel := .G, kind := .spot, requesters := [.measure 0], since := 4996000, limit := 12000 }

/-- A camera that is READY, and one that is not. -/
def tCamera (ready : Bool) (frame : FrameState) : CameraState :=
  { ready := ready, fault := false, trigger := false, frame := frame, sawLow := false }

/-- A capture flash that waits for the converter. -/
def tGrant : State := tAt fun c => { tMount c with
  illum := { (tMount c).illum with
    life := .meterWait, flash := some { tCalFlash with by_ := .capture .both, litAt := 0 } }
  cap := { c.cap with attempt := some tAttempt, camV := tCamera true .waiting, camR := tCamera false .waiting }
  meas := { (tMount c).meas with
    conv := some tSpotG, pending := ⟨some { kind := .window, requesters := [.window] }, none, none, none⟩ } }

/-- A capture flash that is lit, with its attempt in hand for a CAPTURE step. -/
def tLitCapture (v r : FrameState) : State := tAt fun c => { tMount c with
  illum := { (tMount c).illum with life := .lit, flash := some { tCalFlash with by_ := .capture .both } }
  cap := { c.cap with
    attempt := some { tAttempt with phase := .lit, seq := 1, number := 1 }, camV := tCamera true v
    camR := tCamera true r }
  meas := { (tMount c).meas with conv := some tWindow }
  seq := { c.seq with queue := [tCapture], state := .running, started := true, op := some .attempt } }

theorem met_FlashesEnd_lampOnAndRecord :
    (tGrant.core.meas.conv = some tSpotG ∧ tSpotG.channel = .G ∧ tSpotG.kind = .spot
        ∧ tSpotG.requesters = [.measure 0] ∧ tSpotG.since + 4000 ≤ (tGrant.found 0).now
        ∧ (tGrant.found 0).now ≤ tSpotG.since + tSpotG.limit
        ∧ tGrant.core.meas.pending = ⟨some { kind := .window, requesters := [.window] }, none, none, none⟩
        ∧ tGrant.core.faults = [] ∧ tGrant.core.illum.life = .meterWait
        ∧ tGrant.core.illum.flash = some { tCalFlash with by_ := .capture .both, litAt := 0 }
        ∧ tCalFlash.adm = some tFirst ∧ tGrant.core.cap.attempt = some tAttempt ∧ tAttempt.phase = .admitting
        ∧ tAttempt.side = .both ∧ tGrant.core.cap.camV.isReady = true ∧ tGrant.core.cap.camR.isReady = false
        ∧ tGrant.core.vols.mounted = some 0 ∧ tGrant.core.vols.slots[(0 : Fin 16)] = some tVolume
        ∧ tVolume.tallies.attempts < 4294967295)
      ∧ ((tLitCapture .taken .taken).core.illum.life = .lit
        ∧ (tLitCapture .taken .taken).core.illum.flash = some { tCalFlash with by_ := .capture .both }
        ∧ tFirst.dark = false ∧ tCalFlash.litAt + tFirst.d ≤ ((tLitCapture .taken .taken).found 0).now
        ∧ (tLitCapture .taken .taken).core.meas.conv = some tWindow ∧ tWindow.kind = .window ∧ tWindow.channel = .P
        ∧ tWindow.requesters = [.window]
        ∧ (tLitCapture .taken .taken).core.meas.pending = ⟨none, none, none, none⟩
        ∧ (tLitCapture .taken .taken).core.meas.cal.p = some { x := 1200, y := 50000 }
        ∧ (tLitCapture .taken .taken).core.faults = [] ∧ -8388608 < (1343000 : Int) ∧ (1343000 : Int) < 8388607
        ∧ (tLitCapture .taken .taken).core.cap.attempt = some { tAttempt with phase := .lit, seq := 1, number := 1 }
        ∧ tAttempt.aborting = false ∧ (tLitCapture .taken .taken).core.cap.camV.frame = .taken
        ∧ (tLitCapture .taken .taken).core.cap.camR.frame = .taken
        ∧ (tLitCapture .taken .taken).core.vols.mounted = some 0
        ∧ (tLitCapture .taken .taken).core.vols.slots[(0 : Fin 16)] = some tVolume
        ∧ (tLitCapture .taken .taken).core.seq.state = .running
        ∧ (tLitCapture .taken .taken).core.seq.op = some .attempt
        ∧ (tLitCapture .taken .taken).core.seq.queue = [tCapture] ∧ tCapture.work = .capture .auto false
        ∧ 7998 = ((max 0 (min 8388607 ((1343000 : Int) - 1200))).toNat * (50000 : Int).toNat + 8388607 - 1) / 8388607
        ∧ 319920 = (7998 * tFirst.d + 1000 - 1) / 1000) := by decide

/-- Above the ranges, below them, and with T calibrated. -/
theorem met_ChannelsAreCalibrated_clamped :
    Taken tq tMounted ∧ tMounted.core.meas.cal.g = none ∧ tMounted.core.meas.cal.t ≠ none
      ∧ (65535 : Int) = max (-65536) (min 65535 65536) ∧ (1000 : Int) = max 1000 (min 200000 999)
      ∧ (2000 : Int) = max (-400) (min 2000 2001) ∧ (1 : Int) = max 1 (min 3000 0) :=
  ⟨taken_of _ _ rfl rfl, by decide⟩

/-- A T conversion of the timer, just complete, with the class's limits at 300 and 350. -/
def tSpotT : Conversion := { channel := .T, kind := .spot, requesters := [.timer], since := 4996000, limit := 12000 }

/-- The station with it, the hold in force or not. -/
def tWarm (hold : Bool) : State := tAt fun c => { tMount c with
  meas := { (tMount c).meas with conv := some tSpotT }
  illum := { (tMount c).illum with hold := hold, life := if hold then .thermalHold else .idle } }

/-- The codes of 350, 330 and 300 with a base of -200 and a span of 1,500. -/
theorem met_SpotResultWritesTheLatch_values :
    ((tAt fun c => { tMount c with
          meas := { (tMount c).meas with cal := { (tMount c).meas.cal with g := some ⟨500, 0⟩ } } }).core.meas.cal
        = ⟨some ⟨1200, 50000⟩, some ⟨500, 0⟩, some ⟨3000, 2000⟩, some ⟨-200, 1500⟩⟩ ∧ tMounted.core.motion.cRef = some 4200500)
      ∧ ((tWarm false).core.meas.conv = some tSpotT ∧ tSpotT.channel = .T ∧ tSpotT.kind = .spot
        ∧ tSpotT.requesters = [.timer] ∧ tSpotT.since + 4000 ≤ ((tWarm false).found 0).now
        ∧ ((tWarm false).found 0).now ≤ tSpotT.since + tSpotT.limit
        ∧ (tWarm false).core.meas.pending = ⟨none, none, none, none⟩ ∧ (tWarm false).core.faults = []
        ∧ (tWarm false).core.vols.mounted = some 0 ∧ (tWarm false).core.vols.slots[(0 : Fin 16)] = some tVolume
        ∧ (tWarm false).core.vols.classes[tVolume.cls] = some tClass ∧ (tWarm false).core.illum.flash = none
        ∧ (tWarm false).core.illum.view.wanted = false)
      ∧ (((tWarm false).found 0).convert .T 3075823 = some 350 ∧ tClass.limit ≤ 350
        ∧ (tWarm false).core.illum.hold = false ∧ (tWarm false).core.illum.life = .idle)
      ∧ (((tWarm true).found 0).convert .T 2796203 = some 300 ∧ (300 : Int) < tClass.limit ∧ (300 : Int) ≤ tClass.warn
        ∧ (tWarm true).core.illum.hold = true ∧ (tWarm true).core.illum.life = .thermalHold)
      ∧ (((tWarm true).found 0).convert .T 2963975 = some 330 ∧ tClass.warn < (330 : Int)
        ∧ (330 : Int) < tClass.limit) := by decide

/-- The station at a phase of a homing, with a volume mounted and a G conversion of that homing. -/
def tReference (since : Nat) : State := tAt fun c => { tMount c with
  motion := { (tMount c).motion with homing := some { entry := 0, phase := .reference, since := 4000000 } }
  meas := { (tMount c).meas with
    conv := some { channel := .G, kind := .spot, requesters := [.homingRef], since := since, limit := 12000 } } }

/-- The reading just complete, and at its limit. -/
theorem met_HomingGoesThroughItsPhases_completed :
    (tReference 4996000).core.motion.homing = some { entry := 0, phase := .reference, since := 4000000 }
      ∧ (tReference 4996000).core.faults = [] ∧ (tReference 4996000).core.cls = some tClass
      ∧ (tReference 4996000).core.meas.pending = ⟨none, none, none, none⟩
      ∧ 4996000 + 4000 ≤ ((tReference 4996000).found 0).now ∧ ((tReference 4996000).found 0).now ≤ 4996000 + 12000
      ∧ 4988000 + 12000 ≤ ((tReference 4988000).found 0).now := by decide

/-- A homing whose phase began at the power-on, 10,000 ms ago. -/
def tHomed (p : HomingPhase) : State := tAt fun c => { c with
  now := 10000000
  motion := { c.motion with homing := some { entry := 0, phase := p, since := 0 } } }

theorem met_HomingPhaseFails_laterPhases :
    ∀ p ∈ [HomingPhase.arm, .angleSensor, .angleTarget],
      (tHomed p).core.motion.homing = some { entry := 0, phase := p, since := 0 } ∧ (tHomed p).core.faults = []
        ∧ (tHomed p).core.motion.lowerHeld = false ∧ (tHomed p).core.motion.turnWait = none
        ∧ 0 + 5000000 ≤ ((tHomed p).found 0).now ∧ 0 + 10000000 ≤ ((tHomed p).found 0).now := by decide

/-- The platen RAISING for a turn. -/
def tRaisingForTurn : State := tMotion fun m => { m with
  platen := .moving .raising, platenSince := 19000000, turnWait := some .raise }

theorem met_PlatenMoves_raiseForATurn :
    tRaisingForTurn.core.motion.platen = .moving .raising ∧ tRaisingForTurn.core.motion.homing = none
      ∧ tRaisingForTurn.core.faults = [] ∧ tRaisingForTurn.core.motion.stepRaise = false
      ∧ tRaisingForTurn.core.motion.turnWait = some .raise ∧ tRaisingForTurn.core.panel.broken = false
      ∧ tRaisingForTurn.core.vols.mounted = some 0 ∧ tRaisingForTurn.core.vols.slots[(0 : Fin 16)] = some tVolume
      ∧ tVolume.cursor < tVolume.leaves ∧ isFoldout tVolume.segs (tVolume.cursor + 1) = false := by decide

theorem met_GaugeClassesTheLeaf_fault :
    (tArm fun m => { m with arm := .moving .gauging, stage := .gauge }).core.motion.arm = .moving .gauging
      ∧ (tArm fun m => { m with arm := .moving .gauging, stage := .gauge }).core.motion.stage = .gauge
      ∧ ({ tGauge 0 with flag := some .fault } : Result).flag = some .fault := by decide

/-- A dose record. -/
def tDose : DoseRecord := ((tLitCapture .taken .taken).core.chargeWindow tFirst none 1).2

/-- An attempt in COLLECTING of a CAPTURE step with its dose record in hand. -/
def tCollecting (v r : FrameState) : State :=
  let s := tLitCapture v r
  { s with core := { s.core with
      illum := { s.core.illum with life := .recovering, flash := none, lampOffAt := some 3000000 }
      meas := { s.core.meas with conv := none }
      cap := { s.core.cap with
        camV := { s.core.cap.camV with sawLow := true }, camR := { s.core.cap.camR with sawLow := true }
        attempt := some { tAttempt with
          phase := .collecting, seq := 1, number := 1, dose := some tDose, frameSince := some 3000000
          frameLimit := 2000 } } } }

/-- For each camera. -/
theorem met_CameraLinesAreWatched_record :
    ∀ x ∈ [(Camera.V, tCollecting .triggered .taken), (.R, tCollecting .taken .triggered)],
      x.2.core.faults = []
        ∧ x.2.core.cap.attempt = some { tAttempt with
            phase := .collecting, seq := 1, number := 1, dose := some tDose, frameSince := some 3000000
            frameLimit := 2000 }
        ∧ tAttempt.aborting = false ∧ tAttempt.side = .both
        ∧ (∀ j ∈ [Camera.V, .R], (x.2.core.cap.cam j).frame = if j = x.1 then .triggered else .taken)
        ∧ (x.2.core.cap.cam x.1).sawLow = true ∧ x.2.core.vols.mounted = some 0
        ∧ x.2.core.vols.slots[(0 : Fin 16)] = some tVolume ∧ x.2.core.seq.state = .running
        ∧ x.2.core.seq.op = some .attempt ∧ x.2.core.seq.queue = [tCapture] := by
  intro x hx
  simp only [List.mem_cons, List.not_mem_nil, or_false] at hx
  rcases hx with rfl | rfl <;>
    exact ⟨rfl, rfl, rfl, rfl, by decide, rfl, rfl, by decide, rfl, rfl, rfl⟩

theorem met_CameraLinesAreWatched_retake : tAttempt.opening ∉ tVolume.captured ∧ tAttempt.opening ∈ [5] := by decide

/-- For each camera. -/
theorem met_CamerasTimeOut_record :
    (∀ j : Camera, ((tCollecting .triggered .taken).core.cap.cam j).frame = if j = .V then .triggered else .taken)
      ∧ (∀ j : Camera, ((tCollecting .taken .triggered).core.cap.cam j).frame = if j = .R then .triggered else .taken)
      ∧ 3000000 + 2000 * 1000 ≤ ((tCollecting .triggered .taken).found 0).now
      ∧ 0 < (tCollecting .triggered .taken).core.freeExceptions
      ∧ (tCollecting .taken .triggered).core.seq.queue = tCapture :: [] := by
  refine ⟨fun j => ?_, fun j => ?_, by decide, by decide, rfl⟩ <;> cases j <;> rfl

theorem met_StepsAreQueuedAndEdited_mounted :
    Taken tq (tSeq [tCapture, tCycle] .held) ∧ (tSeq [tCapture, tCycle] .held).core.seq.queue = [tCapture] ++ tCycle :: []
      ∧ (∀ x ∈ [tCapture] ++ [], x.id ≠ 2) ∧ tCycle.id = 2 ∧ tCycle.work = .cycle 24 1
      ∧ (tSeq [tCapture, tCycle] .held).core.vols.mounted = some 0
      ∧ (tSeq [tCapture, tCycle] .held).core.vols.slots[(0 : Fin 16)] = some tVolume :=
  ⟨taken_of _ _ rfl rfl, by decide⟩

/-- A fault of the angle. -/
def tAngleFault : FaultEntry :=
  { kind := .angleTimeout, detail := .angle 90, stamp := 0, count := 1, acked := false }

/-- The station with two faults, the angle in FAULT or not. -/
def tFaults (bad : Bool) : State := tAt fun c => { tMount c with
  faults := [tAngleFault, tFault]
  motion := { (tMount c).motion with angle := if bad then .fault else .atAngle }
  meas := { (tMount c).meas with latch := ⟨none, none, none, none⟩ } }

theorem met_FaultsAreCleared_several :
    Taken tq (tFaults false) ∧ Taken tq (tFaults true)
      ∧ (tFaults false).core.faults = [] ++ tAngleFault :: [tFault] ∧ tAngleFault.kind = .angleTimeout
      ∧ (∀ x ∈ [] ++ [tFault], x.kind ≠ .angleTimeout)
      ∧ (∃ n ∈ List.range 20, faultKindCodes[n]? = some .angleTimeout)
      ∧ (tFaults false).core.faultPresent tAngleFault = false ∧ (tFaults true).core.faultPresent tAngleFault = true :=
  ⟨taken_of _ _ rfl rfl, taken_of _ _ rfl rfl, by decide⟩

/-- The transmitter busy, with room for three reports. -/
def tBusy (s : State) : State :=
  { s with link := { s.link with tx := some (.report (.panelCurtain 0#32 true)), reports := List.replicate 29 (.panelCurtain 0#32 true) } }

theorem met_CurtainIsWatched_reports :
    (∀ s ∈ [tSeq [] .running, tSeq [] .halting, tSeq [] .idle, tSeq [] .held, tClearing],
        (tBusy s).core.illum.flash = none ∧ (tBusy s).core.cap.attempt = none ∧ (tBusy s).core.motion.homing = none
          ∧ (tBusy s).core.motion.platen = .up ∧ (tBusy s).core.motion.angle = .atAngle
          ∧ (tBusy s).core.motion.arm = .parked ∧ (tBusy s).core.motion.lowerHeld = false
          ∧ (tBusy s).core.motion.turnWait = none ∧ (tBusy s).core.faults = [] ∧ (tBusy s).core.seq.pause = none
          ∧ (tBusy s).link.tx ≠ none ∧ (tBusy s).link.reports.length + 3 ≤ 32)
      ∧ (∀ s ∈ [tSeq [] .running, tSeq [] .halting, tSeq [] .idle, tSeq [] .held],
        (tBusy s).core.panel.broken = false ∧ (tBusy s).core.seq.interlock = false)
      ∧ ((tBusy tClearing).core.panel.broken = true ∧ (tBusy tClearing).core.panel.clearSince = some 4800000
        ∧ 4800000 + 200000 ≤ ((tBusy tClearing).found 0).now) := by decide

/-- The first threshold at fault by its range, and by its order. -/
theorem met_CountersAreSetReadAndCount_bands :
    Taken tq State.reset ∧ (1 ≤ 200000 ∧ 200000 ≤ 200000 ∧ 200000 < 200001 ∧ 2 = 2)
      ∧ (1 ≤ 1 ∧ 1 ≤ 200000 ∧ 2 ≤ 200000 ∧ (0 = 0 ∨ 200000 < 0))
      ∧ (1 ≤ 5 ∧ 5 ≤ 5 ∧ 5 < 6 ∧ 6 < 7 ∧ 7 ≤ 7 ∧ 7 ≤ 200000) := ⟨taken_of _ _ rfl rfl, by decide⟩

/-! ### What waits, what is sampled, what starts and what is aborted -/

/-- A full ring with an attempt in RING_WAIT, marked for the interlock or not, or with a mark. -/
def tRingWait (attempt mark : Bool) (il : Bool) : State := tAt fun c => { tMount c with
  cap := { c.cap with
    ring := List.replicate 64 (.mark { seq := 1, stamp := 0, place := none, note := 0 })
    attempt := if attempt then some { tAttempt with phase := .ringWait, interlock := il } else none
    mark := if mark then some 77 else none }
  seq := { c.seq with
    queue := [{ tCapture with work := if mark then .mark 77 else .capture .auto false }], state := .running
    started := true, op := some (if mark then .mark else .attempt) } }

theorem ready_of (s : State) (h : s.core.motion.platen = .up ∧ s.core.motion.angle ≠ .moving
    ∧ s.core.motion.angle ≠ .stopped ∧ s.core.motion.arm = .parked ∧ s.core.panel.broken = false) : s.core.CradleReady :=
  ⟨h.1, h.2.1, h.2.2.1, h.2.2.2.1, h.2.2.2.2⟩

theorem met_RingIsDrained_ringWait :
    (∀ il ∈ [true, false], Taken tq (tRingWait true false il) ∧ 1 ≤ 1 ∧ 1 ≤ 8
        ∧ ((tRingWait true false il).core.cap.ring.drop 1).length < 64
        ∧ (tRingWait true false il).core.cap.attempt = some { tAttempt with phase := .ringWait, interlock := il }
        ∧ (tRingWait true false il).core.vols.mounted = some 0
        ∧ (tRingWait true false il).core.vols.slots[(0 : Fin 16)] = some tVolume
        ∧ (tRingWait true false il).core.illum.view.wanted = false ∧ (tRingWait true false il).core.faults = []
        ∧ (tRingWait true false il).core.CradleReady ∧ (tRingWait true false il).core.ConverterFree)
      ∧ (Taken tq (tRingWait false true false) ∧ (tRingWait false true false).core.cap.attempt = none
        ∧ (tRingWait false true false).core.cap.mark = some 77 ∧ (tRingWait false true false).core.seq.state = .running
        ∧ (tRingWait false true false).core.seq.op = some .mark
        ∧ (tRingWait false true false).core.seq.queue = [{ tCapture with work := .mark 77 }]
        ∧ (tRingWait false true false).core.vols.mounted = some 0) := by
  refine ⟨fun il _ => ?_, taken_of _ _ rfl rfl, by decide⟩
  cases il <;>
    exact ⟨taken_of _ _ rfl rfl, by decide, by decide, by decide, rfl, rfl, rfl, rfl, rfl, ready_of _ (by decide),
      ⟨rfl, rfl⟩⟩

/-- An attempt in each phase but RING_WAIT. -/
theorem met_RingIsDrained_inHand :
    ∀ p ∈ [AttemptPhase.preparing, .admitting, .lit, .collecting],
      Taken tq (tAt fun c => { c with cap := { c.cap with attempt := some { tAttempt with phase := p } } })
        ∧ ({ tAttempt with phase := p } : Attempt).phase ≠ .ringWait :=
  fun p hp => ⟨taken_of _ _ rfl rfl, by revert p; decide⟩

/-- A force sample 5 ms after its grant, or at its limit, in a lowering for the attempt of a CAPTURE step. -/
def tForce (age : Nat) : State :=
  { tLoweringFor with core := { tLoweringFor.core with
      motion := { tLoweringFor.core.motion with settle := none }
      meas := { tLoweringFor.core.meas with
        conv := some { channel := .F, kind := .spot, requesters := [.force], since := 20000000 - age, limit := 12000 } } } }

/-- F just below the target of 40, at it, at 3/2 of it, and above that. -/
theorem met_PlatenMoves_forceSamples :
    (∀ age ∈ [5000, 12000], (tForce age).core.motion.platen = .moving .lowering ∧ (tForce age).core.panel.broken = false
        ∧ (tForce age).core.faults = []
        ∧ (tForce age).core.meas.conv = some
            { channel := .F, kind := .spot, requesters := [.force], since := 20000000 - age, limit := 12000 }
        ∧ (tForce age).core.meas.pending = ⟨none, none, none, none⟩
        ∧ (tForce age).core.meas.cal.f = some { x := 3000, y := 2000 } ∧ (tForce age).core.vols.mounted = some 0
        ∧ (tForce age).core.vols.slots[(0 : Fin 16)] = some tVolume
        ∧ (tForce age).core.vols.classes[tVolume.cls] = some tClass
        ∧ (tForce age).core.cap.attempt = some { tAttempt with phase := .preparing }
        ∧ (tForce age).core.seq.op = some .attempt ∧ (tForce age).core.seq.queue = [tCapture]
        ∧ (tForce age).link.tx ≠ none ∧ (tForce age).link.reports.length + 4 ≤ 32
        ∧ (20000000 - age) + 4000 ≤ ((tForce age).found 0).now ∧ ((tForce age).found 0).now ≤ (20000000 - age) + 12000)
      ∧ (20000000 - 12000) + 12000 ≤ ((tForce 12000).found 0).now
      ∧ (∀ x ∈ [((170000 : Int), (39 : Int)), (170773, 40), (254659, 60), (258854, 61)],
          x.1 = max (-8388608) (min 8388607 x.1) ∧ x.2 = max 0 (min 8388607 (x.1 - 3000)) * 2000 / 8388607)
      ∧ (2 * 60 ≤ 3 * (tClass.force : Int) ∧ (39 : Int) < tClass.force ∧ (tClass.force : Int) ≤ 40
        ∧ 3 * (tClass.force : Int) < 2 * 61) := by decide

/-- The open reference of a turn 5 ms after its grant, or at its limit. -/
def tOpenRef (age : Nat) (t : Turn) : State :=
  let s := tMotion fun m => { m with turn := some t, arm := .moving .returning, stage := .reference }
  { s with core := { s.core with
      meas := { s.core.meas with
        conv := some { channel := .G, kind := .spot, requesters := [.openRef], since := 20000000 - age, limit := 12000 } }
      seq := { s.core.seq with queue := [tTurnStep], state := .running, started := true, op := some .turn } } }

theorem met_LeafIsCarriedAndLaid_end :
    ∀ t ∈ [{ tTurn with laid := true }, tTurn, { tTurn with vacLost := true }, { tTurn with aborting := true }],
      ∀ age ∈ [5000, 12000],
        (tOpenRef age t).core.motion.turn = some t ∧ (tOpenRef age t).core.motion.arm = .moving .returning
          ∧ (tOpenRef age t).core.motion.stage = .reference ∧ (tOpenRef age t).core.faults = []
          ∧ (tOpenRef age t).core.meas.conv = some
              { channel := .G, kind := .spot, requesters := [.openRef], since := 20000000 - age, limit := 12000 }
          ∧ (tOpenRef age t).core.meas.pending = ⟨none, none, none, none⟩
          ∧ (tOpenRef age t).core.seq.state = .running ∧ (tOpenRef age t).core.seq.op = some .turn
          ∧ (tOpenRef age t).core.seq.queue = [tTurnStep] ∧ tTurnStep.work = .turn
          ∧ (tOpenRef age t).core.seq.pause = none
          ∧ (20000000 - age) + 4000 ≤ ((tOpenRef age t).found 0).now
          ∧ ((tOpenRef age t).found 0).now ≤ (20000000 - age) + 12000
          ∧ (age = 12000 → (20000000 - age) + 12000 ≤ ((tOpenRef age t).found 0).now) := by decide

/-- The idle station with a volume at an opening, captured or not, with the platen where it is. -/
def tIdleAt (k : Nat) (captured : Bool) (p : PlatenState) (full : Bool) : State := tAt fun c => { tMount c with
  vols := { (tMount c).vols with
    slots := (tMount c).vols.slots.set 0 (some { tVolume with cursor := k, captured := if captured then [k] else [] }) }
  motion := { (tMount c).motion with platen := p }
  cap := { c.cap with
    ring := if full then List.replicate 64 (.mark { seq := 1, stamp := 0, place := none, note := 0 }) else [] } }

/-- A guard on OPENING_CAPTURED. -/
theorem met_StepsStart_guard :
    ∀ b ∈ [true, false], Taken tq (tIdleAt 5 b .up false)
      ∧ stepGuard (some ⟨7, !b⟩) = .ok (some ⟨.openingCaptured, !b⟩) ∧ stepGuard (some ⟨7, b⟩) = .ok (some ⟨.openingCaptured, b⟩)
      ∧ stepWork (.capture 0 1) = .ok (.capture .auto false, 0#16) ∧ (tIdleAt 5 b .up false).core.seq.state = .idle
      ∧ (tIdleAt 5 b .up false).core.seq.queue = [] ∧ (tIdleAt 5 b .up false).core.seq.started = false
      ∧ (tIdleAt 5 b .up false).core.seq.pause = none
      ∧ (tIdleAt 5 b .up false).core.word.get .openingCaptured ≠ !b
      ∧ (tIdleAt 5 b .up false).core.word.get .openingCaptured = b ∧ (tIdleAt 5 b .up false).core.openingCaptured = b :=
  fun b _ => ⟨taken_of _ _ rfl rfl, by cases b <;> decide⟩

/-- A state with its sequencer IDLE. -/
def tIdle (s : State) : State := { s with core := { s.core with seq := { s.core.seq with state := .idle } } }

/-- The three grounds of the start check: a fault, too few free exceptions, the curtain. -/
theorem met_StepsStart_startCheck :
    (Taken tq { tMounted with core := { tMounted.core with faults := [tFault] } } ∧ [tFault] ≠ [])
      ∧ (Taken tq (tIdle tCrowded) ∧ (tIdle tCrowded).core.faults = [] ∧ (tIdle tCrowded).core.freeExceptions < 5
        ∧ (tIdle tCrowded).core.seq.state = .idle ∧ (tIdle tCrowded).core.seq.queue = [])
      ∧ (tMounted.core.faults = [] ∧ 5 ≤ tMounted.core.freeExceptions
        ∧ { tMounted.core.panel with broken := true }.broken = true)
      ∧ stepWork .turn = .ok (.turn, 0#16) ∧ (StepWork.turn).kind = .turn ∧ tMounted.core.seq.state = .idle
      ∧ tMounted.core.seq.queue = [] ∧ tMounted.core.seq.started = false ∧ tMounted.core.seq.pause = none :=
  ⟨⟨taken_of _ _ rfl rfl, by decide⟩, ⟨taken_of _ _ rfl rfl, rfl, by decide +kernel, rfl, rfl⟩, by decide, rfl, rfl, rfl, rfl, rfl, rfl⟩

theorem met_StepsStart_begins :
    (∀ full ∈ [true, false], Taken tq (tIdleAt 5 false .up full) ∧ stepGuard none = .ok none
        ∧ (tIdleAt 5 false .up full).core.faults = [] ∧ 5 ≤ (tIdleAt 5 false .up full).core.freeExceptions
        ∧ (tIdleAt 5 false .up full).core.CradleReady ∧ (tIdleAt 5 false .up full).core.ConverterFree
        ∧ (tIdleAt 5 false .up full).core.vols.mounted = some 0 ∧ (tIdleAt 5 false .up full).core.motion.turn = none
        ∧ (tIdleAt 5 false .up full).core.motion.turnWait = none ∧ (tIdleAt 5 false .up full).core.motion.cRef ≠ none
        ∧ 5 < tVolume.leaves ∧ isFoldout tVolume.segs 6 = false
        ∧ stepWork (.capture 0 1) = .ok (.capture .auto false, 0#16)
        ∧ (tIdleAt 5 false .up full).core.openingCaptured = false
        ∧ (tIdleAt 5 false .up full).core.cap.attempt = none ∧ (tIdleAt 5 false .up full).core.cap.mark = none
        ∧ (tIdleAt 5 false .up full).core.illum.view.wanted = false
        ∧ (full = true → 64 ≤ (tIdleAt 5 false .up full).core.cap.ring.length)
        ∧ (full = false → (tIdleAt 5 false .up full).core.cap.ring.length < 64)
        ∧ (tIdleAt 5 false .up full).core.dose.accrual = none)
      ∧ ((0x7F0#16 >>> 4) &&& 0x7F#16 ≠ 0#16 ∧ 0x7F0#16 &&& 0xF800#16 = 0#16) := by
  refine ⟨fun full _ => ?_, by decide⟩
  cases full <;>
    exact ⟨taken_of _ _ rfl rfl, rfl, rfl, by decide, ready_of _ (by decide), ⟨rfl, rfl⟩, by decide⟩

/-- Openings of the volume of 24 leaves whose leaf 23 is a foldout: behind the stop, at it, and before it. -/
theorem met_CyclesFollowThePositions :
    (∀ x ∈ [tIdleAt 5 false .up false, tIdleAt 5 true .up false, tIdleAt 22 true .up false, tIdleAt 22 true .down false],
        Taken tq x ∧ x.core.seq.state = .idle ∧ x.core.seq.queue = [] ∧ x.core.seq.started = false ∧ x.core.seq.pause = none
          ∧ x.core.seq.awaiting = none ∧ x.core.faults = [] ∧ 5 ≤ x.core.freeExceptions ∧ x.core.panel.broken = false
          ∧ x.core.vols.mounted = some 0 ∧ x.core.cap.attempt = none ∧ x.core.cap.mark = none
          ∧ x.core.cap.ring.length < 64 ∧ x.core.ConverterFree ∧ x.core.illum.view.wanted = false
          ∧ x.core.motion.turn = none ∧ x.core.motion.turnWait = none ∧ x.core.motion.cRef ≠ none)
      ∧ (tIdleAt 5 false .up false).core.CradleReady ∧ (tIdleAt 5 true .up false).core.CradleReady
      ∧ stepGuard none = .ok none ∧ stepWork (.cycle 24 1) = .ok (.cycle (min 24 4096) (min 1 2), 0#16)
      ∧ (min (min 4 4096) tVolume.leaves < 5 ∧ 5 = min (min 5 4096) tVolume.leaves
        ∧ 22 < min (min 9000 4096) tVolume.leaves ∧ isFoldout tVolume.segs 23 = true
        ∧ isFoldout tVolume.segs 6 = false)
      ∧ ((tIdleAt 22 true .up false).core.motion.platen = .up ∧ (tIdleAt 22 true .down false).core.motion.platen = .down)
      ∧ (tMounted.core.vols.mounted = some 0 ∧ State.reset.core.vols.mounted = none) := by
  refine ⟨fun x hx => ?_, ready_of _ (by decide), ready_of _ (by decide), rfl, rfl, by decide, by decide, by decide⟩
  simp only [List.mem_cons, List.not_mem_nil, or_false] at hx
  rcases hx with rfl | rfl | rfl | rfl <;>
    exact ⟨taken_of _ _ rfl rfl, rfl, rfl, rfl, rfl, rfl, rfl, by decide, rfl, rfl, rfl, rfl, by decide, ⟨rfl, rfl⟩, rfl,
      rfl, rfl, by decide⟩

/-- A CYCLE with no volume mounted. -/
def tNoVolume : State := { tMounted with core := { tMounted.core with
  vols := { tMounted.core.vols with mounted := none } } }

/-- A CYCLE with one retake whose first and whose second lit attempt has failed. -/
theorem met_CyclesFollowThePositions_retakes :
    (Taken tq tNoVolume ∧ tNoVolume.core.vols.mounted = none ∧ tNoVolume.core.panel.broken = false
        ∧ tNoVolume.core.faults = [] ∧ 5 ≤ tNoVolume.core.freeExceptions)
      ∧ (∀ lit ∈ [0, 1],
        let c := { (tSeq [tCycle] .running).core with
          seq := { (tSeq [tCycle] .running).core.seq with
            op := some .attempt, cycle := some { pos := .B, lit := lit, count := 0, slot := 0, inst := 1 } } }
        c.seq.op = some .attempt ∧ c.seq.queue = tCycle :: [] ∧ tCycle.work = .cycle 24 1 ∧ c.seq.state = .running
          ∧ CaptureOutcome.versoFailed ≠ .ok ∧ c.faults = [] ∧ 5 ≤ c.freeExceptions ∧ c.panel.broken = false
          ∧ c.vols.mounted = some 0 ∧ c.vols.slots[(0 : Fin 16)] = some tVolume ∧ tVolume.inst = 1
          ∧ tVolume.cursor ∉ tVolume.captured ∧ c.cap.attempt = none ∧ c.cap.mark = none)
      ∧ (0 + 1 < 1 + 1 ∧ 1 + 1 ≤ 1 + 1) :=
  ⟨⟨taken_of _ _ rfl rfl, by decide⟩, by decide, by decide⟩

/-- A lit attempt; a turn in LIFTING, in SWEEPING and in a put-down; an arm stopped by the curtain and by its vacuum. -/
theorem met_AbortEndsWhatIsInHand :
    (Taken tq (tLitCapture .triggered .triggered) ∧ (tLitCapture .triggered .triggered).core.faults = []
        ∧ (tLitCapture .triggered .triggered).core.motion.homing = none
        ∧ (tLitCapture .triggered .triggered).core.cap.mark = none
        ∧ (tLitCapture .triggered .triggered).core.seq.queue = tCapture :: []
        ∧ (tLitCapture .triggered .triggered).core.motion.platen = .up
        ∧ (tLitCapture .triggered .triggered).core.cap.attempt = some { tAttempt with phase := .lit, seq := 1, number := 1 }
        ∧ (tLitCapture .triggered .triggered).core.illum.life = .lit
        ∧ (tLitCapture .triggered .triggered).core.illum.flash = some { tCalFlash with by_ := .capture .both }
        ∧ tCalFlash.adm = some tFirst ∧ (tLitCapture .triggered .triggered).core.vols.mounted = some 0
        ∧ (tLitCapture .triggered .triggered).core.vols.slots[(0 : Fin 16)] = some tVolume
        ∧ tVolume.uF ≤ 1099511627775)
      ∧ (∀ x ∈ [(ArmState.moving .lifting, ArmStage.suck), (.moving .sweeping, .sweep), (.moving .gauging, .putDown .lostLeaf),
            (.stopped .lifting .curtain, .suck), (.stopped .sweeping .vacuumLost, .sweep)],
          let s := tArm fun m => { m with arm := x.1, stage := x.2 }
          Taken tq { s with core := { s.core with seq := { s.core.seq with queue := [tTurnStep] } } }
            ∧ s.core.faults = [] ∧ s.core.motion.homing = none ∧ s.core.cap.mark = none ∧ s.core.motion.platen = .up
            ∧ s.core.motion.turn = some tTurn ∧ s.core.motion.arm = x.1 ∧ s.core.motion.stage = x.2
            ∧ s.core.cap.attempt = none ∧ s.core.illum.flash = none ∧ s.link.reports = []) :=
  ⟨⟨taken_of _ _ rfl rfl, rfl, rfl, rfl, rfl, rfl, rfl, rfl, rfl, rfl, rfl, by decide, by decide⟩,
    fun x _ => ⟨taken_of _ _ rfl rfl, rfl, rfl, rfl, rfl, rfl, rfl, rfl, rfl, rfl, rfl⟩⟩

/-! ### Bytes on the wire (R199) -/

/-- R60: the calibration alone, each field of a P channel in 4 bytes. -/
theorem test_wire_calibration : (Body.channelCal .P (some { x := 1, y := -1 })).bytes = [1, 0, 0, 0, 255, 255, 255, 255] := by
  decide

/-- Section 3.2: three flags of a result, HIGH_SAT, LOW_SAT and FAULT. -/
theorem test_wire_result_flags :
    resultFlagBytes (some .highSat) = [1, 0, 0] ∧ resultFlagBytes (some .lowSat) = [0, 1, 0]
      ∧ resultFlagBytes (some .fault) = [0, 0, 1] ∧ resultFlagBytes none = [0, 0, 0] := by decide

/-- R85: the force BUDGET first stands before THERMAL, and CEILING last. -/
theorem test_wire_forces :
    ({ wanted := true, suppressed := false, thermal := true, budget := true, ceiling := true } : ViewLight).forceBytes
      = [3, 0, 1, 2] := by decide

/-! ### Work in hand: entry numbers, leaving the cradle, the ends of turns -/

/-- Three requests wait for their replies: a homing, a calibration flash and a MEASURE. -/
def tThree : Link := { State.reset.link with
  nextEntry := 3
  pending := [{ id := 0, kind := 0x30, tag := 1, reply := none }, { id := 1, kind := 0x23, tag := 2, reply := none },
    { id := 2, kind := 0x29, tag := 3, reply := none }] }

/-- A homing in a phase, a calibration flash in ADMITTING and a MEASURE of T, with a TURN in the queue. -/
def tWorking (p : HomingPhase) : State := { tAt fun c => { tMount c with
    motion := { (tMount c).motion with homing := some { entry := 0, phase := p, since := 4000000 } }
    illum := { (tMount c).illum with life := .admitting, flash := some { tCalFlash with by_ := .calibration 1 } }
    meas := { (tMount c).meas with
      pending := ⟨none, some { kind := .spot, requesters := [.homingRef] }, none,
        some { kind := .spot, requesters := [.measure 2] }⟩ }
    seq := { c.seq with queue := [tTurnStep], state := .running } } with
  link := tThree, pending := [.msTick] }

theorem taken_three (s : State) (h : s.link = tThree) : Taken tq s := by
  obtain ⟨c, l, k, p⟩ := s
  simp only at h
  subst h
  exact ⟨rfl, (by decide : tThree.pending.length < 16), rfl, (by decide : ∀ p ∈ tThree.pending, p.id ≠ tThree.nextEntry)⟩

theorem issued_working (p : HomingPhase) : (tWorking p).NumbersIssued where
  flash f e hf he := by cases hf; cases he; exact (by decide : 1 < 3)
  closing f e hf _ := by cases hf
  homing h hh := by cases hh; exact (by decide : 0 < 3)
  measures e he := by
    have : e = 2 := by simpa [tWorking, tAt, tMount, Measure.allWaiting, PerChannel.get, State.reset, Core.powerOn,
      Measure.powerOn, waiters] using he
    subst this
    exact (by decide : 2 < 3)

/-- The newest number given out is in hand. -/
theorem met_StepKeepsBounds_numbers :
    (tWorking .reference).NumbersIssued ∧ .measure 2 ∈ (tWorking .reference).core.meas.allWaiting
      ∧ 2 + 1 = (tWorking .reference).link.nextEntry ∧ ∃ t, step (tWorking .reference) = .next t :=
  ⟨issued_working _, by decide, rfl, _, rfl⟩

/-- A state with nothing in hand that keeps an entry number. -/
theorem issued_of (s : State) (h : (∀ f e, s.core.illum.flash = some f → f.by_ ≠ .calibration e)
    ∧ s.core.illum.closing = none ∧ s.core.motion.homing = none ∧ ∀ e, .measure e ∉ s.core.meas.allWaiting) :
    s.NumbersIssued where
  flash f e hf he := absurd he (h.1 f e hf)
  closing f e hf _ := by simp [h.2.1] at hf
  homing x hx := by simp [h.2.2.1] at hx
  measures e he := absurd he (h.2.2.2 e)

/-- A record with every opening captured. -/
def tAll : Volume := { tVolume with captured := List.range 25 }

/-- The view light off, with every opening captured and not; lit for 100 ms; and the station at work, and not quiet. -/
theorem met_VolumesLeaveTheCradle_mounted :
    (∀ v ∈ [tVolume, tAll], let s := tRecord fun _ => v
        Taken tq s ∧ s.core.vols.slots[(0 : Fin 16)] = some v ∧ s.core.quiet = true ∧ s.core.vols.mounted = some 0
          ∧ s.core.illum.view.state ≠ .lit ∧ s.core.dose.accrual = none ∧ v.state = .registered
          ∧ 0 < s.core.freeExceptions)
      ∧ (tAll.captured.length = tAll.leaves + 1 ∧ tVolume.captured.length < tVolume.leaves + 1)
      ∧ (Taken tq tLit ∧ tLit.core.quiet = true ∧ tLit.core.vols.mounted = some 0 ∧ tLit.core.illum.view.state = .lit
        ∧ tLit.core.dose.accrual = some { since := 4900000, eV := 501 }
        ∧ tLit.core.vols.slots[(0 : Fin 16)] = some tVolume ∧ tVolume.state ≠ .withdrawn)
      ∧ ((tSeq [tCapture] .running).core.quiet = false ∧ (tSeq [tCapture] .running).core.working = true
        ∧ (tSeq [tCapture] .running).core.vols.mounted = some 0)
      ∧ ((tMotion fun m => { m with arm := .unreferenced, homing := some { entry := 0, phase := .arm, since := 0 } }).core.quiet
        = false) :=
  ⟨fun v hv => ⟨taken_of _ _ rfl rfl, by
      simp only [List.mem_cons, List.not_mem_nil, or_false] at hv
      rcases hv with rfl | rfl <;> decide +kernel⟩, by decide, ⟨taken_of _ _ rfl rfl, by decide⟩, by decide, by decide⟩

/-- A leaf laid with a step behind the TURN, in HALTING and in HELD; a turn that failed in RUNNING; and one under ABORT. -/
theorem met_LeafIsCarriedAndLaid_queue :
    (∀ st ∈ [SeqState.halting, .held],
        let s := tOpenRef 5000 { tTurn with laid := true }
        let s := { s with core := { s.core with seq := { s.core.seq with state := st, queue := [tTurnStep, tCycle] } } }
        s.core.motion.turn = some { tTurn with laid := true } ∧ s.core.motion.arm = .moving .returning
          ∧ s.core.motion.stage = .reference ∧ s.core.faults = [] ∧ s.core.seq.queue = tTurnStep :: [tCycle]
          ∧ s.core.seq.state ≠ .running ∧ s.core.seq.op = some .turn)
      ∧ (let s := tOpenRef 5000 tTurn;
        let s := { s with core := { s.core with seq := { s.core.seq with queue := [tTurnStep, tCycle] } } }
        s.core.motion.turn = some tTurn ∧ tTurn.laid = false ∧ s.core.seq.queue = tTurnStep :: [tCycle]
          ∧ s.core.seq.pause = none)
      ∧ (tOpenRef 5000 { tTurn with aborting := true }).core.motion.turn = some { tTurn with aborting := true } := by
  decide

/-- A lost leaf, MANY and a gauge fault, each with the last retry and with none left. -/
theorem met_PutDownEndsTheAttempt_ends :
    ∀ why ∈ [PutDown.lostLeaf, .doublePick 80, .gaugeFault],
      let s := tArm fun m => { m with arm := .moving .gauging, stage := .putDown why }
      let u := { s with core := { s.core with motion := { s.core.motion with turn := some { tTurn with retries := 2 } } } }
      s.core.motion.turn = some tTurn ∧ u.core.motion.turn = some { tTurn with retries := 2 }
        ∧ s.core.motion.arm = .moving .gauging ∧ s.core.motion.stage = .putDown why ∧ u.core.motion.stage = .putDown why
        ∧ tTurn.aborting = false ∧ tTurn.failed = false ∧ tTurn.retries + 1 = tClass.retryLimit
        ∧ tClass.retryLimit < 2 + 1 ∧ 2 ≤ u.core.freeExceptions ∧ u.core.seq.pause = none
        ∧ u.core.seq.awaiting = none ∧ tVolume.tallies.doublePicks < 4294967295 := by decide

/-! ### RESUME, the hand turn and the curtain over work in hand -/

/-- HELD with a head step, started or not, and a motion. -/
def tHold (st : Step) (f : Sequencer → Sequencer) (g : Motion → Motion) : State :=
  let s := tMotion g
  { s with core := { s.core with seq := f { s.core.seq with queue := [st, tCycle], state := .held, reason := some .interlock } } }

/-- A head not started: a PAUSE and a TURN. A TURN that awaits the operator for each cause. -/
theorem met_HaltResumeAbort_headStarts :
    (let s := tHold { tTurnStep with work := .pause 10 } id id;
        Taken tq s ∧ 5 ≤ s.core.freeExceptions ∧ s.core.seq.started = false ∧ s.core.seq.pause = none)
      ∧ (let s := tHold tTurnStep id id;
        5 ≤ s.core.freeExceptions ∧ s.core.seq.started = false ∧ s.core.motion.turn = none
          ∧ s.core.motion.turnWait = none ∧ s.core.motion.cRef ≠ none ∧ s.core.vols.mounted = some 0
          ∧ s.core.vols.slots[(0 : Fin 16)] = some tVolume ∧ tVolume.cursor < tVolume.leaves
          ∧ isFoldout tVolume.segs (tVolume.cursor + 1) = false)
      ∧ (tHold tTurnStep id id).core.CradleReady
      ∧ (∀ k ∈ [Awaited.manualTurn, .vacuumLost, .turnFailed],
        let s := tHold tTurnStep (fun x => { x with started := true, awaiting := some k }) id
        s.core.seq.started = true ∧ s.core.seq.op = none ∧ s.core.seq.pause = none ∧ s.core.seq.awaiting = some k
          ∧ s.core.seq.queue = tTurnStep :: [tCycle]) :=
  ⟨⟨taken_of _ _ rfl rfl, by decide⟩, by decide, ready_of _ (by decide), by decide⟩

/-- Operations left in hand: with no motion stopped, with the arm stopped in each stage, with the lowering stopped, and a
stopped PAUSE. -/
theorem met_HaltResumeAbort_inHand :
    (∀ x ∈ [(ArmState.moving .returning, ArmStage.travel), (.stopped .lifting .curtain, .descend),
          (.stopped .lifting .curtain, .suck), (.stopped .gauging .curtain, .leafUp), (.stopped .gauging .curtain, .gauge),
          (.stopped .gauging .curtain, .putDown .lostLeaf), (.stopped .sweeping .curtain, .sweep),
          (.stopped .releasing .curtain, .release), (.stopped .returning .curtain, .travel),
          (.stopped .returning .curtain, .reference), (.stopped .sweeping .vacuumLost, .sweep)],
        let s := tHold tTurnStep (fun x => { x with started := true, op := some .turn })
          fun m => { m with turn := some tTurn, arm := x.1, stage := x.2, vacuumAt := true }
        s.core.seq.started = true ∧ s.core.seq.op ≠ none ∧ s.core.seq.pause = none ∧ s.core.cap.attempt = none
          ∧ s.core.motion.platen = .up ∧ s.core.motion.arm = x.1 ∧ s.core.motion.stage = x.2
          ∧ s.core.motion.turn = some tTurn ∧ tTurn.aborting = false ∧ s.core.cls = some tClass
          ∧ s.core.motion.vacuumAt = true ∧ s.core.meas.conv = none
          ∧ s.core.meas.pending = ⟨none, none, none, none⟩ ∧ 5 ≤ s.core.freeExceptions
          ∧ s.core.seq.queue = tTurnStep :: [tCycle])
      ∧ (let s := tHold tCapture (fun x => { x with started := true, op := some .attempt })
          fun m => { m with platen := .stopped .lowering, settle := some 19000000 };
        let s := { s with core := { s.core with cap := { s.core.cap with attempt := some { tAttempt with
          phase := .preparing, interlock := true } } } }
        s.core.cap.attempt = some { tAttempt with phase := .preparing, interlock := true } ∧ tAttempt.prep = .platen
          ∧ s.core.motion.platen = .stopped .lowering ∧ s.core.motion.arm = .parked ∧ s.core.meas.conv = none
          ∧ s.core.meas.pending = ⟨none, none, none, none⟩ ∧ s.core.seq.queue = tCapture :: [tCycle])
      ∧ (let s := tHold { tTurnStep with work := .pause 10 }
          (fun x => { x with started := true, pause := some { left := 500, since := none } }) id;
        s.core.seq.pause = some { left := 500, since := none } ∧ s.core.seq.op = none ∧ s.core.motion.platen = .up
          ∧ s.core.motion.arm = .parked ∧ s.core.cap.attempt = none) := by decide

/-- The progress of a CYCLE of the mounted volume. -/
def tProgress : CycleProgress := { pos := .A, lit := 1, count := 2, slot := 0, inst := 1 }

/-- A CYCLE between operations, alone in the queue: behind its stop, and at it. -/
def tBetween (stop : Nat) : State :=
  tHold { tCycle with work := .cycle stop 1 } (fun x => { x with
    queue := [{ tCycle with work := .cycle stop 1 }], started := true, cycle := some tProgress }) id

theorem met_HaltResumeAbort_cycle :
    (∀ stop ∈ [4, 5], Taken tq (tBetween stop) ∧ (tBetween stop).core.seq.state = .held
        ∧ 5 ≤ (tBetween stop).core.freeExceptions
        ∧ (tBetween stop).core.seq.queue = { tCycle with work := .cycle stop 1 } :: []
        ∧ (tBetween stop).core.seq.started = true ∧ (tBetween stop).core.seq.op = none
        ∧ (tBetween stop).core.seq.pause = none ∧ (tBetween stop).core.seq.awaiting = none
        ∧ (tBetween stop).core.seq.cycle = some tProgress ∧ tProgress.pos = .A ∧ (tBetween stop).core.vols.mounted = some 0
        ∧ (tBetween stop).core.vols.slots[(0 : Fin 16)] = some tVolume ∧ tProgress.slot = 0 ∧ tProgress.inst = tVolume.inst
        ∧ (tBetween stop).core.cap.attempt = none ∧ (tBetween stop).core.cap.mark = none
        ∧ (tBetween stop).core.cap.ring.length < 64 ∧ (tBetween stop).core.illum.view.wanted = false
        ∧ (tBetween stop).core.ConverterFree ∧ (tBetween stop).core.CradleReady)
      ∧ (min 4 tVolume.leaves < tVolume.cursor ∧ tVolume.cursor ≤ min 5 tVolume.leaves
        ∧ tVolume.cursor ∉ tVolume.captured) :=
  ⟨fun stop _ => ⟨taken_of _ _ rfl rfl, rfl, (by decide : 5 ≤ tMounted.core.freeExceptions), rfl, rfl, rfl, rfl, rfl, rfl, rfl, rfl,
    rfl, rfl, rfl, rfl, rfl, (by decide : 0 < 64), rfl, ⟨rfl, rfl⟩, ready_of _ ⟨rfl, nofun, nofun, rfl, rfl⟩⟩, by decide⟩

/-- TURNED pressed while HELD with the operator awaited, for a TURN and for a CYCLE, alone or with a PAUSE behind. -/
def tAwaiting (st : Step) (more : List Step) (f : Core → Core) : State := tPanel fun c => f { c with
  seq := { c.seq with
    queue := st :: more, state := .held, reason := some .assist, started := true, awaiting := some .manualTurn
    cycle := if st.work.kind = .cycle then some tProgress else none } }

theorem met_KeysAct_handTurn :
    (∀ x ∈ [tAwaiting tTurnStep [] id, tAwaiting tTurnStep [{ tTurnStep with work := .pause 10 }] id, tAwaiting tCycle [] id,
          tAwaiting { tCycle with work := .cycle 5 1 } [] id, tAwaiting tTurnStep [] fun c => { c with faults := [tFault] },
          tAwaiting tCycle [] fun c => { c with panel := { c.panel with broken := true } }],
        x.core.vols.mounted = some 0 ∧ x.core.vols.slots[(0 : Fin 16)] = some tVolume
          ∧ (x.found 0).pressDue .turned = true ∧ x.core.seq.state = .held ∧ x.core.seq.awaiting = some .manualTurn
          ∧ x.core.seq.op = none ∧ x.core.seq.pause = none ∧ x.core.seq.started = true ∧ x.core.motion.arm = .parked
          ∧ x.core.motion.platen = .up ∧ x.core.dose.accrual = none ∧ x.core.illum.view.wanted = false
          ∧ x.core.illum.view.ceiling = false ∧ 6 ≤ x.core.freeExceptions)
      ∧ (tVolume.cursor < tVolume.leaves ∧ tVolume.tallies.manualTurns < 4294967295 ∧ tVolume.cursor + 1 ≤ 4294967295)
      ∧ (tTurnStep.work = .turn ∧ tCycle.work = .cycle 24 1 ∧ tProgress.slot = 0 ∧ tProgress.inst = tVolume.inst)
      ∧ (min 5 tVolume.leaves ≤ tVolume.cursor ∧ tVolume.cursor < min 24 tVolume.leaves
        ∧ tVolume.cursor + 1 ∉ tVolume.captured)
      ∧ ((tAwaiting tCycle [] id).core.cap.attempt = none ∧ (tAwaiting tCycle [] id).core.cap.mark = none
        ∧ (tAwaiting tCycle [] id).core.cap.ring.length < 64 ∧ (tAwaiting tCycle [] id).core.faults = []
        ∧ (tAwaiting tCycle [] id).core.panel.broken = false)
      ∧ ((tAwaiting tCycle [] id).core.CradleReady ∧ (tAwaiting tCycle [] id).core.ConverterFree) :=
  ⟨by decide, by decide, by decide, by decide, by decide, ready_of _ (by decide), rfl, rfl⟩

/-- ADVANCE pressed in IDLE at a captured opening, with the curtain CLEAR and BROKEN. -/
theorem met_KeysAct_turn :
    (∀ b ∈ [true, false],
        let s := tPanel fun c => { c with
          vols := { c.vols with slots := c.vols.slots.set 0 (some { tVolume with captured := [5] }) }
          panel := { c.panel with broken := b } }
        (s.found 0).pressDue .advance = true ∧ s.core.seq.state = .idle ∧ s.core.seq.queue = []
          ∧ s.core.seq.started = false ∧ s.core.seq.pause = none ∧ s.core.faults = [] ∧ 5 ≤ s.core.freeExceptions
          ∧ s.core.vols.mounted = some 0 ∧ s.core.vols.slots[(0 : Fin 16)] = some { tVolume with captured := [5] }
          ∧ tVolume.cursor ∈ [5] ∧ s.core.panel.broken = b ∧ s.core.seq.interlock = false ∧ s.core.motion.turn = none
          ∧ s.core.motion.turnWait = none ∧ s.core.motion.cRef ≠ none
          ∧ isFoldout tVolume.segs (tVolume.cursor + 1) = false)
      ∧ (tPanel id).core.CradleReady := ⟨by decide, ready_of _ (by decide)⟩

/-- The curtain over a moving arm in each of its moving states, the platen both ways, and the cradle. -/
theorem met_CurtainIsWatched_stops :
    (∀ x ∈ [(ArmMove.lifting, ArmStage.descend), (.gauging, .leafUp), (.sweeping, .sweep), (.releasing, .release),
          (.returning, .travel)],
        let s := tArm fun m => { m with arm := .moving x.1, stage := x.2, vacuumAt := x.1 == .sweeping }
        s.core.panel.broken = false ∧ s.core.faults = [] ∧ s.core.seq.pause = none ∧ s.core.illum.flash = none
          ∧ s.core.motion.homing = none ∧ s.core.motion.arm = .moving x.1
          ∧ ¬(x.1 = .sweeping ∧ s.core.motion.vacuumAt = false) ∧ s.core.motion.platen = .up
          ∧ s.core.motion.angle ≠ .moving ∧ s.core.motion.lowerHeld = false ∧ s.core.motion.turnWait ≠ some .angle
          ∧ s.core.meas.pending.get .G = none ∧ s.core.meas.conv = none)
      ∧ (∀ m ∈ [PlatenMove.lowering, .raising],
        let s := tMotion fun x => { x with platen := .moving m }
        s.core.motion.platen = .moving m ∧ s.core.motion.arm = .parked ∧ s.core.motion.angle ≠ .moving
          ∧ s.core.motion.lowerHeld = false ∧ s.core.motion.turnWait ≠ some .angle
          ∧ s.core.meas.pending.get .F = none ∧ s.core.meas.conv = none)
      ∧ ((tMotion fun m => { m with angle := .moving }).core.motion.angle = .moving
        ∧ (tMotion fun m => { m with angle := .moving }).core.motion.arm = .parked
        ∧ (tMotion fun m => { m with angle := .moving }).core.motion.platen = .up) := by decide

/-- A force request that waits for its grant, beside a MEASURE of F that was there before it. -/
def tForcePending : Measure := { tMounted.core.meas with
  pending := ⟨none, none, some { kind := .spot, requesters := [.measure 1, .force] }, none⟩ }

/-- Each way for a request to be withdrawn: it does not stand, it is pending beside another, it is in progress. -/
theorem met_CurtainIsWatched_withdrawn :
    tMounted.core.meas.without .F [.force] = tMounted.core.meas ∧ tMounted.core.meas.SpotsOnly .F
      ∧ ((tForcePending.without .F [.force]).pending.f = some { kind := .spot, requesters := [.measure 1] }
        ∧ tForcePending.SpotsOnly .F)
      ∧ (((tForce 5000).core.meas.without .F [.force]).conv.map (·.requesters) = some []
        ∧ (tForce 5000).core.meas.SpotsOnly .F) := by
  refine ⟨by decide, fun e h => ?_, ⟨by decide, fun e h => ?_⟩, by decide, fun e h => ?_⟩ <;> cases h
  decide

/-- A homing in each phase, and an attempt in each state before its light, with a flash in ADMITTING, in THERMAL_HOLD and
lit. -/
theorem met_CurtainIsWatched_inHand :
    (∀ p ∈ [HomingPhase.platen, .arm, .angleSensor, .angleTarget, .reference],
        (tHomed p).core.motion.homing = some { entry := 0, phase := p, since := 0 } ∧ (tHomed p).core.faults = []
          ∧ (tHomed p).core.seq.pause = none ∧ (tHomed p).core.illum.flash = none
          ∧ (tHomed p).core.motion.stepRaise = false ∧ (tHomed p).core.motion.lowerHeld = false
          ∧ (tHomed p).core.motion.turnWait = none ∧ (tHomed p).core.motion.platen = .unreferenced
          ∧ (tHomed p).core.motion.arm = .unreferenced ∧ (tHomed p).core.motion.angle = .unreferenced)
      ∧ (∀ p ∈ [AttemptPhase.ringWait, .preparing, .admitting], ∀ life ∈ [Lifecycle.admitting, .thermalHold, .lit],
        let s := tAt fun c => { tMount c with
          cap := { c.cap with attempt := some { tAttempt with phase := p, prep := .cameras 3000000 } }
          illum := { (tMount c).illum with life := life, flash := some { tCalFlash with by_ := .capture .both } } }
        s.core.panel.broken = false ∧ s.core.faults = [] ∧ s.core.seq.pause = none ∧ s.core.motion.homing = none
          ∧ s.core.motion.arm = .parked ∧ s.core.motion.platen = .up ∧ s.core.motion.angle ≠ .moving
          ∧ s.core.motion.lowerHeld = false ∧ s.core.motion.turnWait ≠ some .angle
          ∧ s.core.illum.flash = some { tCalFlash with by_ := .capture .both } ∧ s.core.illum.life = life) := by decide

/-- ABORT over a homing and a calibration flash, an attempt not yet lit, and a platen that comes down or is stopped. -/
theorem met_AbortEndsWhatIsInHand_waiting :
    (∀ p ∈ [HomingPhase.platen, .arm, .angleSensor, .angleTarget, .reference],
        Taken tq (tWorking p) ∧ (tWorking p).NumbersIssued ∧ (tWorking p).core.faults = []
          ∧ (tWorking p).core.seq.queue = tTurnStep :: []
          ∧ (tWorking p).core.motion.homing = some { entry := 0, phase := p, since := 4000000 }
          ∧ (tWorking p).core.illum.flash = some { tCalFlash with by_ := .calibration 1 } ∧ (1 ≠ 0)
          ∧ (tWorking p).core.illum.life = .admitting
          ∧ (tWorking p).core.meas.pending.g = some { kind := .spot, requesters := [.homingRef] })
      ∧ (∀ p ∈ [AttemptPhase.ringWait, .preparing, .admitting], ∀ m ∈ [PlatenState.moving .lowering, .stopped .lowering,
          .stopped .raising, .down],
        let s := tAt fun c => { tMount c with
          cap := { c.cap with attempt := some { tAttempt with phase := p } }
          motion := { (tMount c).motion with platen := m }
          meas := { (tMount c).meas with pending := ⟨none, none, some { kind := .spot, requesters := [.force] }, none⟩ }
          seq := { c.seq with queue := [tCapture] } }
        Taken tq s ∧ s.NumbersIssued ∧ s.core.faults = [] ∧ s.core.seq.queue = tCapture :: []
          ∧ s.core.cap.attempt = some { tAttempt with phase := p } ∧ s.core.illum.flash = none
          ∧ s.core.motion.homing = none ∧ s.core.motion.platen = m ∧ s.core.panel.broken = false
          ∧ s.core.meas.pending.f = some { kind := .spot, requesters := [.force] }) :=
  ⟨fun p _ => ⟨taken_three _ rfl, issued_working p, rfl, rfl, rfl, rfl, by decide, rfl, rfl⟩,
    fun p _ m _ => ⟨taken_of _ _ rfl rfl, issued_of _ ⟨fun f e h => (by cases h), rfl, rfl, fun e h => by
      simp [tAt, tMount, Measure.allWaiting, State.reset, Core.powerOn, Measure.powerOn, waiters] at h⟩, rfl, rfl, rfl, rfl, rfl,
      rfl, rfl, rfl⟩⟩

/-! ### Clauses with no step, no break and no lamp before -/

/-- A state with no step in the queue. -/
def tNoStep (s : State) : State := { s with core := { s.core with seq := { s.core.seq with queue := [], state := .idle } } }

/-- A lit calibration flash that the first of three entries waits for. -/
def tLitCal : State := { tFlashing with link := tThree }

/-- ABORT with no step in the queue: over a homing, and over a calibration flash at the last instant of its D. -/
theorem met_AbortEndsWhatIsInHand_noStep :
    (Taken tq (tNoStep (tWorking .arm)) ∧ (tNoStep (tWorking .arm)).NumbersIssued
        ∧ (tNoStep (tWorking .arm)).core.seq.queue = [] ∧ (tNoStep (tWorking .arm)).core.faults = []
        ∧ (tNoStep (tWorking .arm)).core.motion.homing = some { entry := 0, phase := .arm, since := 4000000 })
      ∧ (Taken tq tLitCal ∧ tLitCal.NumbersIssued ∧ tLitCal.core.seq.queue = []
        ∧ tLitCal.core.illum.flash = some tCalFlash ∧ tCalFlash.by_ = .calibration 0 ∧ tCalFlash.adm = some tFirst
        ∧ tLitCal.core.illum.life = .lit ∧ tLitCal.core.cap.attempt = none ∧ tLitCal.core.meas.conv = some tWindow
        ∧ tWindow.kind = .window ∧ tWindow.requesters = [.window]
        ∧ tLitCal.core.meas.pending = ⟨none, none, none, none⟩ ∧ tLitCal.core.motion.homing = none
        ∧ tLitCal.core.motion.turn = none ∧ tLitCal.core.motion.platen.inMotion = false
        ∧ (tLitCal.found 0).now - tCalFlash.litAt = tFirst.d)
      ∧ ((tFaulted false).core.faults = [tFault] ∧ tFault.acked = false) := by
  refine ⟨⟨taken_three _ rfl, ?_, rfl, rfl, rfl⟩, ⟨taken_three _ rfl, ⟨?_, ?_, ?_, ?_⟩, by decide⟩, by decide⟩
  · exact ⟨(issued_working .arm).flash, (issued_working .arm).closing, (issued_working .arm).homing,
      (issued_working .arm).measures⟩
  · intro f e hf he
    cases hf
    cases he
    exact (by decide : 0 < 3)
  · intro f e hf
    cases hf
  · intro h hh
    cases hh
  · intro e he
    simp [tLitCal, tFlashing, tAt, tMount, tWindow, Measure.allWaiting, State.reset, Core.powerOn, Measure.powerOn,
      waiters] at he

/-- HOME over referenced axes, over axes in FAULT with a fault standing, and in HELD with no suspended head; over what keeps
it waiting; and over each stopped axis. -/
theorem met_HomeBegins_widened :
    (∀ s ∈ [tMounted, tMotion fun m => { m with platen := .fault, angle := .fault, arm := .fault }, tSeq [tCapture] .held,
          tFaulted false, { tMounted with core := { tMounted.core with illum := { tMounted.core.illum with
            life := .thermalHold, hold := true } } }],
        s.core.panel.broken = false ∧ s.core.meas.cal.f ≠ none ∧ s.core.motion.homing = none
          ∧ (s.core.seq.state = .idle ∨ (s.core.seq.state = .held ∧ s.core.seq.op = none ∧ s.core.seq.pause = none))
          ∧ (s.core.illum.life = .idle ∨ s.core.illum.life = .thermalHold) ∧ s.core.motion.platen.inMotion = false
          ∧ s.core.motion.angle ≠ .moving ∧ s.core.motion.arm.inMotion = false ∧ s.core.motion.platen.isStopped = false
          ∧ s.core.motion.angle ≠ .stopped ∧ s.core.motion.arm.isStopped = false)
      ∧ (∀ s ∈ [tWorking .platen, tSeq [tCapture] .running, tSeq [tCapture] .halting, tLitStation,
          tMotion fun m => { m with angle := .moving }],
        s.core.panel.broken = false ∧ s.core.meas.cal.f ≠ none)
      ∧ (∀ s ∈ [tMotion fun m => { m with platen := .stopped .lowering }, tMotion fun m => { m with angle := .stopped },
          tMotion fun m => { m with arm := .stopped .sweeping .curtain }],
        s.core.panel.broken = false ∧ s.core.meas.cal.f ≠ none ∧ s.core.motion.homing = none
          ∧ s.core.seq.state = .idle ∧ s.core.illum.life = .idle
          ∧ (s.core.motion.platen = .stopped .lowering ∨ s.core.motion.angle = .stopped
            ∨ s.core.motion.arm = .stopped .sweeping .curtain)) := by decide

/-- An attempt in COLLECTING with its dose record, and one whose window result has not come. -/
theorem met_StationResetKeepsAccounts_collecting :
    (∀ d ∈ [some tDose, none],
        let s := tCollecting .taken .taken
        let a := { tAttempt with
          phase := .collecting, seq := 1, number := 1, dose := d, frameSince := some 3000000, frameLimit := 2000 }
        let s := { s with core := { s.core with
          cap := { s.core.cap with attempt := some a }
          illum := { s.core.illum with closing := if d.isSome then none else some { tCalFlash with by_ := .capture .both } } } }
        Taken tq s ∧ s.core.cap.attempt = some a ∧ a.phase = .collecting ∧ s.core.illum.flash = none
          ∧ s.core.vols.mounted = some 0 ∧ s.core.vols.slots[(0 : Fin 16)] = some tVolume ∧ a.dose = d
          ∧ (d.isSome → s.core.illum.closing = none)
          ∧ (d = none → s.core.illum.closing = some { tCalFlash with by_ := .capture .both }))
      ∧ tCalFlash.adm = some tFirst := by
  refine ⟨fun d hd => ?_, rfl⟩
  simp only [List.mem_cons, List.not_mem_nil, or_false] at hd
  rcases hd with rfl | rfl <;> exact ⟨taken_of _ _ rfl rfl, rfl, rfl, rfl, rfl, rfl, rfl, by simp, by simp⟩

/-- ADVANCE at an opening not captured, and RETAKE, with the curtain CLEAR. -/
theorem met_KeysAct_capture :
    (((tPanel id).found 0).pressDue .advance = true ∧ ((tPanel id).found 0).pressDue .retake = true
        ∧ (tPanel id).core.vols.mounted = some 0 ∧ (tPanel id).core.vols.slots[(0 : Fin 16)] = some tVolume
        ∧ tVolume.cursor ∉ tVolume.captured ∧ (tPanel id).core.seq.state = .idle ∧ (tPanel id).core.seq.queue = []
        ∧ (tPanel id).core.seq.started = false ∧ (tPanel id).core.seq.pause = none ∧ (tPanel id).core.faults = []
        ∧ 5 ≤ (tPanel id).core.freeExceptions ∧ (tPanel id).core.cap.attempt = none ∧ (tPanel id).core.cap.mark = none
        ∧ (tPanel id).core.cap.ring.length < 64 ∧ (tPanel id).core.illum.view.wanted = false)
      ∧ (tPanel id).core.CradleReady ∧ (tPanel id).core.ConverterFree :=
  ⟨by decide, ready_of _ (by decide), rfl, rfl⟩

/-- A flash in METER_WAIT behind a conversion of G: a capture, and a calibration with no volume mounted; alone in the entry
of P, before a MEASURE and behind one; with the hold in force or not. -/
theorem met_CurtainIsWatched_meterWait :
    ∀ x ∈ [(FlashBy.capture .both, some (0 : Fin 16)), (.calibration 0, some 0), (.calibration 0, none)],
      ∀ rs ∈ [[Requester.window], [.window, .measure 1], [.measure 1, .window]], ∀ hold ∈ [true, false],
      let f := { tCalFlash with by_ := x.1 }
      let s := { tGrant with core := { tGrant.core with
        vols := { tGrant.core.vols with mounted := x.2 }
        illum := { tGrant.core.illum with hold := hold, flash := some f }
        meas := { tGrant.core.meas with pending := ⟨some { kind := .window, requesters := rs }, none, none, none⟩ } } }
      s.core.panel.broken = false ∧ s.core.faults = [] ∧ s.core.seq.pause = none ∧ s.core.motion.homing = none
        ∧ s.core.motion.arm = .parked ∧ s.core.motion.platen = .up ∧ s.core.motion.angle = .atAngle
        ∧ s.core.motion.lowerHeld = false ∧ s.core.motion.turnWait = none
        ∧ s.core.illum.flash = some f ∧ s.core.illum.life = .meterWait
        ∧ (f.isCapture = true → s.core.mounted ≠ none) ∧ s.core.illum.lampCal ≠ none ∧ s.core.meas.cal.t ≠ none
        ∧ s.core.illum.hold = hold
        ∧ (s.core.meas.without .P [.window]).pending.p =
          (if rs = [.window] then none else some { kind := .spot, requesters := [.measure 1] }) := by decide

/-- The station at the end of 200 ms of clear light, with blocks changed. -/
def tClears (f : Core → Core) : State := { tClearing with core := f tClearing.core }

/-- The curtain clears over a raise stopped by it, a stopped lowering, a turn's stopped raise, a stopped cradle and the
stopped arm of a turn; over a flash that needs leave; over a calibration flash; and over the arm of an aborted turn in
each state. -/
theorem met_CurtainIsWatched_clears :
    (∀ x ∈ [(PlatenState.stopped .raising, none), (.stopped .lowering, none), (.stopped .raising, some TurnWait.raise),
          (.up, none)],
        let s := tClears fun c => { c with
          motion := { c.motion with
            platen := x.1, turnWait := x.2, angle := .stopped, turn := some tTurn, arm := .stopped .sweeping .curtain }
          illum := { c.illum with
            life := .admitting, flash := some { tCalFlash with by_ := .capture .both, needLeave := true } } }
        s.core.panel.broken = true ∧ s.core.panel.clearSince = some 4800000 ∧ 4800000 + 200000 ≤ (s.found 0).now
          ∧ s.core.faults = [] ∧ s.core.motion.turn = some tTurn ∧ tTurn.aborting = false
          ∧ s.core.illum.flash = some { tCalFlash with by_ := .capture .both, needLeave := true })
      ∧ (let s := tClears fun c => { c with
          illum := { c.illum with life := .admitting, flash := some { tCalFlash with adm := none } } }
        s.core.motion.platen = .up ∧ s.core.motion.angle ≠ .stopped ∧ s.core.motion.turn = none
          ∧ s.core.illum.life = .admitting ∧ s.core.illum.hold = false ∧ s.core.illum.lampOffAt = none
          ∧ s.core.meas.latch.t = none ∧ s.core.meas.conv = none ∧ s.core.meas.pending = ⟨none, none, none, none⟩)
      ∧ (∀ x ∈ [(ArmMove.sweeping, StopCause.vacuumLost, ArmStage.sweep), (.lifting, .curtain, .suck),
          (.gauging, .curtain, .gauge), (.gauging, .curtain, .putDown .lostLeaf), (.sweeping, .curtain, .sweep),
          (.returning, .curtain, .travel), (.releasing, .curtain, .release), (.returning, .curtain, .reference)],
        let s := tClears fun c => { c with
          motion := { c.motion with
            turn := some { tTurn with aborting := true }, arm := .stopped x.1 x.2.1, stage := x.2.2 } }
        s.core.panel.broken = true ∧ s.core.panel.clearSince = some 4800000 ∧ 4800000 + 200000 ≤ (s.found 0).now
          ∧ s.core.faults = [] ∧ s.core.motion.platen = .up ∧ s.core.motion.angle ≠ .stopped ∧ s.core.illum.flash = none
          ∧ s.core.motion.turn = some { tTurn with aborting := true } ∧ s.core.motion.arm = .stopped x.1 x.2.1
          ∧ s.core.motion.stage = x.2.2 ∧ s.core.meas.pending.g = none ∧ s.core.meas.conv = none) := by decide

/-- A clearing raise that ends in HALTING, in HELD and in RUNNING. -/
def tClearingRaise (st : SeqState) : State := tAt fun c => { tMount c with
  motion := { (tMount c).motion with platen := .moving .raising, stepRaise := true }
  seq := { c.seq with
    queue := [tCycle], started := true, op := some .raise, cycle := some { tProgress with pos := .D }
    awaiting := some .manualTurn, state := st, reason := if st = .held then some .assist else none } }

theorem met_HaltResumeAbort_clearingRaise :
    ∀ st ∈ [SeqState.held, .halting, .running],
      let s := tClearingRaise st
      s.core.motion.platen = .moving .raising ∧ s.core.motion.homing = none ∧ s.core.motion.stepRaise = true
        ∧ s.core.motion.turnWait = none ∧ s.core.seq.op = some .raise ∧ s.core.seq.pause = none ∧ s.core.faults = []
        ∧ s.core.seq.state = st ∧ (st = .held → s.core.seq.reason = some .assist) := by decide

/-- R150: HALT during a clearing raise that was resumed leaves the CYCLE at its boundary, HELD with reason HALT. -/
theorem test_halted_clearing_raise :
    ∃ t, exec (.platenUp 0) (tClearingRaise .halting) = .next t ∧ t.core.seq.state = .held
      ∧ t.core.seq.reason = some .halt ∧ t.core.seq.awaiting = some .manualTurn := ⟨_, rfl, by decide⟩

/-- Entries of each kind in the state that their condition names, and out of it. -/
theorem met_FaultsAreCleared_conditions :
    (tAngleFault.kind = .angleTimeout ∧ (tFaults true).core.motion.angle = .fault
        ∧ (tFaults false).core.motion.angle ≠ .fault)
      ∧ (∀ k ∈ [FaultKind.platenTimeout, .platenForce, .armTimeout, .vacuumLost], { tAngleFault with kind := k }.kind = k)
      ∧ (∃ e : FaultEntry, e.kind = .cameraTimeout ∧ e.detail = .cameras [.R])
      ∧ (∃ e : FaultEntry, e.kind = .meterFault ∧ e.detail = .channels [.F, .T]) :=
  ⟨by decide, by decide, ⟨⟨.cameraTimeout, .cameras [.R], 0, 1, false⟩, rfl, rfl⟩,
    ⟨⟨.meterFault, .channels [.F, .T], 0, 1, false⟩, rfl, rfl⟩⟩

/-- A used dose above the largest budget, and a request at the largest. -/
theorem met_VolumeSetRaisesTheBudget_beyond :
    let v := { tVolume with uF := 1000000000001, low := true, exhausted := true }
    (tRecord fun _ => v).core.vols.slots[(0 : Fin 16)] = some v
      ∧ 1000000000001 = max (max 1 v.u) (min 1000000000000 1000000000000) ∧ 1000000000001 = v.u := by decide
end

section
/-! PROOF. Each setting has one owner: what every command may do to the settings, from what the units' operations
keep (`Core.Keeps`). -/

namespace Sys2Proof.Machine

/-- The settings that one command each owns (R5, R185, R157, R131, R72, R73, R60). -/
structure Settings where
  classes : Vector (Option ClassFields) 8
  bands : Bands
  debounce : Nat
  frameTimeout : Nat
  eOp : Nat
  lampCal : Option LampCal
  cal : PerChannel (Option CalPair)

/-- The settings as the blocks hold them. -/
def Core.settings (s : Core) : Settings :=
  { classes := s.vols.classes, bands := s.bands, debounce := s.panel.debounce, frameTimeout := s.cap.frameTimeout,
    eOp := s.illum.eOp, lampCal := s.illum.lampCal, cal := s.meas.cal }

theorem Core.Keeps.settings_eq {s t : Core} (h : Core.Keeps s t) : t.settings = s.settings := by
  obtain ⟨-, -, hpanel, hbands, hclasses, -, hframe, hcap, hlamp, hcal⟩ := h
  simp only [Core.settings, hpanel, hbands, hclasses, hframe, hcap, hlamp, hcal]

@[simp] theorem Core.settle_settings (s : Core) : s.settle.settings = s.settings := (Core.settle_kept s).settings_eq

section
variable (s : Core) (id slot n : Nat) (m : Mask) (i : Fin 16)

/-! ### The volume table -/

theorem Core.volumeAdd_settings (shelf : List Byte) (cls budget p : Nat) (segs : List SegmentSpec) :
    (s.volumeAdd id shelf cls budget m p segs).settings = s.settings := by
  unfold Core.volumeAdd
  (repeat' split) <;> simp [Core.settings]

theorem Core.mount_kept (k : Nat) : Core.Keeps s (s.mount i k) := by
  simp [Core.Keeps, Core.mount]

theorem Core.volumeMount_settings (start angle : Nat) : (s.volumeMount id slot m start angle).settings = s.settings := by
  unfold Core.volumeMount
  (repeat' split) <;> simp [Core.settings, s.mount_kept]

theorem Core.endMounting_kept : Core.Keeps s s.endMounting := by
  simp [Core.Keeps, Core.endMounting]

theorem Core.leaveFor_kept (st : RecordState) : Core.Keeps s (s.leaveFor i st) := by
  unfold Core.Keeps Core.leaveFor
  split <;> simp [s.endMounting_kept]

theorem Core.volumeUnmount_settings : (s.volumeUnmount id slot).settings = s.settings := by
  unfold Core.volumeUnmount
  (repeat' split) <;> simp [Core.settings, s.endMounting_kept]

theorem Core.volumeClose_settings (force : Bool) : (s.volumeClose id slot force).settings = s.settings := by
  unfold Core.volumeClose
  dsimp only
  (repeat' split) <;> simp [Core.settings, Core.leaveFor_kept]

theorem Core.volumeWithdraw_settings : (s.volumeWithdraw id slot).settings = s.settings := by
  unfold Core.volumeWithdraw
  (repeat' split) <;> simp [Core.settings, Core.leaveFor_kept]

theorem Core.volumeRemove_settings : (s.volumeRemove id slot).settings = s.settings := by
  unfold Core.volumeRemove
  (repeat' split) <;> simp [Core.settings]

theorem Core.volumeSet_settings (budget p cls : Nat) (segs : List SegmentSpec) :
    (s.volumeSet id slot m budget p cls segs).settings = s.settings := by
  unfold Core.volumeSet
  dsimp only
  (repeat' split) <;> simp [Core.settings]

theorem Core.volumeGet_settings (start : Nat) : (s.volumeGet id slot m start).settings = s.settings := by
  unfold Core.volumeGet
  (repeat' split) <;> simp [Core.settings]

theorem Core.revisit_kept (k : Nat) : Core.Keeps s (s.revisit k) := by
  simp [Core.Keeps, Core.revisit]

theorem Core.cursorSet_settings (opening : Nat) : (s.cursorSet id opening).settings = s.settings := by
  unfold Core.cursorSet
  dsimp only
  (repeat' split) <;> simp [Core.settings, Core.revisit_kept]

theorem Core.exceptionsTake_settings : (s.exceptionsTake id slot n).settings = s.settings := by
  unfold Core.exceptionsTake
  (repeat' split) <;> simp [Core.settings]

/-! ### Light -/

theorem Core.lightStage_settings (x : Setting) : (s.lightStage id m x).settings = s.settings := by
  unfold Core.lightStage
  dsimp only
  split <;> simp [Core.settings]

theorem Core.calibrationFlash_settings : (s.calibrationFlash id).settings = s.settings := by
  unfold Core.calibrationFlash
  (repeat' split) <;> simp [Core.settings]

theorem Core.viewOn_settings : (s.viewOn id).settings = s.settings := by
  unfold Core.viewOn
  (repeat' split) <;> simp [Core.settings]

theorem Core.viewOff_settings : (s.viewOff id).settings = s.settings := by
  simp [Core.settings, Core.viewOff]

theorem Core.lampOffEvent_settings (window : Option Int) : (s.lampOffEvent window).settings = s.settings := by
  unfold Core.lampOffEvent
  dsimp only
  (repeat' split) <;> simp [Core.settings]

theorem Core.recoveryOver_settings : s.recoveryOver.settings = s.settings := by
  unfold Core.recoveryOver
  (repeat' split) <;> simp [Core.settings]

theorem Core.thermalWaitOver_settings : s.thermalWaitOver.settings = s.settings := by
  unfold Core.thermalWaitOver
  (repeat' split) <;> simp [Core.settings]

theorem Core.periodOver_settings : s.periodOver.settings = s.settings := by
  unfold Core.periodOver
  (repeat' split) <;> simp [Core.settings]

/-! ### The converter -/

theorem Core.measureChannel_settings (ch : Nat) : (s.measureChannel id ch).settings = s.settings := by
  unfold Core.measureChannel
  (repeat' split) <;> simp [Core.settings]

theorem Core.spotArrives_settings (code : Int) : (s.spotArrives code).settings = s.settings := by
  unfold Core.spotArrives
  (repeat' split) <;> simp [Core.settings]

theorem Core.conversionPasses_settings : s.conversionPasses.settings = s.settings := by
  unfold Core.conversionPasses
  (repeat' split) <;> simp [Core.settings]

theorem Core.tempTick_settings : s.tempTick.settings = s.settings := by
  unfold Core.tempTick
  (repeat' split) <;> simp [Core.settings]

/-! ### The cradle -/

theorem Core.home_settings : (s.home id).settings = s.settings := by
  unfold Core.home
  (repeat' split) <;> simp [Core.settings]

theorem Core.angleSet_settings (degrees : Nat) : (s.angleSet id degrees).settings = s.settings := by
  unfold Core.angleSet
  dsimp only
  (repeat' split) <;> simp [Core.settings]

theorem Core.homingStep_settings : s.homingStep.settings = s.settings := by
  unfold Core.homingStep
  split <;> simp [Core.settings]

theorem Core.homingLimit_settings : s.homingLimit.settings = s.settings := by
  unfold Core.homingLimit
  (repeat' split) <;> simp [Core.settings]

theorem Core.angleArrives_settings : s.angleArrives.settings = s.settings := by
  unfold Core.angleArrives
  split <;> simp [Core.settings]

theorem Core.anglePasses_settings : s.anglePasses.settings = s.settings := by
  unfold Core.anglePasses
  dsimp only
  split <;> simp [Core.settings]

theorem Core.sampleDue_settings : s.sampleDue.settings = s.settings := by
  unfold Core.sampleDue
  split <;> simp [Core.settings]

theorem Core.settled_settings : s.settled.settings = s.settings := by
  unfold Core.settled
  (repeat' split) <;> simp [Core.settings]

theorem Core.loweringPasses_settings : s.loweringPasses.settings = s.settings := by
  unfold Core.loweringPasses
  dsimp only
  split <;> simp [Core.settings]

theorem Core.cupLands_settings : s.cupLands.settings = s.settings := by
  unfold Core.cupLands
  split <;> simp [Core.settings]

theorem Core.puffOver_settings : s.puffOver.settings = s.settings := by
  unfold Core.puffOver
  (repeat' split) <;> simp [Core.settings]

theorem Core.noVacuum_settings : s.noVacuum.settings = s.settings := by
  unfold Core.noVacuum
  split <;> simp [Core.settings]

theorem Core.vacuumFalls_settings : s.vacuumFalls.settings = s.settings := by
  unfold Core.vacuumFalls
  dsimp only
  (repeat' split) <;> simp [Core.settings]

theorem Core.leafIsUp_settings : s.leafIsUp.settings = s.settings := by
  unfold Core.leafIsUp
  split <;> simp [Core.settings]

theorem Core.putDownOver_settings : s.putDownOver.settings = s.settings := by
  unfold Core.putDownOver
  dsimp only
  (repeat' split) <;> simp [Core.settings]

theorem Core.sweepEnds_settings : s.sweepEnds.settings = s.settings := by
  unfold Core.sweepEnds
  split <;> simp [Core.settings]

theorem Core.releaseEnds_settings : s.releaseEnds.settings = s.settings := by
  unfold Core.releaseEnds
  (repeat' split) <;> simp [Core.settings]

theorem Core.armParks_settings : s.armParks.settings = s.settings := by
  unfold Core.armParks
  split <;> simp [Core.settings]

theorem Core.armPasses_settings : s.armPasses.settings = s.settings := by
  unfold Core.armPasses
  (repeat' split) <;> simp [Core.settings]

/-! ### The cameras -/

theorem Core.captureDrain_settings : (s.captureDrain id n).settings = s.settings := by
  unfold Core.captureDrain
  dsimp only
  split <;> simp [Core.settings]

theorem Core.capturePeek_settings : (s.capturePeek id n).settings = s.settings := by
  unfold Core.capturePeek
  split <;> simp [Core.settings]

theorem Capture.setCam_frameTimeout (k : Camera) (x : CameraState) (c : Capture) :
    (c.setCam k x).frameTimeout = c.frameTimeout := by
  cases k <;> rfl

theorem Core.tryCameras_kept : Core.Keeps s s.tryCameras := by
  unfold Core.tryCameras Core.Keeps
  (repeat' split) <;> simp

theorem Core.cameraLines_settings (k : Camera) (ready fault : Bool) :
    (s.cameraLines k ready fault).settings = s.settings := by
  simp [Core.cameraLines, Core.settings, Core.tryCameras_kept, Capture.setCam_frameTimeout]

theorem Core.cameraWaitOver_settings : s.cameraWaitOver.settings = s.settings := by
  unfold Core.cameraWaitOver
  (repeat' split) <;> simp [Core.settings]

theorem Core.timeOutCamera_kept (k : Camera) : Core.Keeps s (s.timeOutCamera k) := by
  unfold Core.timeOutCamera Core.Keeps
  split <;> simp [Capture.setCam_frameTimeout]

theorem Core.framesOver_settings : s.framesOver.settings = s.settings := by
  unfold Core.framesOver
  (repeat' split) <;> simp [Core.settings, Core.timeOutCamera_kept]

/-! ### Steps and faults -/

theorem Core.appendStep_kept (origin : Origin) (w : StepWork) (g : Option Guard) :
    Core.Keeps s (s.appendStep origin w g) := by
  simp [Core.Keeps, Core.appendStep]

theorem Core.startIfIdle_kept : Core.Keeps s s.startIfIdle := by
  unfold Core.startIfIdle Core.Keeps
  split <;> simp

theorem Core.stepQueue_settings (w : StepSpec) (g : Option GuardSpec) : (s.stepQueue id w g).settings = s.settings := by
  unfold Core.stepQueue
  (repeat' split) <;> simp [Core.settings, Core.startIfIdle_kept, Core.appendStep_kept]

theorem Core.stopSet_settings (step opening : Nat) : (s.stopSet id step opening).settings = s.settings := by
  unfold Core.stopSet
  dsimp only
  (repeat' split) <;> simp [Core.settings]

theorem Core.resume_settings : (s.resume id).settings = s.settings := by
  unfold Core.resume
  dsimp only
  split <;> simp [Core.settings]

theorem Core.stepFlush_settings : (s.stepFlush id).settings = s.settings := by
  simp [Core.stepFlush, Core.settings]

theorem Core.pauseOver_settings : s.pauseOver.settings = s.settings := by
  unfold Core.pauseOver
  (repeat' split) <;> simp [Core.settings]

theorem Core.clearAll_settings : (s.clearAll id).settings = s.settings := rfl

theorem Core.clearKind_settings (k : FaultKind) : (s.clearKind id k).settings = s.settings := by
  unfold Core.clearKind
  (repeat' split) <;> simp [Core.settings]

theorem Core.faultClear_settings (code : Nat) : (s.faultClear id code).settings = s.settings := by
  unfold Core.faultClear
  (repeat' split)
  · exact Core.clearKind_settings s id _
  · exact Core.clearAll_settings s id
  · rfl

/-! ### The panel -/

theorem Core.setInput_settings (k : PanelInput) (x : InputState) : (s.setInput k x).settings = s.settings := rfl

theorem Core.setPressed_settings (k : PanelInput) : (s.setPressed k).settings = s.settings := rfl

theorem Core.tone_settings : s.tone.settings = s.settings := rfl

theorem Core.queueByPanel_settings (k : PanelInput) (w : StepWork) : (s.queueByPanel k w).settings = s.settings := by
  simp [Core.queueByPanel, Core.reportPress, Core.settings, Core.startIfIdle_kept, Core.appendStep_kept]

theorem Core.pressContinue_settings (k : PanelInput) : (s.pressContinue k).settings = s.settings := by
  unfold Core.pressContinue
  dsimp only
  split <;> simp [Core.settings, Core.tone, Core.reportPress, Core.clearVacuum]

theorem Core.pressAdvance_settings : s.pressAdvance.settings = s.settings := by
  unfold Core.pressAdvance
  (repeat' split) <;> simp [Core.pressContinue_settings, Core.queueByPanel_settings, Core.tone_settings]

theorem Core.pressRetake_settings : s.pressRetake.settings = s.settings := by
  unfold Core.pressRetake
  split <;> simp [Core.queueByPanel_settings, Core.tone_settings]

theorem Core.pressTurned_settings : s.pressTurned.settings = s.settings := by
  unfold Core.pressTurned
  dsimp only
  (repeat' split) <;> simp [Core.settings, Core.tone, Core.reportPress]

theorem Core.pressBack_settings : s.pressBack.settings = s.settings := by
  unfold Core.pressBack
  (repeat' split) <;> simp [Core.settings, Core.tone, Core.reportPress, Core.revisit_kept]

theorem Core.pressHold_settings : s.pressHold.settings = s.settings := by
  simp [Core.pressHold, Core.reportPress, Core.settings]

theorem Core.press_settings (k : PanelInput) : (s.press k).settings = s.settings := by
  unfold Core.press
  split
  · rw [← s.setPressed_settings k]
    cases k
    case advance => exact Core.pressAdvance_settings _
    case retake => exact Core.pressRetake_settings _
    case turned => exact Core.pressTurned_settings _
    case back => exact Core.pressBack_settings _
    case hold => exact Core.pressHold_settings _
    case cont => exact Core.pressContinue_settings _ _
  · rfl

theorem Core.releaseInput_settings (k : PanelInput) : (s.releaseInput k).settings = s.settings := by
  unfold Core.releaseInput
  dsimp only
  split <;> rfl

theorem Core.settleInput_settings (k : PanelInput) : (s.settleInput k).settings = s.settings := by
  unfold Core.settleInput
  dsimp only
  split <;> rfl

theorem Core.inputLevel_settings (k : PanelInput) (pressed : Bool) : (s.inputLevel k pressed).settings = s.settings := by
  unfold Core.inputLevel
  split
  · rfl
  · exact Core.settleInput_settings s k

theorem Core.measureInput_settings (k : PanelInput) : (s.measureInput k).settings = s.settings := by
  simp only [Core.measureInput, Core.settle_settings, Core.press_settings, Core.releaseInput_settings,
    Core.settleInput_settings]

theorem Core.measureInputs_settings (ks : List PanelInput) : (ks.foldl Core.measureInput s).settings = s.settings := by
  induction ks generalizing s with
  | nil => rfl
  | cons k ks ih => rw [List.foldl_cons, ih, Core.measureInput_settings]

theorem Core.toneOver_settings : s.toneOver.settings = s.settings := by
  unfold Core.toneOver
  (repeat' split) <;> rfl

theorem Core.curtainBreaks_settings : s.curtainBreaks.settings = s.settings := by
  unfold Core.curtainBreaks
  split <;> simp [Core.settings]

theorem Core.curtainClears_settings : s.curtainClears.settings = s.settings := by
  unfold Core.curtainClears
  (repeat' split) <;> simp [Core.settings]

theorem Core.rawCurtain_settings (interrupted : Bool) : (s.rawCurtain interrupted).settings = s.settings := by
  unfold Core.rawCurtain
  split
  · (repeat' split) <;> rfl
  · split
    · exact Core.curtainBreaks_settings s
    · rfl

/-! ### Counters and time -/

theorem Core.depthSample_settings : s.depthSample.settings = s.settings := by
  unfold Core.depthSample
  split <;> rfl

theorem Core.tick_settings : s.tick.settings = s.settings := by
  unfold Core.tick
  dsimp only
  (repeat' split) <;> rfl

/-! ### The station reset -/

theorem Core.keepDose_kept (p : Core × DoseRecord) : Core.Keeps p.1 (Core.keepDose p) := by
  unfold Core.keepDose Core.Keeps
  split <;> simp

theorem Core.resetClosing_kept : Core.Keeps s s.resetClosing := by
  unfold Core.resetClosing
  split
  · split
    · exact Core.Keeps.trans (Core.Keeps.trans (by simp [Core.Keeps]) (Core.chargeWindow_kept _ _ _ _))
        (Core.keepDose_kept _)
    · simp [Core.Keeps]
  · simp [Core.Keeps]

theorem Core.resetFlash_kept : Core.Keeps s s.resetFlash := by
  unfold Core.resetFlash
  split
  · dsimp only
    split
    · exact Core.Keeps.trans (Core.Keeps.trans (by simp [Core.Keeps]) (Core.chargeAborted_kept _ _ _ _))
        (Core.keepDose_kept _)
    all_goals simp [Core.Keeps]
  · simp [Core.Keeps]

theorem Core.resetIllum_kept : Core.Keeps s s.resetIllum := by
  have h := s.resetClosing_kept.trans s.resetClosing.resetFlash_kept
  simpa [Core.Keeps, Core.resetIllum] using h

theorem Core.resetCapture_kept : Core.Keeps s s.resetCapture := by
  unfold Core.resetCapture Core.Keeps
  dsimp only
  (repeat' split) <;> simp [Capture.toIdle]

theorem Core.resetMotion_kept : Core.Keeps s s.resetMotion := by
  unfold Core.resetMotion Core.Keeps
  dsimp only
  split <;> simp

theorem Core.dropMeasures_kept (rs : List Requester) : Core.Keeps s (rs.foldl Core.dropMeasure s) := by
  induction rs generalizing s with
  | nil => simp [Core.Keeps]
  | cons r rs ih =>
    refine Core.Keeps.trans ?_ (ih _)
    cases r <;> simp [Core.dropMeasure, Core.Keeps]

theorem Core.resetMeasure_kept : Core.Keeps s s.resetMeasure := by
  unfold Core.resetMeasure Core.Keeps
  dsimp only
  split <;> simp [Core.dropMeasures_kept]

theorem Core.resetSequencer_kept : Core.Keeps s s.resetSequencer := by
  simp [Core.Keeps, Core.resetSequencer]

theorem Core.stationReset_kept : Core.Keeps s s.stationReset := by
  have h : Core.Keeps s { s with faults := [], first := none } := by simp [Core.Keeps]
  exact ((((h.trans (Core.resetIllum_kept _)).trans (Core.resetCapture_kept _)).trans (Core.resetMotion_kept _)).trans
    (Core.resetMeasure_kept _)).trans (Core.resetSequencer_kept _)

end

/-! ### The seven owners -/

section
variable (s : Core) (id : Nat) (m : Mask)

theorem Core.classSet_settings (n : Nat) (x : ClassFields) :
    (s.classSet id n m x).settings = { s.settings with classes := (s.classSet id n m x).vols.classes } := by
  unfold Core.classSet
  dsimp only
  (repeat' split) <;> rfl

theorem Core.bandsSet_settings (t1 t2 t3 t4 : Nat) :
    (s.bandsSet id t1 t2 t3 t4).settings = { s.settings with bands := (s.bandsSet id t1 t2 t3 t4).bands } := by
  unfold Core.bandsSet
  split <;> rfl

theorem Core.panelSet_settings (ms : Nat) :
    (s.panelSet id ms).settings = { s.settings with debounce := (s.panelSet id ms).panel.debounce } := by
  unfold Core.panelSet
  split
  · have h := Core.measureInputs_settings
      ({ s with panel := { s.panel with debounce := ms } }.reply id .done (.debounce ms)) panelInputs
    have hd := congrArg Settings.debounce h
    rw [h]
    simp only [Core.settings] at hd ⊢
    rw [hd]
    rfl
  · rfl

theorem Core.framesSet_settings (ms : Nat) :
    (s.framesSet id ms).settings = { s.settings with frameTimeout := (s.framesSet id ms).cap.frameTimeout } := rfl

theorem Core.limitsSet_settings (e : Nat) :
    (s.limitsSet id e).settings = { s.settings with eOp := (s.limitsSet id e).illum.eOp } := by
  simp [Core.limitsSet, Core.settings]

theorem Core.lampsCalibrate_settings (x : LampCal) :
    (s.lampsCalibrate id m x).settings = { s.settings with lampCal := (s.lampsCalibrate id m x).illum.lampCal } := by
  unfold Core.lampsCalibrate
  dsimp only
  (repeat' split) <;> simp [Core.settings]

theorem Core.startTimer_kept (was : Option CalPair) (ch : Channel) : Core.Keeps s (s.startTimer was ch) := by
  unfold Core.startTimer Core.Keeps
  split <;> simp

theorem Core.calibrate_settings (ch : Nat) (x : CalPair) :
    (s.calibrate id ch m x).settings = { s.settings with cal := (s.calibrate id ch m x).meas.cal } := by
  unfold Core.calibrate
  dsimp only
  (repeat' split) <;> simp [Core.settings, Core.startTimer_kept]

end

/-! ### Every command -/

section
variable (R : Settings → Settings → Prop)

theorem State.run_settings (f : Core → Core) (s : State) (h : ∀ c, R c.settings (f c).settings) :
    R s.core.settings (s.run f).core.settings := by
  have hf := h { s.core with out := [], sig := [] }
  rw [← Core.settle_settings (f _)] at hf
  exact hf

theorem State.accept_settings (us : Nat) (kind tag : Byte) (owner : Nat → State → State) (s : State)
    (hrefl : ∀ a, R a a)
    (h : ∀ id t, t.core.settings = s.core.settings → R s.core.settings (owner id t).core.settings) :
    R s.core.settings (s.accept us kind tag owner).core.settings := by
  unfold State.accept
  dsimp only
  split
  · exact hrefl _
  · split
    · exact hrefl _
    · exact h _ _ rfl

theorem State.request_settings (q : Req) (kind : Byte) (owner : Nat → State → State) (s : State)
    (hrefl : ∀ a, R a a) (h : ∀ id t, R t.core.settings (owner id t).core.settings) :
    R s.core.settings (s.request q kind owner).core.settings := by
  refine State.accept_settings R _ _ _ _ s hrefl fun id t ht => ?_
  rw [← ht]
  split
  · exact h id t
  · exact State.run_settings R _ t fun c => hrefl _

theorem State.ask_settings (q : Req) (kind : Byte) (f : Nat → Core → Core) (s : State) (hrefl : ∀ a, R a a)
    (h : ∀ id c, R c.settings (f id c).settings) : R s.core.settings (s.ask q kind f).core.settings :=
  State.request_settings R q kind _ s hrefl fun id t => State.run_settings R (f id) t (h id)

end

theorem State.ask_keeps_settings (q : Req) (kind : Byte) (f : Nat → Core → Core) (s : State)
    (h : ∀ id c, (f id c).settings = c.settings) : (s.ask q kind f).core.settings = s.core.settings :=
  State.ask_settings (fun a b => b = a) q kind f s (fun _ => rfl) h

theorem State.run_keeps_settings (f : Core → Core) (s : State) (h : ∀ c, (f c).settings = c.settings) :
    (s.run f).core.settings = s.core.settings := State.run_settings (fun a b => b = a) f s h

theorem State.event_keeps_settings (us : Nat) (f : Core → Core) (s : State) (h : ∀ c, (f c).settings = c.settings) :
    (s.event us f).core.settings = s.core.settings := State.run_keeps_settings _ s fun c => h (c.atUs us)

theorem State.request_keeps_settings (q : Req) (kind : Byte) (owner : Nat → State → State) (s : State)
    (h : ∀ id t, (owner id t).core.settings = t.core.settings) :
    (s.request q kind owner).core.settings = s.core.settings :=
  State.request_settings (fun a b => b = a) q kind owner s (fun _ => rfl) h

theorem State.counterSet_keeps_settings (id n : Nat) (m : Mask) (enable : Bool) (event : Nat) (threshold : Int)
    (invert edge : Bool) (s : State) :
    (s.counterSet id n m enable event threshold invert edge).core.settings = s.core.settings := by
  unfold State.counterSet
  dsimp only
  (repeat' split) <;> exact State.run_keeps_settings _ _ fun c => rfl

/-- What a command may make of the settings: its owner replaces one of them, and POWER_ON all. -/
def Instr.mayMake : Instr → Settings → Settings → Prop
  | .powerOn, _, _ => True
  | .classSet _ _ _ _, a, b => b = { a with classes := b.classes }
  | .bandsSet _ _ _ _ _, a, b => b = { a with bands := b.bands }
  | .panelSet _ _, a, b => b = { a with debounce := b.debounce }
  | .framesSet _ _, a, b => b = { a with frameTimeout := b.frameTimeout }
  | .limitsSet _ _, a, b => b = { a with eOp := b.eOp }
  | .lampsCalibrate _ _ _, a, b => b = { a with lampCal := b.lampCal }
  | .calibrate _ _ _ _ _, a, b => b = { a with cal := b.cal }
  | _, a, b => b = a

/-- Every command answers a next state, with the settings as it may make them. -/
theorem exec_mayMake (c : Instr) (s : State) :
    ∃ t, exec c s = .next t ∧ Instr.mayMake c s.core.settings t.core.settings := by
  cases c with
  | powerOn => exact ⟨_, rfl, trivial⟩
  | identify q => exact ⟨_, rfl, State.ask_keeps_settings _ _ _ s fun _ _ => rfl⟩
  | linkStatus q clear =>
    refine ⟨_, rfl, State.request_keeps_settings _ _ _ s fun id t => ?_⟩
    cases clear <;> exact State.run_keeps_settings _ _ fun _ => rfl
  | statusGet q =>
    refine ⟨_, rfl, State.request_keeps_settings _ _ _ s fun id t => State.run_keeps_settings _ _ fun c => ?_⟩
    unfold Core.countShown
    split <;> rfl
  | stationReset q =>
    exact ⟨_, rfl, State.ask_keeps_settings _ _ _ s fun _ c =>
      (c.stationReset_kept.trans (Core.reply_kept _ _ _ _)).settings_eq⟩
  | linkReset q =>
    exact ⟨_, rfl, State.request_keeps_settings _ _ _ s fun _ _ => State.run_keeps_settings _ _ fun _ => rfl⟩
  | classSet q n m x =>
    exact ⟨_, rfl, State.ask_settings (fun a b => b = { a with classes := b.classes }) _ _ _ s (fun _ => rfl)
      fun id c => c.classSet_settings id m n x⟩
  | volumeAdd q shelf cls b m p segs =>
    exact ⟨_, rfl, State.ask_keeps_settings _ _ _ s fun id c => c.volumeAdd_settings id m shelf cls b p segs⟩
  | volumeMount q n m k a =>
    exact ⟨_, rfl, State.ask_keeps_settings _ _ _ s fun id c => c.volumeMount_settings id n m k a⟩
  | volumeUnmount q n => exact ⟨_, rfl, State.ask_keeps_settings _ _ _ s fun id c => c.volumeUnmount_settings id n⟩
  | volumeClose q n force =>
    exact ⟨_, rfl, State.ask_keeps_settings _ _ _ s fun id c => c.volumeClose_settings id n force⟩
  | volumeWithdraw q n => exact ⟨_, rfl, State.ask_keeps_settings _ _ _ s fun id c => c.volumeWithdraw_settings id n⟩
  | volumeRemove q n => exact ⟨_, rfl, State.ask_keeps_settings _ _ _ s fun id c => c.volumeRemove_settings id n⟩
  | volumeSet q n m b p cls segs =>
    exact ⟨_, rfl, State.ask_keeps_settings _ _ _ s fun id c => c.volumeSet_settings id n m b p cls segs⟩
  | volumeGet q n m k => exact ⟨_, rfl, State.ask_keeps_settings _ _ _ s fun id c => c.volumeGet_settings id n m k⟩
  | cursorSet q k => exact ⟨_, rfl, State.ask_keeps_settings _ _ _ s fun id c => c.cursorSet_settings id k⟩
  | exceptionsTake q n k =>
    exact ⟨_, rfl, State.ask_keeps_settings _ _ _ s fun id c => c.exceptionsTake_settings id n k⟩
  | lightStage q m x => exact ⟨_, rfl, State.ask_keeps_settings _ _ _ s fun id c => c.lightStage_settings id m x⟩
  | limitsSet q e =>
    exact ⟨_, rfl, State.ask_settings (fun a b => b = { a with eOp := b.eOp }) _ _ _ s (fun _ => rfl)
      fun id c => c.limitsSet_settings id e⟩
  | lampsCalibrate q m x =>
    exact ⟨_, rfl, State.ask_settings (fun a b => b = { a with lampCal := b.lampCal }) _ _ _ s (fun _ => rfl)
      fun id c => c.lampsCalibrate_settings id m x⟩
  | calibrationFlash q => exact ⟨_, rfl, State.ask_keeps_settings _ _ _ s fun id c => c.calibrationFlash_settings id⟩
  | viewOn q => exact ⟨_, rfl, State.ask_keeps_settings _ _ _ s fun id c => c.viewOn_settings id⟩
  | viewOff q => exact ⟨_, rfl, State.ask_keeps_settings _ _ _ s fun id c => c.viewOff_settings id⟩
  | calibrate q ch m x y =>
    exact ⟨_, rfl, State.ask_settings (fun a b => b = { a with cal := b.cal }) _ _ _ s (fun _ => rfl)
      fun id c => c.calibrate_settings id m ch _⟩
  | measure q ch => exact ⟨_, rfl, State.ask_keeps_settings _ _ _ s fun id c => c.measureChannel_settings id ch⟩
  | home q => exact ⟨_, rfl, State.ask_keeps_settings _ _ _ s fun id c => c.home_settings id⟩
  | angleSet q d => exact ⟨_, rfl, State.ask_keeps_settings _ _ _ s fun id c => c.angleSet_settings id d⟩
  | captureDrain q n => exact ⟨_, rfl, State.ask_keeps_settings _ _ _ s fun id c => c.captureDrain_settings id n⟩
  | capturePeek q n => exact ⟨_, rfl, State.ask_keeps_settings _ _ _ s fun id c => c.capturePeek_settings id n⟩
  | framesSet q ms =>
    exact ⟨_, rfl, State.ask_settings (fun a b => b = { a with frameTimeout := b.frameTimeout }) _ _ _ s (fun _ => rfl)
      fun id c => c.framesSet_settings id ms⟩
  | stepQueue q w g => exact ⟨_, rfl, State.ask_keeps_settings _ _ _ s fun id c => c.stepQueue_settings id w g⟩
  | stopSet q k n => exact ⟨_, rfl, State.ask_keeps_settings _ _ _ s fun id c => c.stopSet_settings id k n⟩
  | halt q => exact ⟨_, rfl, State.ask_keeps_settings _ _ _ s fun id c => (Core.halt_kept _).settings_eq⟩
  | abort q => exact ⟨_, rfl, State.ask_keeps_settings _ _ _ s fun id c => (Core.abort_kept _).settings_eq⟩
  | resume q => exact ⟨_, rfl, State.ask_keeps_settings _ _ _ s fun id c => c.resume_settings id⟩
  | stepFlush q => exact ⟨_, rfl, State.ask_keeps_settings _ _ _ s fun id c => c.stepFlush_settings id⟩
  | faultClear q k => exact ⟨_, rfl, State.ask_keeps_settings _ _ _ s fun id c => c.faultClear_settings id k⟩
  | faultClearAll q => exact ⟨_, rfl, State.ask_keeps_settings _ _ _ s fun id c => c.clearAll_settings id⟩
  | panelSet q ms =>
    exact ⟨_, rfl, State.ask_settings (fun a b => b = { a with debounce := b.debounce }) _ _ _ s (fun _ => rfl)
      fun id c => c.panelSet_settings id ms⟩
  | counterSet q n m en e th inv edge =>
    exact ⟨_, rfl, State.request_keeps_settings _ _ _ s fun id t =>
      t.counterSet_keeps_settings id n m en e th inv edge⟩
  | counterGet q m =>
    exact ⟨_, rfl, State.request_keeps_settings _ _ _ s fun _ _ => State.run_keeps_settings _ _ fun _ => rfl⟩
  | bandsSet q t1 t2 t3 t4 =>
    exact ⟨_, rfl, State.ask_settings (fun a b => b = { a with bands := b.bands }) _ _ _ s (fun _ => rfl)
      fun id c => c.bandsSet_settings id t1 t2 t3 t4⟩
  | unknownKind us kind tag =>
    change ∃ t, execUnknownKind us kind tag s = .next t ∧ t.core.settings = s.core.settings
    unfold execUnknownKind
    split
    · exact ⟨_, rfl, rfl⟩
    · exact ⟨_, rfl, State.accept_settings (fun a b => b = a) _ _ _ _ s (fun _ => rfl)
        fun _ _ ht => (State.run_keeps_settings _ _ fun _ => rfl).trans ht⟩
  | droppedRequest us kind tag =>
    change ∃ t, execDroppedRequest us kind tag s = .next t ∧ t.core.settings = s.core.settings
    unfold execDroppedRequest
    split
    · exact ⟨_, rfl, State.accept_settings (fun a b => b = a) _ _ _ _ s (fun _ => rfl) fun _ _ ht => ht⟩
    · exact ⟨_, rfl, rfl⟩
  | checkError us frame =>
    change ∃ t, execCheckError us frame s = .next t ∧ t.core.settings = s.core.settings
    unfold execCheckError
    dsimp only
    split <;> exact ⟨_, rfl, rfl⟩
  | fragment us bytes cause =>
    change ∃ t, execFragment us bytes cause s = .next t ∧ t.core.settings = s.core.settings
    unfold execFragment
    dsimp only
    split
    · exact ⟨_, rfl, rfl⟩
    · cases cause <;> exact ⟨_, rfl, rfl⟩
  | interByteGap us bytes next =>
    change ∃ t, execInterByteGap us bytes next s = .next t ∧ t.core.settings = s.core.settings
    unfold execInterByteGap
    dsimp only
    split <;> exact ⟨_, rfl, rfl⟩
  | lineBreak us =>
    change ∃ t, execLineBreak us s = .next t ∧ t.core.settings = s.core.settings
    unfold execLineBreak
    dsimp only
    split <;> exact ⟨_, rfl, rfl⟩
  | frameSent us => exact ⟨_, rfl, rfl⟩
  | advance us => exact ⟨_, rfl, State.event_keeps_settings us _ s fun c => c.press_settings _⟩
  | retakeKey us => exact ⟨_, rfl, State.event_keeps_settings us _ s fun c => c.press_settings _⟩
  | turnedKey us => exact ⟨_, rfl, State.event_keeps_settings us _ s fun c => c.press_settings _⟩
  | backKey us => exact ⟨_, rfl, State.event_keeps_settings us _ s fun c => c.press_settings _⟩
  | holdKey us => exact ⟨_, rfl, State.event_keeps_settings us _ s fun c => c.press_settings _⟩
  | continueKey us => exact ⟨_, rfl, State.event_keeps_settings us _ s fun c => c.press_settings _⟩
  | keyRelease us k => exact ⟨_, rfl, State.event_keeps_settings us _ s fun c => c.releaseInput_settings k⟩
  | curtainBroken us => exact ⟨_, rfl, State.event_keeps_settings us _ s fun c => c.curtainBreaks_settings⟩
  | curtainClear us => exact ⟨_, rfl, State.event_keeps_settings us _ s fun c => c.curtainClears_settings⟩
  | toneEnd us => exact ⟨_, rfl, State.event_keeps_settings us _ s fun c => c.toneOver_settings⟩
  | spotResult us code => exact ⟨_, rfl, State.event_keeps_settings us _ s fun c => c.spotArrives_settings code⟩
  | conversionFault us => exact ⟨_, rfl, State.event_keeps_settings us _ s fun c => c.conversionPasses_settings⟩
  | lateResultDiscarded us code => exact ⟨_, rfl, State.event_keeps_settings us _ s fun _ => rfl⟩
  | tempTimer us => exact ⟨_, rfl, State.event_keeps_settings us _ s fun c => c.tempTick_settings⟩
  | lampOff us w => exact ⟨_, rfl, State.event_keeps_settings us _ s fun c => c.lampOffEvent_settings w⟩
  | recoveryEnd us => exact ⟨_, rfl, State.event_keeps_settings us _ s fun c => c.recoveryOver_settings⟩
  | thermalWaitExpiry us => exact ⟨_, rfl, State.event_keeps_settings us _ s fun c => c.thermalWaitOver_settings⟩
  | viewPeriodEnd us => exact ⟨_, rfl, State.event_keeps_settings us _ s fun c => c.periodOver_settings⟩
  | homingPhaseDone us => exact ⟨_, rfl, State.event_keeps_settings us _ s fun c => c.homingStep_settings⟩
  | homingPhaseTimeout us => exact ⟨_, rfl, State.event_keeps_settings us _ s fun c => c.homingLimit_settings⟩
  | angleReached us => exact ⟨_, rfl, State.event_keeps_settings us _ s fun c => c.angleArrives_settings⟩
  | angleTimeout us => exact ⟨_, rfl, State.event_keeps_settings us _ s fun c => c.anglePasses_settings⟩
  | platenSampleTimer us => exact ⟨_, rfl, State.event_keeps_settings us _ s fun c => c.sampleDue_settings⟩
  | settlingEnd us => exact ⟨_, rfl, State.event_keeps_settings us _ s fun c => c.settled_settings⟩
  | loweringTimeout us => exact ⟨_, rfl, State.event_keeps_settings us _ s fun c => c.loweringPasses_settings⟩
  | platenUp us =>
    refine ⟨_, rfl, State.event_keeps_settings us _ s fun c => ?_⟩
    split
    · exact c.platenArrived_kept.settings_eq
    · rfl
  | raiseTimeout us =>
    refine ⟨_, rfl, State.event_keeps_settings us _ s fun c => ?_⟩
    split
    · exact c.raiseFailed_kept.settings_eq
    · rfl
  | cupContact us => exact ⟨_, rfl, State.event_keeps_settings us _ s fun c => c.cupLands_settings⟩
  | vacuumAtLevel us =>
    exact ⟨_, rfl, State.event_keeps_settings us _ s fun c => (Core.tryGauging_kept _).settings_eq⟩
  | puffEnd us => exact ⟨_, rfl, State.event_keeps_settings us _ s fun c => c.puffOver_settings⟩
  | vacuumTimeout us => exact ⟨_, rfl, State.event_keeps_settings us _ s fun c => c.noVacuum_settings⟩
  | vacuumBelow us => exact ⟨_, rfl, State.event_keeps_settings us _ s fun c => c.vacuumFalls_settings⟩
  | leafRaised us => exact ⟨_, rfl, State.event_keeps_settings us _ s fun c => c.leafIsUp_settings⟩
  | putDownDone us => exact ⟨_, rfl, State.event_keeps_settings us _ s fun c => c.putDownOver_settings⟩
  | sweepArrived us => exact ⟨_, rfl, State.event_keeps_settings us _ s fun c => c.sweepEnds_settings⟩
  | releaseDone us => exact ⟨_, rfl, State.event_keeps_settings us _ s fun c => c.releaseEnds_settings⟩
  | armAtPark us => exact ⟨_, rfl, State.event_keeps_settings us _ s fun c => c.armParks_settings⟩
  | armLimitExpiry us => exact ⟨_, rfl, State.event_keeps_settings us _ s fun c => c.armPasses_settings⟩
  | cameraLineChange us k r f =>
    exact ⟨_, rfl, State.event_keeps_settings us _ s fun c => c.cameraLines_settings k r f⟩
  | cameraWaitExpiry us => exact ⟨_, rfl, State.event_keeps_settings us _ s fun c => c.cameraWaitOver_settings⟩
  | frameTimeout us => exact ⟨_, rfl, State.event_keeps_settings us _ s fun c => c.framesOver_settings⟩
  | pauseEnd us => exact ⟨_, rfl, State.event_keeps_settings us _ s fun c => c.pauseOver_settings⟩
  | queueDepthSample us => exact ⟨_, rfl, State.event_keeps_settings us _ s fun c => c.depthSample_settings⟩
  | msTick => exact ⟨_, rfl, State.run_keeps_settings _ s fun c => c.tick_settings⟩
  | rawCurtainInputChange us x =>
    exact ⟨_, rfl, State.event_keeps_settings us _ s fun c => c.rawCurtain_settings x⟩
  | rawInputLevelChange us k x =>
    exact ⟨_, rfl, State.event_keeps_settings us _ s fun c => c.inputLevel_settings k x⟩
  | firstSettling us k => exact ⟨_, rfl, State.event_keeps_settings us _ s fun c => c.settleInput_settings k⟩
  | lineReturnToIdle us => exact ⟨_, rfl, rfl⟩

/-- Settles O8: `exec_mayMake` says what each command may make of the settings, and only a setting's owner may
replace it. -/
theorem settingsHaveOneOwner : Obligations.SettingsHaveOneOwner := by
  intro c s t ht hpower
  obtain ⟨u, hu, hmake⟩ := exec_mayMake c s
  obtain rfl : u = t := by simpa [ht] using hu.symm
  unfold Instr.mayMake at hmake
  split at hmake
  case h_1 => exact absurd rfl hpower
  all_goals
    simp only [Core.settings, Settings.mk.injEq] at hmake
    simp [hmake]

end Sys2Proof.Machine
end

section
/-! PROOF. The commands of the volume table: what their masks, replies and records come to. -/

namespace Sys2Proof.Machine

/-! ### Replies -/

/-- A request whose owner changes the blocks with no message, and then replies. -/
theorem State.ask_replies {q : Req} {kind : Byte} {f : Nat → Core → Core} {s : State} {st : Status} {b : Body} {c : Core}
    (h : Taken q s) (hf : f s.link.nextEntry (s.found q.us) = c.reply s.link.nextEntry st b) (ho : c.out = [])
    (hs : c.sig = []) : s.ask q kind f = s.answered q kind st b c := by
  refine State.ask_answered q kind f s st b c h ?_ hs
  rw [hf, Core.reply, Core.emit, ho]
  rfl

/-- The state after a request does not depend on the messages that the blocks hold. -/
theorem State.answered_congr (q : Req) (kind : Byte) (st : Status) (b : Body) (s : State) {c d : Core}
    (h : { c with out := [], sig := [] } = ({ d with out := [], sig := [] } : Core)) :
    s.answered q kind st b c = s.answered q kind st b d := by
  simp only [State.answered, h]

theorem maskOf_singleton_true : maskOf [(1, true)] = 0x0001#16 := rfl

/-- The flag of a listed field puts its bit into the mask. -/
theorem foldl_mask_eq_zero (fields : List (Nat × Bool)) (h : ∀ f ∈ fields, f.1 - 1 < 16) (m : Mask) :
    fields.foldl (fun m f => if f.2 then m ||| (1#16 <<< (f.1 - 1)) else m) m = 0#16 ↔
      m = 0#16 ∧ ∀ f ∈ fields, f.2 = false := by
  induction fields generalizing m with
  | nil => simp
  | cons f fs ih =>
    obtain ⟨hf, hfs⟩ := List.forall_mem_cons.mp h
    rw [List.foldl_cons, ih hfs, List.forall_mem_cons]
    cases hb : f.2 with
    | false => simp
    | true =>
      have hbit : m ||| (1#16 <<< (f.1 - 1)) ≠ 0#16 := by
        intro h0
        have := congrArg (fun x : Mask => x.getLsbD (f.1 - 1)) h0
        simp [hf] at this
      simp [hbit]

/-- No field clamped, no bit in the clamp mask (R191). -/
theorem maskOf_eq_zero_iff (fields : List (Nat × Bool)) (h : ∀ f ∈ fields, f.1 - 1 < 16) :
    maskOf fields = 0#16 ↔ ∀ f ∈ fields, f.2 = false := by
  rw [maskOf, foldl_mask_eq_zero fields h]
  simp

theorem doneStatus_zero : doneStatus 0#16 = .done := rfl

/-! ### The quiet station -/

theorem Core.unquiet_of_quiet (s : Core) (h : s.quiet = true) : s.unquiet = none := by
  simp [Core.unquiet, h]

theorem Core.unquiet_of_not_quiet (s : Core) (h : s.quiet = false) :
    s.unquiet = some (if s.working = true then .busy else .refused .notQuiet) := by
  simp only [Core.unquiet, h, Bool.false_eq_true, if_false]
  split <;> rfl

@[simp] theorem State.found_quiet (us : Nat) (s : State) : (s.found us).quiet = s.core.quiet := rfl
@[simp] theorem State.found_working (us : Nat) (s : State) : (s.found us).working = s.core.working := rfl
@[simp] theorem State.found_freeExceptions (us : Nat) (s : State) : (s.found us).freeExceptions = s.core.freeExceptions := rfl
@[simp] theorem State.found_freeSegments (us : Nat) (s : State) : (s.found us).freeSegments = s.core.freeSegments := rfl
@[simp] theorem State.found_volume (us : Nat) (s : State) : (s.found us).volume = s.core.volume := rfl
@[simp] theorem State.found_cls (us : Nat) (s : State) : (s.found us).cls = s.core.cls := rfl

theorem Core.isMounted_iff (s : Core) (i : Fin 16) : s.isMounted i = true ↔ s.vols.mounted = some i := by
  simp [Core.isMounted]

/-! ### Power-on -/

/-- Settles O9: POWER_ON answers the constants of the power-on state. -/
theorem powerOnStartsFromNothing : Obligations.PowerOnStartsFromNothing := by
  intro s
  refine ⟨_, rfl, ?_⟩
  simp [Core.restart, Core.powerOn, VolumeTable.powerOn, Measure.powerOn, Illum.powerOn, Motion.powerOn,
    Capture.powerOn, Sequencer.powerOn, Panel.powerOn, Setting.powerOn, Link.powerOn, Counter.powerOn,
    CameraState.restart, CameraState.powerOn, InputState.restart, InputState.powerOn, ViewLight.state]

/-! ### Reading a record -/

theorem Core.volumeGet_of (s : Core) (id : Nat) (i : Fin 16) (v : Volume) (h : s.vols.slots[i] = some v) :
    s.volumeGet id i 0 0 = s.reply id .done (.volume (s.volumeBody i v 0 0)) := by
  have hstray : strayField 0 2 = none := by decide
  simp only [Core.volumeGet, s.record_of i v h, hstray]

theorem Core.exceptionsTake_of (s : Core) (id n : Nat) (i : Fin 16) (v : Volume) (h : s.vols.slots[i] = some v) :
    s.exceptionsTake id i n =
      if 1 ≤ n ∧ n ≤ 16 then
        (s.setSlot i (some { v with exceptions := v.exceptions.drop n })).reply id .done
          (.exceptions (v.exceptions.take n))
      else s.reply id (.badField 2) .empty := by
  simp only [Core.exceptionsTake, s.record_of i v h, s.editSlot_of i v _ h]

/-- Settles O22, from what VOLUME_GET and EXCEPTIONS_TAKE make of a record found in its slot. -/
theorem volumeGetReadsTheRecord : Obligations.VolumeGetReadsTheRecord := by
  refine ⟨fun q i v s hq hv => ?_, fun q i v n s hq hv => ⟨fun h1 h16 => ?_, fun hn => ?_⟩⟩
  · refine ⟨(s.found q.us).volumeBody i v 0 0, congrArg _ (State.ask_replies hq (Core.volumeGet_of (s.found q.us) _ i v hv) rfl rfl),
      rfl, rfl, rfl, ?_, ?_, rfl, rfl, rfl, rfl, rfl, rfl, ?_, ?_⟩
    · simp [Core.volumeBody, pick, hasField]
    · simp [Core.volumeBody, pick, hasField]
    · intro hm
      simp [Core.volumeBody, Core.isMounted, hm]
    · intro hm
      simp [Core.volumeBody, Core.isMounted, hm]
  · refine congrArg _ (State.ask_replies hq ?_ rfl rfl)
    rw [Core.exceptionsTake_of (s.found q.us) _ n i v hv, if_pos ⟨h1, h16⟩]
    rfl
  · refine congrArg _ (State.ask_replies hq ?_ rfl rfl)
    rw [Core.exceptionsTake_of (s.found q.us) _ n i v hv, if_neg (by omega)]

/-! ### CLASS_SET -/

/-- The mask that marks the twelve fields of a class present. -/
theorem hasField_full : ∀ n ∈ classFieldNumbers, hasField 0x1FFE#16 n = true := by decide

theorem nameOk_of (t : List Byte) (h1 : 1 ≤ t.length) (h12 : t.length ≤ 12)
    (h : ∀ b ∈ t, 0x20 ≤ b.toNat ∧ b.toNat ≤ 0x7E) : nameOk t = true := by
  simpa [nameOk, h1, h12, isPrintable] using h

/-- With every field present nothing of the class before is kept (R5). -/
theorem classMerge_full (x old : ClassFields) : classMerge 0x1FFE#16 x old = x := by
  have hfull := hasField_full
  simp only [classFieldNumbers, List.forall_mem_cons] at hfull
  simp [classMerge, pick, hfull]

/-- The clamp mask of a whole class is empty just when no clamp changes it (R5, R191). -/
theorem classClampMask_eq_zero_iff (x : ClassFields) : classClampMask 0x1FFE#16 x = 0#16 ↔ classClamp x = x := by
  have hfull := hasField_full
  simp only [classFieldNumbers, List.forall_mem_cons] at hfull
  rw [classClampMask, maskOf_eq_zero_iff _ (by simp)]
  obtain ⟨name, eMat, cOpen, warn, limit, maxAngle, vacuum, puff, retryLimit, openFloor, singleFloor, force⟩ := x
  simp only [List.forall_mem_cons, hfull, Bool.true_and, bne_eq_false_iff_eq, classClamp, ClassFields.mk.injEq,
    List.not_mem_nil, false_imp_iff, implies_true, and_true, true_and]
  tauto

/-- A whole class with a name, a limit and floors that R5 allows is taken with its clamps. -/
theorem classForm_full (x : ClassFields) (old : Option ClassFields) (hname : nameOk x.name = true)
    (hlimit : ¬ (classClamp x).limit < (classClamp x).warn + 10)
    (hfloor : ¬ (classClamp x).openFloor ≤ (classClamp x).singleFloor) :
    classForm 0x1FFE#16 x old = .ok (classClamp x, classClampMask 0x1FFE#16 x) := by
  have habsent : (if old.isNone then firstAbsent 0x1FFE#16 classFieldNumbers else none) = none := by
    split
    · decide
    · rfl
  have hstray : strayField 0x1FFE#16 13 = none := by decide
  simp only [classForm, habsent, hname, classMerge_full, hlimit, hfloor, hstray, Bool.not_true, Bool.and_false,
    Bool.false_eq_true, if_false]

/-- Settles O17, by the three answers of CLASS_SET: no such class, the class locked, and the class formed. -/
theorem classSetDefinesTheClass : Obligations.ClassSetDefinesTheClass := by
  refine fun q x s hq => ⟨fun n hn m => ?_, fun i m v hv hi => ?_, fun i y hfree hy hname hlimit hfloor => ?_⟩
  · refine congrArg _ (State.ask_replies hq ?_ rfl rfl)
    rw [Core.classSet, dif_neg (by omega)]
  · refine congrArg _ (State.ask_replies hq ?_ rfl rfl)
    have hlock : (s.found q.us).classLocked i = true := by simp [Core.classLocked, hv, hi]
    simp [Core.classSet, hlock]
  · have hclamp : classClamp x = y := hy.symm
    have hlock : (s.found q.us).classLocked i = false := by
      cases hv : s.core.volume with
      | none => simp [Core.classLocked, hv]
      | some v => simp [Core.classLocked, hv, hfree v hv]
    have hform := classForm_full x s.core.vols.classes[i] (nameOk_of x.name hname.1 hname.2.1 hname.2.2)
      (by rw [hclamp]; omega) (by rw [hclamp]; omega)
    refine ⟨doneStatus (classClampMask 0x1FFE#16 x), congrArg _ (State.ask_replies hq ?_ rfl rfl), fun h => ?_,
      fun h => ⟨classClampMask 0x1FFE#16 x, ?_, ?_⟩⟩
    · simp only [Fin.getElem_fin, hclamp] at hform
      simp [Core.classSet, hlock, hform]
    · rw [(classClampMask_eq_zero_iff x).mpr (hclamp.trans h), doneStatus_zero]
    · rwa [Ne, classClampMask_eq_zero_iff, hclamp]
    · rw [doneStatus, if_neg]
      rwa [classClampMask_eq_zero_iff, hclamp]

/-! ### VOLUME_ADD -/

theorem mem_slots_iff (slots : Vector (Option Volume) 16) (x : Option Volume) :
    x ∈ slots.toList ↔ ∃ j : Fin 16, slots[j] = x := by
  rw [Vector.mem_toList_iff, Vector.mem_iff_getElem]
  exact ⟨fun ⟨j, hj, h⟩ => ⟨⟨j, hj⟩, h⟩, fun ⟨j, h⟩ => ⟨j, j.isLt, h⟩⟩

theorem Core.shelfTaken_eq_false (s : Core) (shelf : List Byte)
    (h : ∀ (j : Fin 16) (v : Volume), s.vols.slots[j] = some v → v.shelf ≠ shelf) : s.shelfTaken shelf = false := by
  rw [Core.shelfTaken, List.any_eq_false]
  intro x hx
  obtain ⟨j, hj⟩ := (mem_slots_iff _ x).mp hx
  cases x with
  | none => simp
  | some v => simpa using h j v hj

/-- The free slot with none free below it is the one that VOLUME_ADD takes (R10). -/
theorem Core.freeSlot_eq_some (s : Core) (i : Fin 16) (h : s.vols.slots[i] = none)
    (hlow : ∀ j : Fin 16, j < i → s.vols.slots[j] ≠ none) : s.freeSlot = some i := by
  rw [Core.freeSlot, List.find?_eq_some_iff_getElem]
  refine ⟨by simpa using h, i, by simp, by simp, fun j hj => ?_⟩
  have hj' := hlow ⟨j, by omega⟩ hj
  simpa [Option.ne_none_iff_isSome] using hj'

/-- Settles O18: with room, VOLUME_ADD passes its tests one after the other; with no segment list it stops at field 5. -/
theorem volumeAddRegisters : Obligations.VolumeAddRegisters := by
  refine ⟨fun q shelf cls budget segs gs i s h hq hshelf hsegs hcls h1 hmax hnew hfree hlow hroom => ?_,
    fun q shelf cls budget p m segs s hq hshelf hcls hm => ?_⟩
  · refine congrArg _ (State.ask_replies hq ?_ rfl rfl)
    have hadd : addSegments 0x0010#16 segs = some gs := by rw [addSegments, if_pos (by decide), hsegs]
    have hstray : strayField 0x0010#16 5 = none := by decide
    have htaken := (s.found q.us).shelfTaken_eq_false shelf hnew
    have hslot := (s.found q.us).freeSlot_eq_some i hfree hlow
    have hb : budgetClamp budget = budget := by simp only [budgetClamp, clamp]; omega
    have hp : hasField 0x0010#16 4 = false := by decide
    have hroom' : ¬ s.core.freeSegments < gs.length := Nat.not_lt.mpr hroom
    simp only [Core.volumeAdd, hshelf, h, hadd, hstray, htaken, hslot, hb, hp, pick]
    simp [hcls, hroom', maskOf, doneStatus, newVolume, Summary.zero, Core.setSlot]
  · refine congrArg _ (State.ask_replies hq ?_ rfl rfl)
    have hadd : addSegments m segs = none := by rw [addSegments, hasField, hm, if_neg Bool.false_ne_true]
    simp [Core.volumeAdd, hshelf, hcls, hadd]

/-! ### VOLUME_MOUNT -/

/-- A mount with the T latch empty (R11, R26, R82, R133). -/
theorem Core.mount_of (s : Core) (i : Fin 16) (v : Volume) (k : Nat) (h : s.vols.slots[i] = some v)
    (ht : s.meas.latch.t = none) :
    s.mount i k = { s with
      vols := { s.vols with mounted := some i, slots := s.vols.slots.set i (some { v with cursor := k }) }
      dose := { s.dose with aOpen := some 0 }
      cap := { s.cap with litCount := 0 }
      seq := { s.seq with latched := Latched.clear } } := by
  simp [Core.mount, s.editSlot_of i v _ h, Core.thermalAtMount, ht, Core.setSlot]

/-- The move of a cradle that stands at an angle, with no fault in the set (R12, R96, R109). -/
theorem Core.mountAngle_of (s : Core) (target : Nat) (ha : s.motion.angle = .atAngle) (hf : s.faults = []) :
    s.mountAngle target =
      if s.motion.anglePos = some target then s
      else { s with motion := { s.motion with
        angleTarget := some target
        angle := if s.panel.broken then .stopped else .moving
        angleSince := s.now } } := by
  simp only [Core.mountAngle, ha]
  split
  · rfl
  · rw [Core.moveAngle, Core.setAngle_nil _ _ (by exact hf)]

/-- VOLUME_MOUNT with a start opening and no angle passes its tests on a quiet station (R11, R12). -/
theorem Core.volumeMount_of (s : Core) (id start : Nat) (i : Fin 16) (v : Volume) (c : ClassFields)
    (hv : s.vols.slots[i] = some v) (hreg : v.state = .registered) (hnone : s.vols.mounted = none)
    (hc : s.vols.classes[v.cls] = some c) (hstart : start ≤ v.leaves) (hquiet : s.quiet = true)
    (hplaten : s.motion.platen = .up) :
    s.volumeMount id i 0x0002#16 start 0 = ((s.mount i start).mountAngle c.maxAngle).reply id .done .empty := by
  have hstray : strayField 0x0002#16 3 = none := by decide
  have h2 : hasField 0x0002#16 2 = true := by decide
  have h3 : hasField 0x0002#16 3 = false := by decide
  simp [Core.volumeMount, s.record_of i v hv, hstray, hreg, hnone, s.unquiet_of_quiet hquiet, hplaten,
    show s.vols.classes[v.cls.val] = some c from hc, mountTarget, pick, h2, h3, Nat.min_eq_left hstart,
    Nat.not_lt.mpr hstart, maskOf, doneStatus]

/-- Settles O19: the tests of VOLUME_MOUNT pass, and then the mount and the move of the cradle. -/
theorem volumeMountBegins : Obligations.VolumeMountBegins := by
  intro q i v c start s hq hv hreg hnone hc hstart hidle harm hplaten hlife ht hfaults hangle
  have hquiet : (s.found q.us).quiet = true := by
    rcases hlife with hl | hl <;>
      simp [Core.quiet, Core.working, hidle, harm, hplaten, hl, Lifecycle.atRest, PlatenState.inMotion]
  refine congrArg _ (State.ask_replies hq ?_ rfl rfl)
  rw [Core.volumeMount_of (s.found q.us) _ start i v c hv hreg hnone hc hstart hquiet hplaten,
    Core.mount_of (s.found q.us) i v _ hv ht, Core.mountAngle_of _ _ (by exact hangle) (by exact hfaults)]
  by_cases hpos : s.core.motion.anglePos = some c.maxAngle
  · rw [if_pos (by exact hpos), if_pos hpos]
    rfl
  · rw [if_neg (by exact hpos), if_neg hpos]
    rfl

/-! ### VOLUME_SET -/

theorem Volume.r_of (v : Volume) (h : v.u ≤ v.budget) : v.r + v.u = v.budget := Nat.sub_add_cancel h

/-- The three checks find nothing to do on a record above its low-water line, or marked before, below the ceiling when
it is mounted (R46 to R48). -/
theorem Core.checks_idle (s : Core) (i : Fin 16) (v : Volume) (seq : Option SeqNo) (hv : s.vols.slots[i] = some v)
    (hceil : s.vols.mounted = some i → ∀ (c : ClassFields) (a : Nat), s.vols.classes[v.cls] = some c →
      s.dose.aOpen = some a → a < c.cOpen)
    (hlow : v.low = true ∨ v.w ≤ v.r) (hex : v.exhausted = true ∨ v.r ≠ 0) : s.checks i seq = s := by
  have hceiling : (if s.vols.mounted = some i then s.checkCeiling Core.closePeriod else s) = s := by
    split
    next hm =>
      have hcls : s.cls = s.vols.classes[v.cls] := by simp only [Core.cls, Core.volume_of s i v hm hv]
      rw [Core.checkCeiling, hcls]
      split
      next c a hc ha => rw [if_neg (Nat.not_le.mpr (hceil hm c a hc ha))]
      next => rfl
    next => rfl
  have hcheckLow : s.checkLow i = s := by
    have hno : ¬ (v.r < v.w ∧ v.low = false) := by
      rintro ⟨hr, hl⟩
      rcases hlow with h | h
      · simp [h] at hl
      · omega
    simp only [Core.checkLow, hv, hno, if_false]
  have hno : ¬ (v.r = 0 ∧ v.exhausted = false) := by
    rintro ⟨hr, hl⟩
    rcases hex with h | h
    · simp [h] at hl
    · exact h hr
  simp only [Core.checks, Core.checksWith, hceiling, hcheckLow, Core.checkExhausted, hv, hno, if_false]

/-- VOLUME_SET of a budget alone: the budget set within its clamps, the flags relaxed and the checks made (R17, R50). -/
theorem Core.volumeSet_budget (s : Core) (id b y : Nat) (i : Fin 16) (v : Volume) (hv : s.vols.slots[i] = some v)
    (hy : y = max (max 1 v.u) (min 1000000000000 b)) :
    s.volumeSet id i 0x0002#16 b 0 0 [] =
      ((s.setSlot i (some (Volume.relax { v with budget := y }))).reply id
        (if b = y then .done else .doneClamped 0x0002#16) .empty).checks i none := by
  have hstray : strayField 0x0002#16 5 = none := by decide
  have h2 : hasField 0x0002#16 2 = true := by decide
  have h3 : hasField 0x0002#16 3 = false := by decide
  have h4 : hasField 0x0002#16 4 = false := by decide
  have h5 : hasField 0x0002#16 5 = false := by decide
  have hclass : s.setClass i 0x0002#16 0 v.cls = .ok v.cls := by rw [Core.setClass, if_neg (by simp [h4])]
  have hsegs : s.setSegs i v 0x0002#16 [] = .ok v.segs := by rw [Core.setSegs, if_neg (by simp [h5])]
  have hb : setBudget v.u b = y := hy.symm
  have hstatus : doneStatus (maskOf [(2, b != y), (3, false), (5, false)]) =
      if b = y then .done else .doneClamped 0x0002#16 := by
    by_cases h : b = y <;> simp [h, maskOf, doneStatus]
  simp only [Core.volumeSet, s.record_of i v hv, hclass, hsegs, hstray, hb, pick, h2, h3, h5, Bool.true_and,
    Bool.false_and, hstatus, Bool.true_or, if_true, Bool.false_eq_true, if_false]
  rw [Core.editSlot_of _ i { v with budget := y } _ (by simp)]
  simp only [Core.setSlot, Core.reply, Core.emit, Vector.set_set]

/-- The budget set and the checks idle: the record stands with its flags as they came out of the change of budget. -/
theorem volumeSet_budget_answered (q : Req) (i : Fin 16) (v w : Volume) (b y : Nat) (s : State) (hq : Taken q s)
    (hv : s.core.vols.slots[i] = some v) (hy : y = max (max 1 v.u) (min 1000000000000 b))
    (hw : Volume.relax { v with budget := y } = w)
    (hceil : s.core.vols.mounted = some i → ∀ (c : ClassFields) (a : Nat), s.core.vols.classes[w.cls] = some c →
      s.core.dose.aOpen = some a → a < c.cOpen)
    (hlow : w.low = true ∨ w.w ≤ w.r) (hex : w.exhausted = true ∨ w.r ≠ 0) :
    exec (.volumeSet q i 0x0002#16 b 0 0 []) s = .next
      (s.answered q 0x17 (if b = y then .done else .doneClamped 0x0002#16) .empty
        { s.found q.us with vols := { s.core.vols with slots := s.core.vols.slots.set i (some w) } }) := by
  refine congrArg _ (State.ask_replies hq ?_ rfl rfl)
  rw [Core.volumeSet_budget (s.found q.us) _ b y i v hv hy, hw,
    Core.checks_idle _ i w none (by simp) (by exact hceil) hlow hex]
  rfl

/-- A record whose R stands at or above its low-water line, and above 0, loses its two budget flags (R50). -/
theorem Volume.relax_raised (v : Volume) (y : Nat) (hu : v.u < y) (hw : v.u + y * v.p / 100 ≤ y) :
    Volume.relax { v with budget := y } = { v with budget := y, low := false, exhausted := false } := by
  have hr : y * v.p / 100 ≤ y - v.u ∧ 0 < y - v.u := by omega
  exact if_pos hr

/-- A budget equal to the dose used leaves R at 0, and the flags as they are (R50). -/
theorem Volume.relax_spent (v : Volume) : Volume.relax { v with budget := v.u } = { v with budget := v.u } :=
  if_neg fun h => absurd h.2 (by simp [Volume.r, Volume.u])

/-- Settles O21: the budget comes out as y, and the checks that follow find nothing to do. -/
theorem volumeSetRaisesTheBudget : Obligations.VolumeSetRaisesTheBudget := by
  have hraise (q : Req) (i : Fin 16) (v : Volume) (budget y : Nat) (s : State) (hq : Taken q s)
      (hv : s.core.vols.slots[i] = some v) (hceil : s.core.vols.mounted = some i → ∀ (c : ClassFields) (a : Nat),
        s.core.vols.classes[v.cls] = some c → s.core.dose.aOpen = some a → a < c.cOpen)
      (hy : y = max (max 1 v.u) (min 1000000000000 budget)) (hu : v.u < y) (hw : v.u + y * v.p / 100 ≤ y) :
      exec (.volumeSet q i 0x0002#16 budget 0 0 []) s = .next
        (s.answered q 0x17 (if budget = y then .done else .doneClamped 0x0002#16) .empty
          { s.found q.us with
            vols := { s.core.vols with
              slots := s.core.vols.slots.set i (some { v with budget := y, low := false, exhausted := false }) } }) := by
    refine volumeSet_budget_answered q i v _ budget y s hq hv hy (v.relax_raised y hu hw) hceil (.inr ?_) (.inr ?_)
    · change y * v.p / 100 ≤ y - v.u
      omega
    · change y - v.u ≠ 0
      omega
  refine ⟨fun q i v budget s hq hv hm hw hu hmax => ?_, fun q i v budget y s hq hv hceil hy => ⟨fun hu hw =>
    hraise q i v budget y s hq hv hceil hy hu hw, fun hyu hlow hex => ?_⟩⟩
  · have h := hraise q i v budget budget s hq hv (fun h => absurd h hm) (by omega) hu hw
    rwa [if_pos rfl] at h
  · subst hyu
    exact volumeSet_budget_answered q i v _ budget _ s hq hv hy v.relax_spent hceil (.inl hlow) (.inl hex)

/-! ### CURSOR_SET -/

/-- The cursor set to another opening with the view light off (R18, R19). -/
theorem Core.revisit_dark (s : Core) (i : Fin 16) (v : Volume) (k : Nat) (hm : s.vols.mounted = some i)
    (hv : s.vols.slots[i] = some v) (ha : s.dose.accrual = none) (hw : s.illum.view.wanted = false)
    (hc : s.illum.view.ceiling = false) (hr : 0 < s.freeExceptions) (hk : v.cursor ≤ 4294967295) :
    s.revisit k = { s with
      vols := { s.vols with
        slots := s.vols.slots.set i (some { v with
          cursor := k
          exceptions := v.exceptions ++
            [{ kind := .cursorMoved, opening := k, detail := v.cursor, seq := none, stamp := s.stamp }] }) }
      dose := { s.dose with aOpen := s.dose.aOpen.map fun _ => 0 }
      cap := { s.cap with litCount := 0 } } := by
  rw [Core.revisit, s.cursor_of i v hm hv, s.appendMounted_of i v _ _ _ _ hm hv hr hk,
    Core.moveCursor_dark _ i _ k (by exact hm) (s.setSlot_get i _) (by exact ha) (by exact hw) (by exact hc)]
  simp [Core.setSlot]

/-- CURSOR_SET on a quiet station: its reply, and the visit when the opening is another (R19). -/
theorem Core.cursorSet_of (s : Core) (id k : Nat) (v : Volume) (hv : s.volume = some v) (hq : s.quiet = true) :
    s.cursorSet id k =
      if min k v.leaves = v.cursor then
        s.reply id (if k ≤ v.leaves then .done else .doneClamped 0x0001#16) .empty
      else (s.reply id (if k ≤ v.leaves then .done else .doneClamped 0x0001#16) .empty).revisit (min k v.leaves) := by
  have hstatus : doneStatus (maskOf [(1, k != min k v.leaves)]) = if k ≤ v.leaves then .done else .doneClamped 0x0001#16 := by
    by_cases h : k ≤ v.leaves
    · simp [h, maskOf, doneStatus]
    · have hne : k ≠ v.leaves := by omega
      simp [h, hne, maskOf, doneStatus, Nat.min_eq_right (Nat.le_of_not_le h)]
  simp only [Core.cursorSet, hv, s.unquiet_of_quiet hq, hstatus]

/-- Settles O23: the opening asked for is clamped to L, and reached by a visit when it is another. -/
theorem cursorSetMovesTheCursor : Obligations.CursorSetMovesTheCursor := by
  have hstay (q : Req) (i : Fin 16) (v : Volume) (k : Nat) (s : State) (hq : Taken q s)
      (hm : s.core.vols.mounted = some i) (hv : s.core.vols.slots[i] = some v) (hquiet : s.core.quiet = true)
      (hk : min k v.leaves = v.cursor) :
      exec (.cursorSet q k) s = .next
        (s.answered q 0x19 (if k ≤ v.leaves then .done else .doneClamped 0x0001#16) .empty (s.found q.us)) := by
    refine congrArg _ (State.ask_replies hq ?_ rfl rfl)
    rw [Core.cursorSet_of (s.found q.us) _ k v (Core.volume_of _ i v hm hv) hquiet, if_pos hk]
  have hmove (q : Req) (i : Fin 16) (v : Volume) (k : Nat) (s : State) (hq : Taken q s)
      (hm : s.core.vols.mounted = some i) (hv : s.core.vols.slots[i] = some v) (hquiet : s.core.quiet = true)
      (hw : s.core.illum.view.wanted = false) (hc : s.core.illum.view.ceiling = false)
      (ha : s.core.dose.accrual = none) (hk : min k v.leaves ≠ v.cursor) (hr : 0 < s.core.freeExceptions)
      (hmax : v.cursor ≤ 4294967295) :
      exec (.cursorSet q k) s = .next
        (s.answered q 0x19 (if k ≤ v.leaves then .done else .doneClamped 0x0001#16) .empty
          { s.found q.us with
            vols := { s.core.vols with
              slots := s.core.vols.slots.set i (some { v with
                cursor := min k v.leaves
                exceptions := v.exceptions ++
                  [{ kind := .cursorMoved, opening := min k v.leaves, detail := v.cursor, seq := none,
                     stamp := (s.found q.us).stamp }] }) }
            dose := { s.core.dose with aOpen := s.core.dose.aOpen.map fun _ => 0 }
            cap := { s.core.cap with litCount := 0 } }) := by
    refine congrArg _ (State.ask_answered q _ _ s _ _ _ hq ?_ rfl)
    rw [Core.cursorSet_of (s.found q.us) _ k v (Core.volume_of _ i v hm hv) hquiet, if_neg hk,
      Core.revisit_dark _ i v _ (by exact hm) (by exact hv) (by exact ha) (by exact hw) (by exact hc) (by exact hr) hmax]
    rfl
  refine ⟨fun q i v k s hq hm hv hquiet hw hc ha hk => ⟨fun heq => ?_, fun hne hr hmax => ?_⟩,
    fun q i v k s hq hm hv hquiet hw hc ha hk => ⟨fun heq => ?_, fun hne hr hmax => ?_⟩⟩
  · have h := hstay q i v k s hq hm hv hquiet (by omega)
    rwa [if_pos hk] at h
  · have h := hmove q i v k s hq hm hv hquiet hw hc ha (by omega) hr hmax
    rwa [if_pos hk, Nat.min_eq_left hk] at h
  · have h := hstay q i v k s hq hm hv hquiet (by omega)
    rwa [if_neg (by omega)] at h
  · have h := hmove q i v k s hq hm hv hquiet hw hc ha (by omega) hr hmax
    rwa [if_neg (by omega), Nat.min_eq_right (by omega)] at h

end Sys2Proof.Machine
end

section
/-! PROOF. What the charges of light and their checks leave as it is, and what becomes of the records: the layer under
the statements on view light, flashes and the station reset. -/

namespace Sys2Proof.Machine

/-! ### What a charge leaves -/

/-- A charge and its checks (R38 to R50) touch the records, the accumulator, two forces of the view light and the messages
alone. -/
abbrev Core.ChargeKeeps (s t : Core) : Prop :=
  t.free = s.free ∧ t.vols.mounted = s.vols.mounted ∧ t.meas = s.meas ∧ t.motion = s.motion ∧ t.cap = s.cap
    ∧ t.seq = s.seq ∧ t.faults = s.faults ∧ t.first = s.first ∧ t.sig = s.sig ∧ t.illum.staged = s.illum.staged
    ∧ t.illum.active = s.illum.active ∧ t.illum.life = s.illum.life ∧ t.illum.flash = s.illum.flash
    ∧ t.illum.closing = s.illum.closing ∧ t.illum.lampOffAt = s.illum.lampOffAt ∧ t.illum.hold = s.illum.hold
    ∧ t.illum.view.wanted = s.illum.view.wanted ∧ t.illum.view.suppressed = s.illum.view.suppressed
    ∧ t.illum.view.thermal = s.illum.view.thermal

theorem Core.ChargeKeeps.trans {s t u : Core} (h : Core.ChargeKeeps s t) (k : Core.ChargeKeeps t u) :
    Core.ChargeKeeps s u := by
  unfold Core.ChargeKeeps at *
  simp_all

section
variable (s : Core) (i : Fin 16) (seq : Option SeqNo) (f : Volume → Volume)

@[simp] theorem Core.editSlot_chargeKept : Core.ChargeKeeps s (s.editSlot i f) := by
  unfold Core.editSlot Core.ChargeKeeps
  split <;> simp

@[simp] theorem Core.editMounted_chargeKept : Core.ChargeKeeps s (s.editMounted f) := by
  unfold Core.editMounted Core.ChargeKeeps
  split <;> simp

@[simp] theorem Core.appendException_chargeKept (k : ExceptionKind) (opening detail : Nat) :
    Core.ChargeKeeps s (s.appendException i k opening detail seq) := by
  unfold Core.appendException Core.ChargeKeeps
  split <;> simp

@[simp] theorem Core.appendMounted_chargeKept (k : ExceptionKind) (opening detail : Nat) :
    Core.ChargeKeeps s (s.appendMounted k opening detail seq) := by
  unfold Core.appendMounted Core.ChargeKeeps
  split <;> simp

@[simp] theorem Core.checkLow_chargeKept : Core.ChargeKeeps s (s.checkLow i) := by
  unfold Core.checkLow Core.ChargeKeeps
  (repeat' split) <;> simp

section
variable (close : Core → Core) (hclose : ∀ s, Core.ChargeKeeps s (close s))
include hclose

theorem Core.forceView_chargeKept (g : ViewLight → ViewLight)
    (hg : ∀ v, (g v).wanted = v.wanted ∧ (g v).suppressed = v.suppressed ∧ (g v).thermal = v.thermal) :
    Core.ChargeKeeps s (s.forceView close g) :=
  Core.ChargeKeeps.trans (by simp [Core.ChargeKeeps, hg]) (hclose { s with illum := { s.illum with view := g s.illum.view } })

theorem Core.checkCeiling_chargeKept : Core.ChargeKeeps s (s.checkCeiling close) := by
  unfold Core.checkCeiling
  (repeat' split)
  · exact Core.forceView_chargeKept s close hclose _ (by simp)
  all_goals simp [Core.ChargeKeeps]

theorem Core.checkExhausted_chargeKept : Core.ChargeKeeps s (s.checkExhausted close i seq) := by
  unfold Core.checkExhausted
  dsimp only
  (repeat' split)
  · exact Core.ChargeKeeps.trans (by simp [Core.ChargeKeeps]) (Core.forceView_chargeKept _ close hclose _ (by simp))
  all_goals simp [Core.ChargeKeeps]

theorem Core.checksWith_chargeKept : Core.ChargeKeeps s (s.checksWith close i seq) := by
  unfold Core.checksWith
  refine Core.ChargeKeeps.trans (Core.ChargeKeeps.trans ?_ (Core.checkLow_chargeKept _ i))
    (Core.checkExhausted_chargeKept _ i seq close hclose)
  split
  · exact s.checkCeiling_chargeKept close hclose
  · simp [Core.ChargeKeeps]

end

@[simp] theorem Core.checksStill_chargeKept : Core.ChargeKeeps s (s.checksStill seq) := by
  unfold Core.checksStill
  split
  · exact s.checksWith_chargeKept _ seq id (fun _ => by simp [Core.ChargeKeeps])
  · simp [Core.ChargeKeeps]

@[simp] theorem Core.addDose_chargeKept (q : Nat) : Core.ChargeKeeps s (s.addDose q f) := by
  simp [Core.addDose, Core.ChargeKeeps]

@[simp] theorem Core.chargeView_chargeKept (eV ms : Nat) : Core.ChargeKeeps s (s.chargeView eV ms) := by
  simp [Core.chargeView, Core.ChargeKeeps]

@[simp] theorem Core.closePeriod_chargeKept : Core.ChargeKeeps s s.closePeriod := by
  unfold Core.closePeriod Core.ChargeKeeps
  split <;> simp

@[simp] theorem Core.checks_chargeKept : Core.ChargeKeeps s (s.checks i seq) :=
  s.checksWith_chargeKept i seq _ Core.closePeriod_chargeKept

@[simp] theorem Core.tellFlash_chargeKept (eUsed : Nat) (dimmed : Bool) (cause : Cause) :
    Core.ChargeKeeps s (s.tellFlash eUsed dimmed cause) := by
  unfold Core.tellFlash Core.ChargeKeeps
  cases cause <;> (repeat' split) <;> simp

@[simp] theorem Core.chargeFlash_chargeKept (adm : Admission) (used : Nat × Source × Bool) (q : Nat) (n : SeqNo) :
    Core.ChargeKeeps s (s.chargeFlash adm used q n).1 := by
  unfold Core.chargeFlash Core.ChargeKeeps
  dsimp only
  (repeat' split) <;> simp

@[simp] theorem Core.chargeWindow_chargeKept (adm : Admission) (r : Option Result) (n : SeqNo) :
    Core.ChargeKeeps s (s.chargeWindow adm r n).1 := by
  unfold Core.chargeWindow Core.ChargeKeeps
  split <;> simp

@[simp] theorem Core.chargeAborted_chargeKept (adm : Admission) (us : Micros) (n : SeqNo) :
    Core.ChargeKeeps s (s.chargeAborted adm us n).1 := by
  unfold Core.chargeAborted Core.ChargeKeeps
  split <;> simp

@[simp] theorem Core.beginPeriodAt_chargeKept (eV : Nat) : Core.ChargeKeeps s (s.beginPeriodAt eV) := by
  unfold Core.beginPeriodAt Core.ChargeKeeps
  split <;> simp

end

/-! ### What becomes of the records -/

/-- A record keeps all but its doses, its flags, its summary and its exception list, which grows at its end. -/
structure Volume.Kept (v w : Volume) : Prop where
  same : w = { v with
    uF := w.uF, uV := w.uV, low := w.low, exhausted := w.exhausted, exceptions := w.exceptions, summary := w.summary }
  exceptions : v.exceptions <+: w.exceptions

/-- A kept record whose doses stand. -/
structure Volume.SameDose (v w : Volume) : Prop extends Volume.Kept v w where
  uF : w.uF = v.uF
  uV : w.uV = v.uV

/-- A kept record whose doses, in their 40 bits, do not fall (R25). -/
structure Volume.Grown (v w : Volume) : Prop extends Volume.Kept v w where
  uF : v.uF ≤ max40 → v.uF ≤ w.uF ∧ w.uF ≤ max40
  uV : v.uV ≤ max40 → v.uV ≤ w.uV ∧ w.uV ≤ max40

theorem Volume.Kept.trans {u v w : Volume} (h : Volume.Kept u v) (k : Volume.Kept v w) : Volume.Kept u w := by
  refine ⟨?_, h.exceptions.trans k.exceptions⟩
  rw [k.same, h.same]

theorem Volume.Kept.cursor {v w : Volume} (h : Volume.Kept v w) : w.cursor = v.cursor := by rw [h.same]

theorem Volume.SameDose.refl (v : Volume) : Volume.SameDose v v := ⟨⟨rfl, List.prefix_rfl⟩, rfl, rfl⟩

theorem Volume.SameDose.trans {u v w : Volume} (h : Volume.SameDose u v) (k : Volume.SameDose v w) :
    Volume.SameDose u w := ⟨h.toKept.trans k.toKept, k.uF.trans h.uF, k.uV.trans h.uV⟩

theorem Volume.SameDose.grown {v w : Volume} (h : Volume.SameDose v w) : Volume.Grown v w :=
  ⟨h.toKept, fun hv => by rw [h.uF]; exact ⟨Nat.le_refl _, hv⟩, fun hv => by rw [h.uV]; exact ⟨Nat.le_refl _, hv⟩⟩

theorem Volume.Grown.trans {u v w : Volume} (h : Volume.Grown u v) (k : Volume.Grown v w) : Volume.Grown u w := by
  refine ⟨h.toKept.trans k.toKept, fun hu => ?_, fun hu => ?_⟩
  · obtain ⟨h1, h2⟩ := h.uF hu
    obtain ⟨k1, k2⟩ := k.uF h2
    exact ⟨h1.trans k1, k2⟩
  · obtain ⟨h1, h2⟩ := h.uV hu
    obtain ⟨k1, k2⟩ := k.uV h2
    exact ⟨h1.trans k1, k2⟩

/-- A message that is no reply. -/
def Out.isReply : Out → Bool
  | .reply _ _ => true
  | _ => false

/-- Every slot stays free or taken, its record as R has it, and the messages that are added hold no reply. -/
structure Core.Ledger (R : Volume → Volume → Prop) (s t : Core) : Prop where
  slots : ∀ j : Fin 16, Option.Rel R s.vols.slots[j] t.vols.slots[j]
  out : ∃ os, t.out = s.out ++ os ∧ ∀ o ∈ os, o.isReply = false

/-- The order of the two kinds of ledger: reflexive and transitive. -/
structure LedgerOrder (R : Volume → Volume → Prop) : Prop where
  refl : ∀ v, R v v
  trans : ∀ {u v w}, R u v → R v w → R u w

theorem Volume.SameDose.order : LedgerOrder Volume.SameDose := ⟨Volume.SameDose.refl, Volume.SameDose.trans⟩
theorem Volume.Grown.order : LedgerOrder Volume.Grown := ⟨fun v => (Volume.SameDose.refl v).grown, Volume.Grown.trans⟩

theorem LedgerOrder.rel_refl {R : Volume → Volume → Prop} (h : LedgerOrder R) (x : Option Volume) : Option.Rel R x x := by
  cases x with
  | none => exact .none
  | some v => exact .some (h.refl v)

theorem LedgerOrder.rel_trans {R : Volume → Volume → Prop} (h : LedgerOrder R) {x y z : Option Volume}
    (hxy : Option.Rel R x y) (hyz : Option.Rel R y z) : Option.Rel R x z := by
  cases hxy with
  | none => exact hyz
  | some hab =>
    cases hyz with
    | some hbc => exact .some (h.trans hab hbc)

namespace Core.Ledger
variable {R : Volume → Volume → Prop} {s t u : Core}

/-- Blocks with the same slots and messages. -/
theorem of_eq (h : LedgerOrder R) (hs : t.vols.slots = s.vols.slots) (ho : t.out = s.out) : Core.Ledger R s t :=
  ⟨fun j => by rw [hs]; exact h.rel_refl _, [], by simp [ho], by simp⟩

theorem refl (h : LedgerOrder R) (s : Core) : Core.Ledger R s s := of_eq h rfl rfl

theorem trans (h : LedgerOrder R) (hst : Core.Ledger R s t) (htu : Core.Ledger R t u) : Core.Ledger R s u := by
  refine ⟨fun j => h.rel_trans (hst.slots j) (htu.slots j), ?_⟩
  obtain ⟨os, hos, hno⟩ := hst.out
  obtain ⟨ps, hps, hnp⟩ := htu.out
  refine ⟨os ++ ps, by rw [hps, hos, List.append_assoc], fun o ho => ?_⟩
  rcases List.mem_append.mp ho with ho | ho
  · exact hno o ho
  · exact hnp o ho

/-- Transitivity from the last change back. -/
theorem after (h : LedgerOrder R) (htu : Core.Ledger R t u) (hst : Core.Ledger R s t) : Core.Ledger R s u :=
  hst.trans h htu

theorem grown (h : Core.Ledger Volume.SameDose s t) : Core.Ledger Volume.Grown s t := by
  refine ⟨fun j => ?_, h.out⟩
  have hj := h.slots j
  generalize s.vols.slots[j] = x at hj
  generalize t.vols.slots[j] = y at hj
  cases hj with
  | none => exact .none
  | some hab => exact .some hab.grown

/-- What a taken slot holds afterwards. -/
theorem some_of (h : Core.Ledger R s t) {i : Fin 16} {v : Volume} (hv : s.vols.slots[i] = some v) :
    ∃ w, t.vols.slots[i] = some w ∧ R v w := by
  have hi := h.slots i
  rw [hv] at hi
  generalize t.vols.slots[i] = y at hi
  cases hi with
  | some hab => exact ⟨_, rfl, hab⟩

theorem none_of (h : Core.Ledger R s t) {i : Fin 16} (hv : s.vols.slots[i] = none) : t.vols.slots[i] = none := by
  have hi := h.slots i
  rw [hv] at hi
  generalize t.vols.slots[i] = y at hi
  cases hi with
  | none => rfl

theorem emit (h : LedgerOrder R) (s : Core) (o : Out) (ho : o.isReply = false) : Core.Ledger R s (s.emit o) :=
  ⟨fun _ => h.rel_refl _, [o], rfl, by simpa using ho⟩

theorem report (h : LedgerOrder R) (s : Core) (r : Report) : Core.Ledger R s (s.report r) := emit h s _ rfl

theorem tell (h : LedgerOrder R) (s : Core) (e : CounterEvent) (n : Int) : Core.Ledger R s (s.tell e n) := emit h s _ rfl

theorem editSlot (h : LedgerOrder R) (s : Core) (i : Fin 16) (f : Volume → Volume) (hf : ∀ v, R v (f v)) :
    Core.Ledger R s (s.editSlot i f) := by
  cases hv : s.vols.slots[i] with
  | none => simpa [Core.editSlot, hv] using refl h s
  | some v =>
    rw [s.editSlot_of i v f hv]
    refine ⟨fun j => ?_, [], by simp, by simp⟩
    by_cases hj : j = i
    · subst hj
      rw [hv, Core.setSlot_get]
      exact .some (hf v)
    · have hne : i.val ≠ j.val := fun hij => hj (Fin.ext hij.symm)
      have hget : (s.setSlot i (some (f v))).vols.slots[j] = s.vols.slots[j] := by
        simp [Core.setSlot, hne]
      rw [hget]
      exact h.rel_refl _

theorem editMounted (h : LedgerOrder R) (s : Core) (f : Volume → Volume) (hf : ∀ v, R v (f v)) :
    Core.Ledger R s (s.editMounted f) := by
  unfold Core.editMounted
  split
  · exact editSlot h s _ f hf
  · exact refl h s

end Core.Ledger

/-! ### The checks keep the doses -/

section
variable (s : Core) (i : Fin 16) (seq : Option SeqNo)

/-- An append of an exception leaves the rest of the record. -/
theorem Volume.SameDose.append (v : Volume) (es : List ExceptionEntry) :
    Volume.SameDose v { v with exceptions := v.exceptions ++ es } := ⟨⟨rfl, List.prefix_append _ _⟩, rfl, rfl⟩

theorem Core.appendException_ledger (k : ExceptionKind) (opening detail : Nat) :
    Core.Ledger Volume.SameDose s (s.appendException i k opening detail seq) := by
  unfold Core.appendException
  split
  · exact .refl Volume.SameDose.order s
  · exact .editSlot Volume.SameDose.order s i _ fun v => .append v _

theorem Core.appendMounted_ledger (k : ExceptionKind) (opening detail : Nat) :
    Core.Ledger Volume.SameDose s (s.appendMounted k opening detail seq) := by
  unfold Core.appendMounted
  split
  · exact s.appendException_ledger _ seq k opening detail
  · exact .refl Volume.SameDose.order s

theorem Core.checkLow_ledger : Core.Ledger Volume.SameDose s (s.checkLow i) := by
  unfold Core.checkLow
  (repeat' split)
  · exact .after Volume.SameDose.order (.report Volume.SameDose.order _ _)
      (.editSlot Volume.SameDose.order s i _ fun _ => ⟨⟨rfl, List.prefix_rfl⟩, rfl, rfl⟩)
  all_goals exact .refl Volume.SameDose.order s

section
variable {R : Volume → Volume → Prop} (hR : LedgerOrder R)
  (hmono : ∀ {s t : Core}, Core.Ledger Volume.SameDose s t → Core.Ledger R s t)
  (close : Core → Core) (hclose : ∀ s, Core.Ledger R s (close s))
include hR hclose

theorem Core.forceView_ledger (g : ViewLight → ViewLight) : Core.Ledger R s (s.forceView close g) :=
  .after hR (hclose { s with illum := { s.illum with view := g s.illum.view } }) (.of_eq hR rfl rfl)

theorem Core.checkCeiling_ledger : Core.Ledger R s (s.checkCeiling close) := by
  unfold Core.checkCeiling
  (repeat' split)
  · exact s.forceView_ledger hR close hclose _
  all_goals exact .refl hR s

include hmono

theorem Core.checkExhausted_ledger : Core.Ledger R s (s.checkExhausted close i seq) := by
  unfold Core.checkExhausted
  dsimp only
  split
  next v hv =>
    split
    · have hmark := Core.Ledger.editSlot Volume.SameDose.order s i (fun v => { v with exhausted := true })
        fun v => ⟨⟨rfl, List.prefix_rfl⟩, rfl, rfl⟩
      have hrep := hmark.trans Volume.SameDose.order (.report Volume.SameDose.order _
        (.budgetExhausted i.val v.inst v.budget v.u))
      have happ := hmono (hrep.trans Volume.SameDose.order
        (Core.appendException_ledger _ i seq .budgetExhausted v.cursor v.u))
      split
      · exact happ.trans hR (Core.forceView_ledger _ hR close hclose _)
      · exact happ
    · exact .refl hR s
  next => exact .refl hR s

theorem Core.checksWith_ledger : Core.Ledger R s (s.checksWith close i seq) := by
  unfold Core.checksWith
  refine .trans hR (.trans hR ?_ (hmono (Core.checkLow_ledger _ i)))
    (Core.checkExhausted_ledger _ i seq hR hmono close hclose)
  split
  · exact s.checkCeiling_ledger hR close hclose
  · exact .refl hR s

end

theorem Core.checksStill_ledger : Core.Ledger Volume.SameDose s (s.checksStill seq) := by
  unfold Core.checksStill
  split
  · exact s.checksWith_ledger _ seq Volume.SameDose.order id id (Core.Ledger.refl Volume.SameDose.order)
  · exact .refl Volume.SameDose.order s

/-! ### Charges make the doses grow -/

/-- The accumulator stands apart from the records. -/
theorem Core.addDose_ledger (q : Nat) (f : Volume → Volume) (hf : ∀ v, Volume.Grown v (f v)) :
    Core.Ledger Volume.Grown s (s.addDose q f) :=
  .after Volume.Grown.order (.editMounted Volume.Grown.order _ f hf) (.of_eq Volume.Grown.order rfl rfl)

theorem le_satAdd (bound a b : Nat) (h : a ≤ bound) : a ≤ satAdd bound a b ∧ satAdd bound a b ≤ bound := by
  unfold satAdd
  omega

theorem Core.chargeView_ledger (eV ms : Nat) : Core.Ledger Volume.Grown s (s.chargeView eV ms) :=
  s.addDose_ledger _ _ fun _ => ⟨⟨rfl, List.prefix_rfl⟩, fun h => ⟨Nat.le_refl _, h⟩, le_satAdd _ _ _⟩

theorem Core.closePeriod_ledger : Core.Ledger Volume.Grown s s.closePeriod := by
  unfold Core.closePeriod
  split
  · exact .after Volume.Grown.order (Core.checksStill_ledger _ _).grown
      (.after Volume.Grown.order (Core.chargeView_ledger _ _ _) (.of_eq Volume.Grown.order rfl rfl))
  · exact .refl Volume.Grown.order s

theorem Core.checks_ledger : Core.Ledger Volume.Grown s (s.checks i seq) :=
  s.checksWith_ledger i seq Volume.Grown.order Core.Ledger.grown _ Core.closePeriod_ledger

theorem Core.beginPeriodAt_ledger (eV : Nat) : Core.Ledger Volume.Grown s (s.beginPeriodAt eV) := by
  unfold Core.beginPeriodAt
  split
  · exact .of_eq Volume.Grown.order rfl rfl
  · exact .refl Volume.Grown.order s

theorem Core.tellFlash_ledger (eUsed : Nat) (dimmed : Bool) (cause : Cause) :
    Core.Ledger Volume.Grown s (s.tellFlash eUsed dimmed cause) := by
  have h := Volume.Grown.order
  unfold Core.tellFlash
  dsimp only
  have hdimmed : Core.Ledger Volume.Grown s
      (if dimmed then (s.tell .flashes 0).tell .flashesDimmed 0 else s.tell .flashes 0) := by
    split
    · exact .after h (.tell h _ _ _) (.tell h _ _ _)
    · exact .tell h _ _ _
  refine .after h (.tell h _ _ _) ?_
  cases cause
  case none => exact hdimmed
  all_goals exact .after h (.tell h _ _ _) hdimmed

/-- A flash's dose with the checks on the mounted volume (R38, R39, R45). -/
theorem Core.addDose_checks_ledger (q : Nat) (m : Option (Fin 16)) :
    Core.Ledger Volume.Grown s
      (match m with
        | some i => (s.addDose q fun v => { v with uF := satAdd max40 v.uF q }).checks i seq
        | none => s.addDose q fun v => { v with uF := satAdd max40 v.uF q }) := by
  have hdose := s.addDose_ledger q (fun v => { v with uF := satAdd max40 v.uF q }) fun _ =>
    ⟨⟨rfl, List.prefix_rfl⟩, le_satAdd _ _ _, fun h => ⟨Nat.le_refl _, h⟩⟩
  cases m with
  | none => exact hdose
  | some i => exact hdose.trans Volume.Grown.order (Core.checks_ledger _ i seq)

theorem Core.chargeFlash_ledger (adm : Admission) (used : Nat × Source × Bool) (q : Nat) (n : SeqNo) :
    Core.Ledger Volume.Grown s (s.chargeFlash adm used q n).1 := by
  have h := Volume.Grown.order
  unfold Core.chargeFlash
  dsimp only
  refine .after h (Core.tellFlash_ledger _ _ _ _) (.after h (.editMounted h _ _ fun v =>
    Volume.SameDose.grown ⟨⟨rfl, List.prefix_rfl⟩, rfl, rfl⟩) ?_)
  split
  · exact .after h (Core.appendMounted_ledger _ _ _ _ _).grown (s.addDose_checks_ledger _ q _)
  · exact s.addDose_checks_ledger _ q _

theorem Core.chargeWindow_ledger (adm : Admission) (r : Option Result) (n : SeqNo) :
    Core.Ledger Volume.Grown s (s.chargeWindow adm r n).1 := by
  unfold Core.chargeWindow
  split <;> exact s.chargeFlash_ledger _ _ _ _

theorem Core.chargeAborted_ledger (adm : Admission) (us : Micros) (n : SeqNo) :
    Core.Ledger Volume.Grown s (s.chargeAborted adm us n).1 := by
  unfold Core.chargeAborted
  split <;> exact s.chargeFlash_ledger _ _ _ _

end

end Sys2Proof.Machine
end

section
/-! PROOF. The ends of a mounting and of a record (O20). -/

namespace Sys2Proof.Machine

/-! ### Replies among other messages -/

/-- Messages that are no replies leave the pending-reply list. -/
theorem Link.foldl_take_pending (os : List Out) (l : Link) (h : ∀ o ∈ os, o.isReply = false) :
    (os.foldl Link.take l).pending = l.pending := by
  induction os generalizing l with
  | nil => rfl
  | cons o os ih =>
    obtain ⟨ho, hos⟩ := List.forall_mem_cons.mp h
    rw [List.foldl_cons, ih _ hos]
    cases o with
    | report r =>
      unfold Link.take Link.push
      dsimp only
      split <;> rfl
    | reply e r => simp [Out.isReply] at ho
    | count e n => rfl

/-- A request whose owner sends reports and counts, and then replies. -/
theorem State.ask_replied {q : Req} {kind : Byte} {f : Nat → Core → Core} {s : State} {st : Status} {b : Body} {c : Core}
    (h : Taken q s) (hf : f s.link.nextEntry (s.found q.us) = c.reply s.link.nextEntry st b) (hs : c.sig = [])
    (ho : ∀ o ∈ c.out, o.isReply = false) :
    Replied q kind st b s (s.ask q kind f) ∧ (s.ask q kind f).core = { c with out := [], sig := [] } := by
  have hrun := State.run_of_sig_nil (f s.link.nextEntry) _ _
    (show f s.link.nextEntry { (s.entered q kind).core with out := [], sig := [] } = _ from hf) hs
  have hask : s.ask q kind f = (s.entered q kind).run (f s.link.nextEntry) := State.request_taken q kind _ s h
  rw [hask, hrun]
  refine ⟨?_, rfl⟩
  unfold Replied
  simp only [Link.pump_pending, Core.reply_out, List.foldl_append, List.foldl_cons, List.foldl_nil]
  simp only [Link.take, Link.form, Link.foldl_take_pending _ _ ho]
  exact Link.form_own s.link kind q.tag _ _ h.fresh

/-! ### A mounting ends in the dark -/

/-- The end of a mounting whose view light is not lit (R7, R89). -/
theorem Core.endMounting_dark (s : Core) (h : s.illum.view.state ≠ .lit) : s.endMounting = s.unmounted s.vols.slots := by
  have hoff : ({ s.illum.view with wanted := false } : ViewLight).state ≠ .lit := by simp [ViewLight.state]
  rw [Core.endMounting, Core.withView_dark s _ h hoff]
  rfl

/-- A slot set to what it holds. -/
theorem Core.setSlot_self (s : Core) (i : Fin 16) (x : Option Volume) (h : s.vols.slots[i] = x) : s.setSlot i x = s := by
  subst h
  simp [Core.setSlot]

/-- A mounted record that leaves for a state, the view light not lit (R7). -/
theorem Core.leaveFor_dark (s : Core) (i : Fin 16) (v : Volume) (st : RecordState) (hm : s.vols.mounted = some i)
    (hv : s.vols.slots[i] = some v) (h : s.illum.view.state ≠ .lit) :
    s.leaveFor i st = s.unmounted (s.vols.slots.set i (some { v with state := st })) := by
  rw [Core.leaveFor, if_pos ((s.isMounted_iff i).mpr hm), s.endMounting_dark h, Core.editSlot_of _ i v _ (by exact hv)]
  rfl

/-- A record that is not mounted leaves for a state as it lies. -/
theorem Core.leaveFor_shelved (s : Core) (i : Fin 16) (v : Volume) (st : RecordState) (hm : s.vols.mounted ≠ some i)
    (hv : s.vols.slots[i] = some v) : s.leaveFor i st = s.setSlot i (some { v with state := st }) := by
  rw [Core.leaveFor, if_neg (by simpa [Core.isMounted] using hm), s.editSlot_of i v _ hv]

/-! ### The commands past their tests -/

section
variable (s : Core) (id : Nat) (i : Fin 16) (v : Volume)

/-- The quiet condition is met, or the record is not mounted. -/
theorem Core.unquietFor_none (h : s.quiet = true ∨ s.vols.mounted ≠ some i) : s.unquietFor i = none := by
  rcases h with h | h
  · simp [Core.unquietFor, s.unquiet_of_quiet h]
  · simp [Core.unquietFor, Core.isMounted, h]

theorem Core.volumeUnmount_of (hv : s.vols.slots[i] = some v) (hm : s.vols.mounted = some i) (hq : s.quiet = true) :
    s.volumeUnmount id i = s.endMounting.reply id .done .empty := by
  simp only [Core.volumeUnmount, s.record_of i v hv, (s.isMounted_iff i).mpr hm, s.unquiet_of_quiet hq, if_true]

theorem Core.volumeWithdraw_of (hv : s.vols.slots[i] = some v) (hst : v.state ≠ .withdrawn)
    (h : s.unquietFor i = none) : s.volumeWithdraw id i = (s.leaveFor i .withdrawn).reply id .done .empty := by
  simp only [Core.volumeWithdraw, s.record_of i v hv, hst, if_false, h]

theorem Core.volumeClose_complete (force : Bool) (hv : s.vols.slots[i] = some v) (hst : v.state = .registered)
    (h : s.unquietFor i = none) (hall : v.captured.length = v.leaves + 1) :
    s.volumeClose id i force = (s.leaveFor i .complete).reply id .done .empty := by
  have hmissing : v.leaves + 1 - v.captured.length = 0 := by omega
  simp [Core.volumeClose, s.record_of i v hv, hst, h, hmissing]

theorem Core.volumeClose_incomplete (hv : s.vols.slots[i] = some v) (hst : v.state = .registered)
    (h : s.unquietFor i = none) (hlack : v.captured.length < v.leaves + 1) :
    s.volumeClose id i false = s.reply id (.refused .incomplete) .empty := by
  have hmissing : v.leaves + 1 - v.captured.length ≠ 0 := by omega
  simp only [Core.volumeClose, s.record_of i v hv, hst, h, hmissing, ne_eq, not_true_eq_false, if_false, if_true]

/-- The record with FORCED_CLOSE appended at its cursor (R14). -/
def Volume.forcedClose (t : Stamp) (v : Volume) : Volume :=
  { v with exceptions := v.exceptions ++
      [{ kind := .forcedClose, opening := v.cursor, detail := v.leaves + 1 - v.captured.length, seq := none, stamp := t }] }

theorem Core.volumeClose_forced (hv : s.vols.slots[i] = some v) (hst : v.state = .registered)
    (h : s.unquietFor i = none) (hlack : v.captured.length < v.leaves + 1) (hroom : 0 < s.freeExceptions)
    (hmax : v.leaves + 1 - v.captured.length ≤ 4294967295) :
    s.volumeClose id i true =
      ((s.setSlot i (some (v.forcedClose s.stamp))).leaveFor i .complete).reply id .done .empty := by
  have hmissing : v.leaves + 1 - v.captured.length ≠ 0 := by omega
  simp only [Core.volumeClose, s.record_of i v hv, hst, h, hmissing, ne_eq, not_true_eq_false, if_false,
    Bool.true_eq_false, Nat.ne_of_gt hroom, s.appendException_of i v _ _ _ none hv hroom hmax, Volume.forcedClose]

theorem Core.volumeRemove_of (hv : s.vols.slots[i] = some v) :
    s.volumeRemove id i =
      if s.vols.mounted = some i then s.reply id (.refused .state) .empty
      else (s.setSlot i none).reply id .done .empty := by
  simp only [Core.volumeRemove, s.record_of i v hv, Core.isMounted_iff]

/-- A station that is not quiet refuses all three alike (R8). -/
theorem Core.leaving_unquiet (hv : s.vols.slots[i] = some v) (hm : s.vols.mounted = some i)
    (hst : v.state = .registered) (hq : s.quiet = false) (st : Status)
    (hs : st = if s.working = true then .busy else .refused .notQuiet) :
    s.volumeUnmount id i = s.reply id st .empty ∧ s.volumeWithdraw id i = s.reply id st .empty
      ∧ ∀ force, s.volumeClose id i force = s.reply id st .empty := by
  have hmount := (s.isMounted_iff i).mpr hm
  have hun : s.unquiet = some st := by rw [s.unquiet_of_not_quiet hq, hs]
  refine ⟨?_, ?_, fun force => ?_⟩
  · simp only [Core.volumeUnmount, s.record_of i v hv, hmount, hun, if_true]
  · simp [Core.volumeWithdraw, s.record_of i v hv, hst, Core.unquietFor, hmount, hun]
  · simp [Core.volumeClose, s.record_of i v hv, hst, Core.unquietFor, hmount, hun]

end

/-! ### A lit view light is charged first -/

/-- The record after a view-light charge (R43, R187). -/
def Volume.viewed (eV ms : Nat) (v : Volume) : Volume :=
  { v with
    uV := satAdd max40 v.uV (eV * ms)
    summary := { v.summary with viewMs := satAdd max32 v.summary.viewMs ms } }

theorem Core.chargeView_of (s : Core) (i : Fin 16) (v : Volume) (eV ms : Nat) (hm : s.vols.mounted = some i)
    (hv : s.vols.slots[i] = some v) :
    s.chargeView eV ms = { s.setSlot i (some (v.viewed eV ms)) with
      dose := { s.dose with aOpen := s.dose.aOpen.map fun a => satAdd max32 a (eV * ms) } } := by
  rw [Core.chargeView, Core.addDose, Core.editMounted_of _ i v _ (by exact hm) (by exact hv)]
  rfl

/-- The blocks with the view light switched off. -/
def Core.switchedOff (s : Core) : Core := { s with illum := { s.illum with view := { s.illum.view with wanted := false } } }

/-- A lit view light switched off: its running period is charged and checked (R44, R85). -/
theorem Core.withView_off_lit (s : Core) (a : Accrual) (hlit : s.illum.view.state = .lit) (ha : s.dose.accrual = some a) :
    s.withView (fun v => { v with wanted := false }) =
      ({ s.switchedOff with dose := { s.dose with accrual := none } }.chargeView a.eV (s.elapsedMs a.since)).checksStill
        none := by
  have hdark : s.switchedOff.illum.view.state ≠ .lit := by simp [Core.switchedOff, ViewLight.state]
  have hoff : s.withView (fun v => { v with wanted := false }) = s.switchedOff.closePeriod := by
    rw [Core.withView, hlit, if_pos rfl]
    exact if_neg hdark
  rw [hoff, Core.closePeriod, show s.switchedOff.dose.accrual = some a from ha]
  rfl

/-- The end of a mounting with the view light lit (R44, R88, R89): the running period is charged to the record and
checked, and nothing of the light's account is left but its thermal force. -/
theorem Core.endMounting_lit (s : Core) (i : Fin 16) (v : Volume) (a : Accrual) (hm : s.vols.mounted = some i)
    (hv : s.vols.slots[i] = some v) (hlit : s.illum.view.state = .lit) (ha : s.dose.accrual = some a) :
    ∃ w, s.endMounting.vols.slots[i] = some w ∧ Volume.SameDose (v.viewed a.eV (s.elapsedMs a.since)) w
      ∧ s.endMounting.illum.view = { s.illum.view with
          wanted := false, suppressed := false, budget := false, ceiling := false }
      ∧ s.endMounting.sig = s.sig ∧ ∃ os, s.endMounting.out = s.out ++ os ∧ ∀ o ∈ os, o.isReply = false := by
  have hclose := s.withView_off_lit a hlit ha
  rw [Core.chargeView_of _ i v _ _ (by exact hm) (by exact hv)] at hclose
  generalize hcharged : ({ Core.setSlot i _ _ with dose := _ } : Core) = charged at hclose
  have hslot : charged.vols.slots[i] = some (v.viewed a.eV (s.elapsedMs a.since)) := by
    subst hcharged
    exact Core.setSlot_get _ i _
  have hkept : Core.ChargeKeeps s.switchedOff charged := by
    subst hcharged
    simp [Core.ChargeKeeps]
  have hout : charged.out = s.out := by
    subst hcharged
    rfl
  obtain ⟨w, hw, hsame⟩ := (charged.checksStill_ledger none).some_of hslot
  obtain ⟨os, hos, hno⟩ := (charged.checksStill_ledger none).out
  have hend : s.endMounting = { charged.checksStill none with
      vols := { (charged.checksStill none).vols with mounted := none }
      dose := { aOpen := none, accrual := none }
      illum := { (charged.checksStill none).illum with
        view := { (charged.checksStill none).illum.view with suppressed := false, budget := false, ceiling := false } } } := by
    rw [Core.endMounting, hclose]
  rw [hout] at hos
  simp only [hend]
  exact ⟨w, hw, hsame, by simp [hkept, Core.switchedOff], by simp [hkept, Core.switchedOff], os, hos, hno⟩

/-- A request that ends a mounting with the view light lit, and gives the record a state: what its reply and the blocks
come to. -/
theorem left_lit (q : Req) (kind : Byte) (f : Nat → Core → Core) (i : Fin 16) (v : Volume) (a : Accrual)
    (st : RecordState) (s : State) (hq : Taken q s) (hm : s.core.vols.mounted = some i)
    (hv : s.core.vols.slots[i] = some v) (hlit : s.core.illum.view.state = .lit) (ha : s.core.dose.accrual = some a)
    (hf : f s.link.nextEntry (s.found q.us) =
      ((s.found q.us).endMounting.editSlot i fun w => { w with state := st }).reply s.link.nextEntry .done .empty) :
    ∃ t w, s.ask q kind f = t ∧ Replied q kind .done .empty s t ∧ t.core.vols.mounted = none
      ∧ t.core.dose = { aOpen := none, accrual := none }
      ∧ t.core.illum.view = { s.core.illum.view with
          wanted := false, suppressed := false, budget := false, ceiling := false }
      ∧ t.core.vols.slots[i] = some w ∧ w.state = st ∧ w.uF = v.uF
      ∧ w.uV = min 1099511627775 (v.uV + a.eV * (((s.found q.us).now - a.since + 999) / 1000))
      ∧ w.cursor = v.cursor ∧ w.captured = v.captured ∧ w.budget = v.budget := by
  obtain ⟨w, hw, hsame, hview, hsig, os, hos, hno⟩ := (s.found q.us).endMounting_lit i v a hm hv hlit ha
  rw [Core.editSlot_of _ i w _ hw] at hf
  obtain ⟨hreplied, hcore⟩ := State.ask_replied (kind := kind) hq hf hsig (by
    simpa [hos] using hno)
  refine ⟨_, { w with state := st }, rfl, hreplied, ?_⟩
  rw [hcore]
  refine ⟨rfl, rfl, hview, Core.setSlot_get _ i _, rfl, hsame.uF, hsame.uV, ?_⟩
  rw [hsame.same]
  exact ⟨rfl, rfl, rfl⟩

/-- Settles O20: the commands past their tests, in the dark, with the view light lit, and refused. -/
theorem volumesLeaveTheCradle : Obligations.VolumesLeaveTheCradle := by
  intro q i v s hq hv
  have hv' : (s.found q.us).vols.slots[i] = some v := hv
  refine ⟨fun hquiet hm hdark ha => ?_, fun a c kind st hquiet hm hlit ha hc => ?_,
    fun st hquiet hm hreg hst => ?_, fun hreg hm hlack => ?_, fun hreg hm hall force => ?_, fun hm => ?_, fun hm => ?_⟩
  · have hmet := (s.found q.us).unquietFor_none i (.inl hquiet)
    refine ⟨?_, fun hst => ?_, fun hreg hall force => ?_, fun hreg hlack => ⟨?_, fun hroom hmax => ?_⟩⟩
    · refine congrArg _ (State.ask_replies hq ?_ rfl rfl)
      rw [Core.volumeUnmount_of _ _ i v hv' hm hquiet, Core.endMounting_dark (s.found q.us) hdark]
      rfl
    · refine congrArg _ (State.ask_replies hq ?_ rfl rfl)
      rw [Core.volumeWithdraw_of _ _ i v hv' hst hmet, Core.leaveFor_dark (s.found q.us) i v _ hm hv' hdark]
      rfl
    · refine congrArg _ (State.ask_replies hq ?_ rfl rfl)
      rw [Core.volumeClose_complete _ _ i v force hv' hreg hmet hall, Core.leaveFor_dark (s.found q.us) i v _ hm hv' hdark]
      rfl
    · exact congrArg _ (State.ask_replies hq (Core.volumeClose_incomplete _ _ i v hv' hreg hmet hlack) rfl rfl)
    · refine congrArg _ (State.ask_replies hq ?_ rfl rfl)
      rw [Core.volumeClose_forced _ _ i v hv' hreg hmet hlack hroom hmax,
        Core.leaveFor_dark _ i _ _ (by exact hm) (Core.setSlot_get _ i _) (by exact hdark)]
      simp [Core.setSlot, Core.unmounted, Volume.forcedClose]
  · have hmet := (s.found q.us).unquietFor_none i (.inl hquiet)
    rcases hc with ⟨rfl, rfl, rfl⟩ | ⟨rfl, rfl, rfl, hst⟩ | ⟨force, rfl, rfl, rfl, hreg, hall⟩
    · obtain ⟨t, w, ht, h⟩ := left_lit q 0x13 (fun id c => c.volumeUnmount id i) i v a v.state s hq hm hv hlit ha (by
        obtain ⟨w, hw, hsame, -⟩ := (s.found q.us).endMounting_lit i v a hm hv' hlit ha
        have hst : w = { w with state := v.state } := by rw [hsame.same]; rfl
        rw [Core.volumeUnmount_of _ _ i v hv' hm hquiet, Core.editSlot_of _ i w _ hw, ← hst, Core.setSlot_self _ i _ hw])
      exact ⟨t, w, congrArg _ ht, h⟩
    · obtain ⟨t, w, ht, h⟩ := left_lit q 0x15 (fun id c => c.volumeWithdraw id i) i v a .withdrawn s hq hm hv hlit ha (by
        rw [Core.volumeWithdraw_of _ _ i v hv' hst hmet, Core.leaveFor, if_pos (by simp [Core.isMounted, hm])])
      exact ⟨t, w, congrArg _ ht, h⟩
    · obtain ⟨t, w, ht, h⟩ := left_lit q 0x14 (fun id c => c.volumeClose id i force) i v a .complete s hq hm hv hlit ha (by
        rw [Core.volumeClose_complete _ _ i v force hv' hreg hmet hall, Core.leaveFor,
          if_pos (by simp [Core.isMounted, hm])])
      exact ⟨t, w, congrArg _ ht, h⟩
  · obtain ⟨hunmount, hwithdraw, hclose⟩ := (s.found q.us).leaving_unquiet s.link.nextEntry i v hv' hm hreg hquiet st hst
    exact ⟨congrArg _ (State.ask_replies hq hunmount rfl rfl), congrArg _ (State.ask_replies hq hwithdraw rfl rfl),
      fun force => congrArg _ (State.ask_replies hq (hclose force) rfl rfl)⟩
  · have hmet := (s.found q.us).unquietFor_none i (.inr hm)
    refine ⟨congrArg _ (State.ask_replies hq (Core.volumeClose_incomplete _ _ i v hv' hreg hmet hlack) rfl rfl),
      fun hroom hmax => congrArg _ (State.ask_replies hq ?_ rfl rfl)⟩
    rw [Core.volumeClose_forced _ _ i v hv' hreg hmet hlack hroom hmax,
      Core.leaveFor_shelved _ i _ _ (by exact hm) (Core.setSlot_get _ i _), Core.setSlot_setSlot]
    rfl
  · have hmet := (s.found q.us).unquietFor_none i (.inr hm)
    refine congrArg _ (State.ask_replies hq ?_ rfl rfl)
    rw [Core.volumeClose_complete _ _ i v force hv' hreg hmet hall, Core.leaveFor_shelved (s.found q.us) i v _ hm hv']
    rfl
  · have hmet := (s.found q.us).unquietFor_none i (.inr hm)
    refine ⟨congrArg _ (State.ask_replies hq ?_ rfl rfl), congrArg _ (State.ask_replies hq ?_ rfl rfl)⟩
    · by_cases hst : v.state = .withdrawn
      · have hself : ({ v with state := .withdrawn } : Volume) = v := by rw [← hst]
        rw [hself, Core.volumeWithdraw, (s.found q.us).record_of i v hv']
        exact (if_pos hst).trans (congrArg _ (Core.setSlot_self _ i _ hv').symm)
      · rw [Core.volumeWithdraw_of _ _ i v hv' hst hmet, Core.leaveFor_shelved (s.found q.us) i v _ hm hv']
        rfl
    · rw [Core.volumeRemove_of _ _ i v hv', if_neg (by exact hm)]
      rfl
  · refine congrArg _ (State.ask_replies hq ?_ rfl rfl)
    rw [Core.volumeRemove_of _ _ i v hv', if_pos (by exact hm)]

end Sys2Proof.Machine
end

section
/-! PROOF. The station reset (O13): what each block's part of it leaves, and the record that a lit attempt leaves. -/

namespace Sys2Proof.Machine

/-! ### The reply of the reset -/

/-- Messages change at most the replies of the entries. -/
theorem Link.foldl_take_map (os : List Out) (l : Link) :
    ∃ g : PendingReply → PendingReply, (∀ p, (g p).id = p.id ∧ (g p).kind = p.kind ∧ (g p).tag = p.tag)
      ∧ (os.foldl Link.take l).pending = l.pending.map g := by
  induction os generalizing l with
  | nil => exact ⟨id, fun _ => ⟨rfl, rfl, rfl⟩, by simp⟩
  | cons o os ih =>
    obtain ⟨g, hg, hos⟩ := ih (l.take o)
    rw [List.foldl_cons, hos]
    cases o with
    | report r =>
      refine ⟨g, hg, ?_⟩
      unfold Link.take Link.push
      dsimp only
      split <;> rfl
    | reply e r =>
      refine ⟨fun p => g (if p.id = e then { p with reply := some r } else p), fun p => ?_, ?_⟩
      · obtain ⟨hid, hkind, htag⟩ := hg (if p.id = e then { p with reply := some r } else p)
        rw [hid, hkind, htag]
        split <;> exact ⟨rfl, rfl, rfl⟩
      · simp [Link.take, Link.form, Function.comp_def]
    | count e n => exact ⟨g, hg, rfl⟩

/-- A request whose owner's last message is its reply (R190): the blocks as the owner leaves them, and its entry answered
in the newest place, whatever other replies were formed. -/
theorem State.ask_last {q : Req} {kind : Byte} {f : Nat → Core → Core} {s : State} {st : Status} {b : Body} {c : Core}
    (h : Taken q s) (hf : f s.link.nextEntry (s.found q.us) = c.reply s.link.nextEntry st b) (hs : c.sig = []) :
    (s.ask q kind f).core = { c with out := [], sig := [] }
      ∧ ∃ p, (s.ask q kind f).link.pending.getLast? = some p ∧ p.kind = kind ∧ p.tag = q.tag
        ∧ p.reply = some { status := st, body := b } := by
  have hrun := State.run_of_sig_nil (f s.link.nextEntry) _ _
    (show f s.link.nextEntry { (s.entered q kind).core with out := [], sig := [] } = _ from hf) hs
  have hask : s.ask q kind f = (s.entered q kind).run (f s.link.nextEntry) := State.request_taken q kind _ s h
  obtain ⟨g, hg, hpending⟩ := Link.foldl_take_map c.out (s.entered q kind).link
  rw [hask, hrun]
  refine ⟨rfl, ?_⟩
  simp only [Link.pump_pending, Core.reply_out, List.foldl_append, List.foldl_cons, List.foldl_nil]
  simp only [Link.take, Link.form]
  rw [hpending]
  simp only [State.entered, List.map_append, List.map_cons, List.map_nil]
  obtain ⟨hid, hkind, htag⟩ := hg { id := s.link.nextEntry, kind := kind, tag := q.tag, reply := none }
  rw [List.getLast?_append, List.getLast?_singleton, if_pos hid]
  exact ⟨_, rfl, hkind, htag, rfl⟩

/-! ### The capture control unit's part -/

section
variable (s : Core)

/-- A record written goes to the newest end of the ring (R127). -/
theorem Core.writeRecord_of (r : Record) :
    ∃ os, s.writeRecord r = { s with cap := { s.cap with ring := s.cap.ring ++ [r] }, out := s.out ++ os }
      ∧ ∀ o ∈ os, o.isReply = false := by
  unfold Core.writeRecord
  dsimp only
  split
  · split
    · exact ⟨_, rfl, by simp [Out.isReply]⟩
    · exact ⟨[], by simp, by simp⟩
  · exact ⟨[], by simp, by simp⟩

/-- The records that an attempt ended ABORTED writes: its own, with a volume mounted (R124). -/
def Core.abortRecords (a : Attempt) (dose : DoseRecord) : List Record :=
  match s.mounted with
  | some (i, v) => [.capture (captureRecord i v a .aborted dose)]
  | none => []

/-- An attempt that ends ABORTED leaves its record, and CAPTURE_FAILED in the mounted volume's list (R124, R133). -/
theorem Core.recordAttempt_aborted (a : Attempt) (dose : DoseRecord) :
    ∃ os, s.recordAttempt a .aborted dose =
      ({ s with
        cap := { s.cap with ring := s.cap.ring ++ s.abortRecords a dose }
        out := s.out ++ os }).appendMounted .captureFailed a.opening 4 (some a.seq) := by
  unfold Core.recordAttempt Core.abortRecords
  cases s.mounted with
  | none => exact ⟨[], by simp [Core.tellOutcome, CaptureOutcome.code]⟩
  | some m =>
    obtain ⟨os, hos, -⟩ := s.writeRecord_of (Record.capture (captureRecord m.1 m.2 a .aborted dose))
    exact ⟨os, by simp [hos, Core.tellOutcome, CaptureOutcome.code]⟩

end

/-! ### Records through the reset -/

/-- Every record grows, and every free slot stays free. -/
def Core.Grows (s t : Core) : Prop := ∀ j : Fin 16, Option.Rel Volume.Grown s.vols.slots[j] t.vols.slots[j]

theorem Core.Grows.of_slots {s t : Core} (h : t.vols.slots = s.vols.slots) : Core.Grows s t := fun j => by
  rw [h]
  exact Volume.Grown.order.rel_refl _

theorem Core.Grows.trans {s t u : Core} (h : Core.Grows s t) (k : Core.Grows t u) : Core.Grows s u := fun j =>
  Volume.Grown.order.rel_trans (h j) (k j)

theorem Core.Grows.some_of {s t : Core} (h : Core.Grows s t) {i : Fin 16} {v : Volume} (hv : s.vols.slots[i] = some v) :
    ∃ w, t.vols.slots[i] = some w ∧ Volume.Grown v w :=
  Core.Ledger.some_of (s := { s with out := [] }) (t := { t with out := [] }) ⟨h, [], rfl, by simp⟩ hv

theorem Core.Grows.none_of {s t : Core} (h : Core.Grows s t) {i : Fin 16} (hv : s.vols.slots[i] = none) :
    t.vols.slots[i] = none :=
  Core.Ledger.none_of (s := { s with out := [] }) (t := { t with out := [] }) ⟨h, [], rfl, by simp⟩ hv

/-! ### The illumination unit's part -/

/-- What the illumination unit's part of the reset leaves of the other blocks (R91). -/
abbrev Core.DarkKeeps (s t : Core) : Prop :=
  t.vols.mounted = s.vols.mounted ∧ t.motion = s.motion ∧ t.meas = s.meas ∧ t.faults = s.faults ∧ t.first = s.first
    ∧ t.illum.staged = s.illum.staged ∧ t.illum.hold = s.illum.hold ∧ t.cap.ring = s.cap.ring

section
variable (s : Core)

theorem Core.keepDose_of (p : Core × DoseRecord) (a : Attempt) (h : p.1.cap.attempt = some a) :
    Core.keepDose p = { p.1 with cap := { p.1.cap with attempt := some { a with dose := some p.2 } } } := by
  simp only [Core.keepDose, h]

theorem Core.keepDose_cap (p : Core × DoseRecord) (s : Core) (a : Attempt) (hp : p.1.cap = s.cap)
    (h : s.cap.attempt = some a) :
    (Core.keepDose p).cap = { s.cap with attempt := some { a with dose := some p.2 } } := by
  rw [Core.keepDose_of p a (by rw [hp]; exact h), hp]

theorem Core.keepDose_dark (p : Core × DoseRecord) :
    Core.DarkKeeps p.1 (Core.keepDose p) ∧ (Core.keepDose p).vols = p.1.vols ∧ (Core.keepDose p).illum = p.1.illum := by
  unfold Core.keepDose Core.DarkKeeps
  split <;> simp

theorem Core.resetFlash_none (h : s.illum.flash = none) : s.resetFlash = s := by simp only [Core.resetFlash, h]

theorem Core.resetClosing_none (h : s.illum.closing = none) : s.resetClosing = s := by simp only [Core.resetClosing, h]

/-- A flash past its lamp-off is handed on, and none is left (R79, R91). -/
theorem Core.resetClosing_dark :
    Core.DarkKeeps s s.resetClosing ∧ Core.Grows s s.resetClosing ∧ s.resetClosing.illum.closing = none
      ∧ s.resetClosing.illum.flash = s.illum.flash := by
  unfold Core.resetClosing Core.DarkKeeps
  split
  next f hf =>
    cases hby : f.by_ with
    | capture side =>
      cases hadm : f.adm with
      | some adm =>
        obtain ⟨hkeeps, hvols, hillum⟩ := Core.keepDose_dark
          ({ s with illum := { s.illum with closing := none } }.chargeWindow adm none s.attemptSeq)
        refine ⟨by simp [hkeeps], ?_, by simp [hillum], by simp [hillum]⟩
        exact Core.Grows.trans (Core.chargeWindow_ledger { s with illum := { s.illum with closing := none } } adm none _).slots
          (.of_slots (by rw [hvols]))
      | none =>
        simp only [Core.handWindow, hf, hby, hadm]
        exact ⟨by simp, .of_slots rfl, by simp, by simp⟩
    | calibration e =>
      cases hadm : f.adm with
      | some adm =>
        simp only [Core.handWindow, hf, hby, hadm]
        exact ⟨by simp, (Core.tellFlash_ledger { s with illum := { s.illum with closing := none } }
          (usedLux adm.eApp s.meas.cal.p none).1 adm.dimmed adm.cause).slots, by simp, by simp⟩
      | none =>
        simp only [Core.handWindow, hf, hby, hadm]
        exact ⟨by simp, .of_slots rfl, by simp, by simp⟩
  next h => exact ⟨by simp, .of_slots rfl, h, rfl⟩

/-- The flash in hand ends (R90, R91). -/
theorem Core.resetFlash_dark :
    Core.DarkKeeps s s.resetFlash ∧ Core.Grows s s.resetFlash ∧ s.resetFlash.illum.flash = none
      ∧ s.resetFlash.illum.closing = s.illum.closing := by
  unfold Core.resetFlash Core.DarkKeeps
  split
  next f hf =>
    dsimp only
    split
    next adm _ _ _ =>
      obtain ⟨hkeeps, hvols, hillum⟩ := Core.keepDose_dark
        ({ s with illum := { s.illum with flash := none, lampOffAt := some s.now } }.chargeAborted adm (s.now - f.litAt)
          s.attemptSeq)
      refine ⟨by simp [hkeeps], ?_, by simp [hillum], by simp [hillum]⟩
      exact Core.Grows.trans (Core.chargeAborted_ledger { s with
        illum := { s.illum with flash := none, lampOffAt := some s.now } } adm _ _).slots (.of_slots (by rw [hvols]))
    next e adm _ _ _ =>
      exact ⟨by simp, (Core.tellFlash_ledger { s with
        illum := { s.illum with flash := none, lampOffAt := some s.now } } adm.eApp adm.dimmed adm.cause).slots,
        by simp, by simp⟩
    all_goals exact ⟨by simp, .of_slots rfl, by simp, by simp⟩
  next h => exact ⟨by simp, .of_slots rfl, h, rfl⟩

/-- A change of the view light's flags and forces, and the period that it closes or begins (R85). -/
theorem Core.withView_chargeKept (f : ViewLight → ViewLight) :
    Core.ChargeKeeps { s with illum := { s.illum with view := f s.illum.view } } (s.withView f) := by
  unfold Core.withView Core.ChargeKeeps
  dsimp only
  (repeat' split) <;> simp [Core.beginPeriod]

theorem Core.withView_ledger (f : ViewLight → ViewLight) : Core.Ledger Volume.Grown s (s.withView f) := by
  have hview : Core.Ledger Volume.Grown s { s with illum := { s.illum with view := f s.illum.view } } :=
    .of_eq Volume.Grown.order rfl rfl
  unfold Core.withView
  dsimp only
  (repeat' split)
  · exact hview
  · exact hview.trans Volume.Grown.order (Core.closePeriod_ledger _)
  · exact hview.trans Volume.Grown.order (Core.beginPeriodAt_ledger _ _)

/-- The illumination unit's whole part. -/
theorem Core.resetIllum_dark :
    Core.DarkKeeps s s.resetIllum ∧ Core.Grows s s.resetIllum ∧ s.resetIllum.illum.flash = none
      ∧ s.resetIllum.illum.closing = none ∧ s.resetIllum.illum.view.wanted = false := by
  obtain ⟨hkeeps, hgrows, hclosing, -⟩ := s.resetClosing_dark
  obtain ⟨hkeeps', hgrows', hflash, hclosing'⟩ := s.resetClosing.resetFlash_dark
  have hview := s.resetClosing.resetFlash.withView_chargeKept fun v => { v with wanted := false, suppressed := false }
  have hslots := (s.resetClosing.resetFlash.withView_ledger fun v => { v with wanted := false, suppressed := false }).slots
  refine ⟨by simp [Core.DarkKeeps, Core.resetIllum, hview, hkeeps', hkeeps], (hgrows.trans hgrows').trans hslots, ?_, ?_, ?_⟩
  · simp [Core.resetIllum, hview, hflash]
  · simp [Core.resetIllum, hview, hclosing', hclosing]
  · simp [Core.resetIllum, hview]

/-- With no lamp lit, no flash past its lamp-off and no period running, the accounts and the attempt stand (R26, R91). -/
theorem Core.resetIllum_unlit (hlife : s.illum.life ≠ .lit) (hclosing : s.illum.closing = none)
    (ha : s.dose.accrual = none) :
    s.resetIllum.vols = s.vols ∧ s.resetIllum.dose = s.dose ∧ s.resetIllum.cap = s.cap := by
  have hflash : s.resetFlash.vols = s.vols ∧ s.resetFlash.dose = s.dose ∧ s.resetFlash.cap = s.cap := by
    unfold Core.resetFlash
    split
    · dsimp only
      split
      next h _ _ => exact absurd h hlife
      next h _ _ => exact absurd h hlife
      all_goals exact ⟨rfl, rfl, rfl⟩
    · exact ⟨rfl, rfl, rfl⟩
  obtain ⟨hvols, hdose, hcap⟩ := hflash
  have hview : ∀ t : Core, t.dose.accrual = none →
      (t.withView fun v => { v with wanted := false, suppressed := false }) =
        { t with illum := { t.illum with view := { t.illum.view with wanted := false, suppressed := false } } } := by
    intro t ht
    unfold Core.withView
    dsimp only
    split
    · rw [if_neg (by simp [ViewLight.state]), Core.closePeriod_none _ (by exact ht)]
    · rw [Core.beginPeriod, Core.beginPeriodAt, if_neg (by simp [ViewLight.state])]
  rw [Core.resetIllum, Core.resetClosing_none s hclosing, hview _ (by rw [hdose]; exact ha)]
  exact ⟨hvols, hdose, hcap⟩

/-- A change of the view light's flags leaves the attempt and the ring. -/
theorem Core.resetIllum_cap : s.resetIllum.cap = s.resetClosing.resetFlash.cap := by
  have hview := s.resetClosing.resetFlash.withView_chargeKept fun v => { v with wanted := false, suppressed := false }
  simp [Core.resetIllum, hview]

/-- A lit flash cut off by the reset leaves its dose record with its attempt (R91, R133). -/
theorem Core.resetFlash_lit {a : Attempt} {f : Flash} {side : Side} {adm : Admission} (ha : s.cap.attempt = some a)
    (hlife : s.illum.life = .lit) (hf : s.illum.flash = some f) (hby : f.by_ = .capture side) (hadm : f.adm = some adm) :
    ∃ d, s.resetFlash.cap = { s.cap with attempt := some { a with dose := some d } } := by
  simp only [Core.resetFlash, hf, hlife, hby, hadm]
  exact ⟨_, Core.keepDose_cap _ s a (by simp) ha⟩

/-- A flash past its lamp-off leaves the nominal dose record with its attempt (R79, R91, R133). -/
theorem Core.resetClosing_nominal {a : Attempt} {f : Flash} {side : Side} {adm : Admission}
    (ha : s.cap.attempt = some a) (hf : s.illum.closing = some f) (hby : f.by_ = .capture side)
    (hadm : f.adm = some adm) :
    ∃ d : DoseRecord, d.eApp = adm.eApp ∧ d.cause = adm.cause ∧ d.source = .nominal
      ∧ s.resetClosing.cap = { s.cap with attempt := some { a with dose := some d } } := by
  simp only [Core.resetClosing, hf, hby, hadm]
  refine ⟨_, ?_, ?_, ?_, Core.keepDose_cap _ s a (by simp) ha⟩ <;> unfold Core.chargeWindow <;> split <;> rfl

/-! ### The capture control unit's part -/

/-- What the capture control unit's part leaves (R133): the ring grows at its newest end. -/
theorem Core.resetCapture_keeps :
    (s.resetCapture.vols.mounted = s.vols.mounted ∧ s.resetCapture.motion = s.motion ∧ s.resetCapture.meas = s.meas
      ∧ s.resetCapture.faults = s.faults ∧ s.resetCapture.first = s.first ∧ s.resetCapture.illum.flash = s.illum.flash
      ∧ s.resetCapture.illum.closing = s.illum.closing ∧ s.resetCapture.illum.staged = s.illum.staged
      ∧ s.resetCapture.illum.hold = s.illum.hold ∧ s.resetCapture.illum.view.wanted = s.illum.view.wanted)
    ∧ s.cap.ring <+: s.resetCapture.cap.ring ∧ Core.Grows s s.resetCapture := by
  unfold Core.resetCapture
  cases ha : s.cap.attempt with
  | none => exact ⟨by simp, by simp [Capture.toIdle], .of_slots rfl⟩
  | some a =>
    dsimp only
    split
    next d _ _ =>
      obtain ⟨os, hos⟩ := s.recordAttempt_aborted a d
      rw [hos]
      exact ⟨by simp, by simp [Capture.toIdle],
        (Core.appendMounted_ledger { s with
          cap := { s.cap with ring := s.cap.ring ++ s.abortRecords a d }, out := s.out ++ os }
          (some a.seq) .captureFailed a.opening 4).grown.slots⟩
    next => exact ⟨by simp, by simp [Capture.toIdle], .of_slots rfl⟩

/-- An attempt not lit writes no record. -/
theorem Core.resetCapture_unlit (h : ∀ a, s.cap.attempt = some a → a.phase.unlit = true) :
    s.resetCapture = { s with cap := { s.cap.toIdle with mark := none } } := by
  unfold Core.resetCapture
  cases ha : s.cap.attempt with
  | none => rfl
  | some a => simp only [h a ha]

/-- A lit attempt with its dose record leaves its record (R133). -/
theorem Core.resetCapture_lit {a : Attempt} {d : DoseRecord} {i : Fin 16} {v : Volume} (ha : s.cap.attempt = some a)
    (hlit : a.phase.unlit = false) (hd : a.dose = some d) (hm : s.mounted = some (i, v)) :
    s.resetCapture.cap.ring = s.cap.ring ++ [.capture (captureRecord i v a .aborted d)] := by
  obtain ⟨os, hos⟩ := s.recordAttempt_aborted a d
  simp [Core.resetCapture, ha, hlit, hd, hos, Core.abortRecords, hm, Capture.toIdle]

/-! ### The other units' parts -/

/-- The records, the accumulator, the capture control unit, the illumination unit and the fault set stand. -/
@[simp] abbrev Core.WorkKeeps (t : Core) : Prop :=
  t.vols = s.vols ∧ t.dose = s.dose ∧ t.cap = s.cap ∧ t.illum = s.illum ∧ t.faults = s.faults ∧ t.first = s.first
    ∧ t.meas.latch = s.meas.latch

theorem Core.angleStopped_workKeeps : Core.WorkKeeps s s.angleStopped
    ∧ s.angleStopped.motion.valveOpen = s.motion.valveOpen := by
  unfold Core.angleStopped
  split <;> simp

theorem Core.unreference_workKeeps (p : HomingPhase) (h : s.faults = []) : Core.WorkKeeps s (s.unreference p)
    ∧ (s.unreference p).motion.valveOpen = s.motion.valveOpen := by
  have hangle := s.angleStopped_workKeeps
  cases p with
  | platen =>
    rw [Core.unreference, Core.setPlaten_nil _ _ (by exact h), Core.tellRaise]
    split <;> simp
  | arm =>
    rw [Core.unreference, Core.setArm_nil _ _ _ h]
    simp
  | angleSensor =>
    rw [Core.unreference, Core.setAngle_nil _ _ (by simp [hangle, h])]
    simp [hangle]
  | angleTarget =>
    rw [Core.unreference, Core.setAngle_nil _ _ (by simp [hangle, h])]
    simp [hangle]
  | reference => exact ⟨by simp [Core.unreference, Core.withdraw], rfl⟩

/-- The cradle motion unit's part, with the fault set empty (R114, R177). -/
theorem Core.resetMotion_workKeeps (h : s.faults = []) : Core.WorkKeeps s s.resetMotion
    ∧ s.resetMotion.motion.valveOpen = s.motion.valveOpen := by
  have hbreak : Core.WorkKeeps s (s.breakHoming .aborted)
      ∧ (s.breakHoming .aborted).motion.valveOpen = s.motion.valveOpen := by
    unfold Core.breakHoming
    split
    next g _ => simp [Core.endHoming, s.unreference_workKeeps g.phase h]
    next => simp
  unfold Core.resetMotion
  dsimp only
  split
  · simp [(s.breakHoming .aborted).angleStopped_workKeeps, hbreak]
  · simp [hbreak]

theorem Core.dropMeasure_workKeeps (rs : List Requester) : Core.WorkKeeps s (rs.foldl Core.dropMeasure s)
    ∧ (rs.foldl Core.dropMeasure s).motion = s.motion := by
  induction rs generalizing s with
  | nil => simp
  | cons r rs ih =>
    have hr : Core.WorkKeeps s (s.dropMeasure r) ∧ (s.dropMeasure r).motion = s.motion := by
      cases r <;> simp [Core.dropMeasure]
    rw [List.foldl_cons]
    simp [ih (s.dropMeasure r), hr]

/-- The measurement unit's part: the spot of T that may begin lights no lamp (R68). -/
theorem Core.resetMeasure_workKeeps : Core.WorkKeeps s s.resetMeasure ∧ s.resetMeasure.motion = s.motion := by
  have hdrop := s.dropMeasure_workKeeps s.meas.allWaiting
  unfold Core.resetMeasure
  dsimp only
  split
  · rw [Core.post_free _ _ _ rfl rfl]
    simp [hdrop]
  · simp [hdrop]

/-! ### The whole reset -/

/-- The blocks once the illumination unit and the capture control unit have done their parts. -/
def Core.resetRecords : Core := { s with faults := [], first := none }.resetIllum.resetCapture

/-- The reset in its parts. -/
theorem Core.stationReset_eq : s.stationReset = s.resetRecords.resetMotion.resetMeasure.resetSequencer := rfl

/-- What the rest of the reset leaves as it is. -/
theorem Core.stationReset_workKeeps : Core.WorkKeeps s.resetRecords s.stationReset
    ∧ s.stationReset.motion.valveOpen = s.resetRecords.motion.valveOpen := by
  have hfaults : s.resetRecords.faults = [] := by
    obtain ⟨⟨-, -, -, hf, -⟩, -⟩ := Core.resetCapture_keeps { s with faults := [], first := none }.resetIllum
    obtain ⟨⟨-, -, -, hf', -⟩, -⟩ := Core.resetIllum_dark { s with faults := [], first := none }
    rw [Core.resetRecords, hf, hf']
  have hmotion := s.resetRecords.resetMotion_workKeeps hfaults
  have hmeas := s.resetRecords.resetMotion.resetMeasure_workKeeps
  rw [Core.stationReset_eq]
  simp [Core.resetSequencer, hmeas, hmotion]

/-- The cradle motion unit comes to rest (R114). -/
theorem Core.resetMotion_ends : s.resetMotion.motion.platen = .unreferenced ∧ s.resetMotion.motion.angle = .unreferenced
    ∧ s.resetMotion.motion.arm = .unreferenced ∧ s.resetMotion.motion.turn = none
    ∧ s.resetMotion.motion.homing = none := ⟨rfl, rfl, rfl, rfl, rfl⟩

/-- No attempt and no mark is in hand (R133). -/
theorem Core.resetCapture_ends : s.resetCapture.cap.attempt = none ∧ s.resetCapture.cap.mark = none := ⟨rfl, rfl⟩

/-- The queue is empty and no step is in hand (R155). -/
theorem Core.resetSequencer_ends : s.resetSequencer.motion = s.motion ∧ s.resetSequencer.seq.queue = [] ∧ s.resetSequencer.seq.state = .idle
    ∧ s.resetSequencer.seq.awaiting = none ∧ s.resetSequencer.seq.interlock = false ∧ s.resetSequencer.sig = [] :=
  ⟨rfl, rfl, rfl, rfl, rfl, rfl⟩

/-- The end of all work. -/
theorem Core.stationReset_ends : (s.stationReset.seq.queue = [] ∧ s.stationReset.seq.state = .idle
      ∧ s.stationReset.seq.awaiting = none ∧ s.stationReset.seq.interlock = false ∧ s.stationReset.sig = [])
    ∧ (s.stationReset.motion.platen = .unreferenced ∧ s.stationReset.motion.angle = .unreferenced
      ∧ s.stationReset.motion.arm = .unreferenced ∧ s.stationReset.motion.turn = none
      ∧ s.stationReset.motion.homing = none)
    ∧ s.stationReset.cap.attempt = none ∧ s.stationReset.cap.mark = none := by
  obtain ⟨⟨-, -, hcap, -⟩, -⟩ := s.stationReset_workKeeps
  obtain ⟨hmotion, hseq⟩ := s.resetRecords.resetMotion.resetMeasure.resetSequencer_ends
  obtain ⟨-, hmotion'⟩ := s.resetRecords.resetMotion.resetMeasure_workKeeps
  rw [hcap]
  refine ⟨hseq, ?_, Core.resetCapture_ends _⟩
  rw [Core.stationReset_eq, hmotion, hmotion']
  exact Core.resetMotion_ends _

/-- What the reset leaves of the other blocks (R6, R68, R91, R114, R133). -/
theorem Core.stationReset_leaves : s.stationReset.faults = [] ∧ s.stationReset.first = none
    ∧ s.stationReset.motion.valveOpen = s.motion.valveOpen ∧ s.cap.ring <+: s.stationReset.cap.ring
    ∧ s.stationReset.illum.flash = none ∧ s.stationReset.illum.closing = none
    ∧ s.stationReset.illum.view.wanted = false ∧ s.stationReset.illum.staged = s.illum.staged
    ∧ s.stationReset.illum.hold = s.illum.hold ∧ s.stationReset.meas.latch = s.meas.latch
    ∧ s.stationReset.vols.mounted = s.vols.mounted ∧ Core.Grows s s.stationReset := by
  obtain ⟨hkeeps, hgrows, hflash, hclosing, hwanted⟩ := Core.resetIllum_dark { s with faults := [], first := none }
  obtain ⟨hkeeps', hring, hgrows'⟩ := Core.resetCapture_keeps { s with faults := [], first := none }.resetIllum
  obtain ⟨⟨hvols, -, hcap, hillum, hfaults, hfirst, hlatch⟩, hvalve⟩ := s.stationReset_workKeeps
  rw [hvols, hcap, hillum, hfaults, hfirst, hlatch, hvalve]
  have hslots : Core.Grows s s.resetRecords := Core.Grows.trans hgrows hgrows'
  refine ⟨by simp [Core.resetRecords, hkeeps', hkeeps], by simp [Core.resetRecords, hkeeps', hkeeps],
    by simp [Core.resetRecords, hkeeps', hkeeps], ?_, by simp [Core.resetRecords, hkeeps', hflash],
    by simp [Core.resetRecords, hkeeps', hclosing], by simp [Core.resetRecords, hkeeps', hwanted],
    by simp [Core.resetRecords, hkeeps', hkeeps], by simp [Core.resetRecords, hkeeps', hkeeps],
    by simp [Core.resetRecords, hkeeps', hkeeps], by simp [Core.resetRecords, hkeeps', hkeeps], ?_⟩
  · obtain ⟨-, -, -, -, -, -, -, hring'⟩ := hkeeps
    rwa [hring'] at hring
  · exact fun j => by rw [hvols]; exact hslots j

/-- With nothing lit and no period running, the volume table, A_open and the ring stand (R6, R26, R133). -/
theorem Core.stationReset_unlit (hlife : s.illum.life ≠ .lit) (hclosing : s.illum.closing = none)
    (ha : s.dose.accrual = none) (hunlit : ∀ a, s.cap.attempt = some a → a.phase.unlit = true) :
    s.stationReset.vols = s.vols ∧ s.stationReset.dose = s.dose ∧ s.stationReset.cap.ring = s.cap.ring := by
  obtain ⟨⟨hvols, hdose, hcap, -⟩, -⟩ := s.stationReset_workKeeps
  obtain ⟨hvols', hdose', hcap'⟩ :=
    Core.resetIllum_unlit { s with faults := [], first := none } (by exact hlife) (by exact hclosing) (by exact ha)
  rw [hvols, hdose, hcap, Core.resetRecords, Core.resetCapture_unlit _ (by rw [hcap']; exact hunlit)]
  exact ⟨hvols', hdose', by simp [Capture.toIdle, hcap']⟩

/-- An attempt that comes lit, with its dose record, to the capture control unit's part leaves its record (R133). -/
theorem Core.stationReset_lit {a : Attempt} {d : DoseRecord} {i : Fin 16} {v : Volume} (hlit : a.phase.unlit = false)
    (hm : s.vols.mounted = some i) (hv : s.vols.slots[i] = some v)
    (hcap : { s with faults := [], first := none }.resetIllum.cap = { s.cap with attempt := some { a with dose := some d } }) :
    ∃ r : CaptureRecord, s.stationReset.cap.ring = s.cap.ring ++ [.capture r] ∧ r.dose = d ∧ r.seq = a.seq
      ∧ r.stamp = a.litStamp ∧ r.slot = i.val ∧ r.inst = v.inst ∧ r.opening = a.opening ∧ r.number = a.number
      ∧ r.outcome = .aborted := by
  obtain ⟨⟨-, -, hcap', -⟩, -⟩ := s.stationReset_workKeeps
  obtain ⟨⟨hmounted, -⟩, hgrows, -⟩ := Core.resetIllum_dark { s with faults := [], first := none }
  obtain ⟨w, hw, hgrown⟩ := Core.Grows.some_of hgrows hv
  have hring := Core.resetCapture_lit { s with faults := [], first := none }.resetIllum (a := { a with dose := some d })
    (by rw [hcap]) hlit rfl (Core.mounted_of _ i w (by rw [hmounted]; exact hm) hw)
  refine ⟨captureRecord i w { a with dose := some d } .aborted d, ?_, rfl, rfl, rfl, rfl, ?_, rfl, rfl, rfl⟩
  · rw [hcap', Core.resetRecords, hring, hcap]
  · show w.inst = v.inst
    rw [hgrown.same]

end

section
variable {s : State} {q : Req}

/-- Settles O13, from what each unit's part of the reset leaves, and the record of a lit attempt. -/
theorem stationResetKeepsAccounts : Obligations.StationResetKeepsAccounts := by
  intro q s h
  obtain ⟨-, -, hpanel, hbands, hclasses, hinst, hframe, heOp, hlamp, hcal⟩ := Core.stationReset_kept (s.found q.us)
  obtain ⟨⟨hqueue, hstate, hawaiting, hinterlock, hsig⟩, ⟨hplaten, hangle, harm, hturn, hhoming⟩, hattempt, hmark⟩ :=
    (s.found q.us).stationReset_ends
  obtain ⟨hfaults, hfirst, hvalve, hring, hflash, hclosing, hwanted, hstaged, hhold, hlatch, hmounted, hgrows⟩ :=
    (s.found q.us).stationReset_leaves
  obtain ⟨hcore, hlast⟩ := State.ask_last (kind := 0x04) (f := fun id c => c.stationReset.reply id .done .empty)
    (c := (s.found q.us).stationReset) h rfl hsig
  refine ⟨_, rfl, ?_⟩
  rw [hcore]
  dsimp only
  refine ⟨hqueue, hstate, hawaiting, hinterlock, hfaults, hfirst, hplaten, hangle, harm, hturn, hhoming, hvalve,
    hattempt, hmark, hring, hflash, hclosing, hwanted, hstaged, hhold, heOp, hlamp, hlatch, hcal, hclasses, hinst,
    hmounted, hframe, hbands, hpanel, hlast, fun j hj => hgrows.none_of hj, ?record, ?unlit, ?lit, ?collecting⟩
  case record =>
    intro j v hv
    obtain ⟨w, hw, hgrown⟩ := hgrows.some_of hv
    refine ⟨w, hw, ?_⟩
    have hsame := hgrown.same
    refine ⟨by rw [hsame], by rw [hsame], by rw [hsame], by rw [hsame], by rw [hsame], by rw [hsame], by rw [hsame],
      by rw [hsame], by rw [hsame], by rw [hsame], fun hu => (hgrown.uF hu).1, fun hu => (hgrown.uV hu).1,
      hgrown.exceptions⟩
  case unlit =>
    intro hlife hnone hdark hphase
    refine (s.found q.us).stationReset_unlit hlife hnone hdark fun a ha => ?_
    obtain ⟨hlit, hcollecting⟩ := hphase a ha
    cases hp : a.phase with
    | lit => exact absurd hp hlit
    | collecting => exact absurd hp hcollecting
    | ringWait => rfl
    | preparing => rfl
    | admitting => rfl
  case lit =>
    intro a f side adm i v ha hphase hlife hf hby hadm hnone hm hv
    have hfirst := Core.resetClosing_none { s.found q.us with faults := [], first := none } hnone
    obtain ⟨d, hd⟩ := Core.resetFlash_lit { s.found q.us with faults := [], first := none } ha hlife hf hby hadm
    obtain ⟨r, hr, -, hrest⟩ := (s.found q.us).stationReset_lit (a := a) (d := d) (by rw [hphase]; rfl) hm hv
      (by rw [Core.resetIllum_cap, hfirst, hd])
    exact ⟨r, hr, hrest⟩
  case collecting =>
    intro a i v ha hphase hflash hm hv
    refine ⟨fun d hd hnone => ?_, fun f side adm hd hclosing hby hadm => ?_⟩
    · have hfirst := Core.resetClosing_none { s.found q.us with faults := [], first := none } hnone
      have hcap : (s.found q.us).cap = { s.core.cap with attempt := some { a with dose := some d } } := by
        rw [← hd, ← ha]
        rfl
      exact (s.found q.us).stationReset_lit (a := a) (by rw [hphase]; rfl) hm hv
        (by rw [Core.resetIllum_cap, hfirst, Core.resetFlash_none _ (by exact hflash)]; exact hcap)
    · obtain ⟨d, heApp, hcause, hsource, hd⟩ :=
        Core.resetClosing_nominal { s.found q.us with faults := [], first := none } ha hclosing hby hadm
      obtain ⟨-, -, -, hflash'⟩ := Core.resetClosing_dark { s.found q.us with faults := [], first := none }
      obtain ⟨r, hr, hdose, hrest⟩ := (s.found q.us).stationReset_lit (a := a) (d := d) (by rw [hphase]; rfl) hm hv
        (by rw [Core.resetIllum_cap, Core.resetFlash_none _ (by rw [hflash']; exact hflash), hd])
      subst hdose
      exact ⟨r, hr, heApp, hcause, hsource, hrest⟩

end

end Sys2Proof.Machine
end

section
/-! PROOF. The end of a put-down (O43), and the layer under the statements on turns and keys: what a command's messages
make of the reports and the counters, and the places of the exception pool. -/

namespace Sys2Proof.Machine

/-! ### The messages of a command -/

/-- The report that a message carries. -/
def Out.asReport : Out → Option Report
  | .report r => some r
  | _ => none

/-- Messages of a command leave the frame being sent. -/
theorem Link.foldl_take_tx (os : List Out) (l : Link) : (os.foldl Link.take l).tx = l.tx := by
  induction os generalizing l with
  | nil => rfl
  | cons o os ih =>
    obtain ⟨-, htx, -⟩ := l.take_keeps o
    rw [List.foldl_cons, ih, htx]

/-- With room for them in the queue, the reports of a command stand in it in order (R194). -/
theorem Link.foldl_take_reports (os : List Out) (l : Link)
    (h : l.reports.length + (os.filterMap Out.asReport).length ≤ 32) :
    (os.foldl Link.take l).reports = l.reports ++ os.filterMap Out.asReport := by
  induction os generalizing l with
  | nil => simp
  | cons o os ih =>
    cases o with
    | report r =>
      simp only [List.filterMap_cons, Out.asReport, List.length_cons] at h
      have hpush : (l.take (.report r)).reports = l.reports ++ [r] := by
        simp only [Link.take, Link.push]
        rw [if_pos (by omega)]
      rw [List.foldl_cons, ih _ (by rw [hpush, List.length_append, List.length_singleton]; omega), hpush]
      simp [Out.asReport]
    | reply e r =>
      simp only [List.filterMap_cons, Out.asReport] at h ⊢
      exact ih (l.form e r) h
    | count e n =>
      simp only [List.filterMap_cons, Out.asReport] at h ⊢
      exact ih l h

/-- A busy transmitter takes nothing from the queue (R193). -/
theorem Link.pump_reports_of_busy {l : Link} (h : l.tx ≠ none) : l.pump = l := by
  unfold Link.pump
  split
  · rfl
  next hnone => exact absurd hnone h

/-- While a frame is sent, the reports of a command stand in the queue in order when there is room for them. -/
theorem State.reports_of_busy {os : List Out} {l : Link} (htx : l.tx ≠ none)
    (h : l.reports.length + (os.filterMap Out.asReport).length ≤ 32) :
    ((os.foldl Link.take l).pump).reports = l.reports ++ os.filterMap Out.asReport := by
  rw [Link.pump_reports_of_busy (by rwa [Link.foldl_take_tx]), Link.foldl_take_reports os l h]

/-- Reports count nothing. -/
theorem takeCounts_reports {os : List Out} (h : ∀ o ∈ os, ∃ r, o = .report r) (cs : Vector Counter 4) :
    os.foldl takeCounts cs = cs := by
  induction os with
  | nil => rfl
  | cons o os ih =>
    obtain ⟨r, rfl⟩ := h o (by simp)
    exact ih fun o ho => h o (by simp [ho])

/-- An event that hands nothing between the units: its blocks, and its messages handed over. -/
theorem State.event_next {us : Nat} {f : Core → Core} {s : State} {c : Core} (hf : f (s.found us) = c) (hs : c.sig = []) :
    (.next (s.event us f) : Result') = .next { s with
      core := { c with out := [], sig := [] }
      link := (c.out.foldl Link.take s.link).pump
      counters := c.out.foldl takeCounts s.counters } :=
  congrArg _ (State.run_of_sig_nil _ s c hf hs)

/-! ### The exception pool -/

section
variable (s : Core) (i : Fin 16)

theorem sum_map_set {α : Type} (f : α → Nat) (l : List α) (n : Nat) (h : n < l.length) (x : α) (k : Nat)
    (hk : f x = f l[n] + k) : ((l.set n x).map f).sum = (l.map f).sum + k := by
  induction l generalizing n with
  | nil => exact absurd h (by simp)
  | cons y l ih =>
    cases n with
    | zero =>
      simp only [List.getElem_cons_zero] at hk
      simp only [List.set_cons_zero, List.map_cons, List.sum_cons, hk]
      omega
    | succ n =>
      simp only [List.length_cons, Nat.add_lt_add_iff_right] at h
      simp only [List.set_cons_succ, List.map_cons, List.sum_cons, ih n h (by simpa using hk)]
      omega

/-- A record that takes `k` entries takes them from the pool (R22). -/
theorem Core.freeExceptions_setSlot {v w : Volume} {k : Nat} (hv : s.vols.slots[i] = some v)
    (hk : w.exceptions.length = v.exceptions.length + k) :
    (s.setSlot i (some w)).freeExceptions = s.freeExceptions - k := by
  have hlen : i.val < s.vols.slots.toList.length := by simp
  have hget : s.vols.slots.toList[i.val] = some v := by simpa using hv
  simp only [Core.freeExceptions, Core.setSlot]
  have hslots : (s.vols.slots.set i (some w)).toList = s.vols.slots.toList.set i.val (some w) := Vector.toList_set _
  rw [hslots, sum_map_set _ s.vols.slots.toList i.val hlen (some w) k (by rw [hget]; exact hk), Nat.sub_add_eq]

end

/-! ### The end of a put-down -/

section
variable (s : Core) (t : Turn) (i : Fin 16) (v : Volume)

/-- A motion of the arm begins with the curtain CLEAR and no fault in the set (R109). -/
theorem Core.startArm_clear (m : ArmMove) (stage : ArmStage) (hb : s.panel.broken = false) (hf : s.faults = []) :
    s.startArm m stage =
      { s with motion := { s.motion with arm := .moving m, stage := stage, armSince := s.now } } := by
  rw [Core.startArm, hb, Core.setArm_nil _ _ _ hf]
  rfl

/-- The exceptions of a failed attempt (R104). -/
def PutDown.exceptions (t : Turn) (stamp : Stamp) : PutDown → List ExceptionEntry
  | .lostLeaf => [{ kind := .noPick, opening := t.opening, detail := t.attempt, seq := none, stamp := stamp }]
  | .doublePick tg => [{ kind := .doublePick, opening := t.opening, detail := tg, seq := none, stamp := stamp }]
  | _ => []

/-- The double picks tallied after a put-down (R21). -/
def PutDown.picks (n : Nat) (why : PutDown) : Nat := if why.many then bump n else n

/-- The counts of a failed attempt (R181). -/
def PutDown.counts (why : PutDown) : List Out :=
  .count .turnRetries 0 :: if why.many then [.count .doublePicks 0] else []

/-- The record after a failed attempt (R21, R104). -/
def Volume.failed (why : PutDown) (t : Turn) (stamp : Stamp) (v : Volume) : Volume :=
  { v with tallies := { v.tallies with doublePicks := why.picks v.tallies.doublePicks },
           exceptions := v.exceptions ++ why.exceptions t stamp }

/-- A failed attempt counted, with room in the pool and details of 32 bits (R104). -/
theorem Core.countFailure_of (why : PutDown) (hm : s.vols.mounted = some i) (hv : s.vols.slots[i] = some v)
    (hroom : (why.exceptions t s.stamp).length ≤ s.freeExceptions)
    (hd : ∀ e ∈ why.exceptions t s.stamp, e.detail ≤ 4294967295) :
    s.countFailure why t =
      { s.setSlot i (some (v.failed why t s.stamp)) with out := s.out ++ why.counts } := by
  have htell := Core.appendMounted_of (s.tell .turnRetries 0) i v
  cases why with
  | lostLeaf =>
    simp only [Core.countFailure]
    rw [htell _ _ _ _ hm hv (by exact hroom) (by simpa [PutDown.exceptions] using hd)]
    rfl
  | doublePick tg =>
    simp only [Core.countFailure]
    rw [htell _ _ _ _ hm hv (by exact hroom) (by simpa [PutDown.exceptions] using hd),
      Core.editMounted_of _ i _ _ (by exact hm) (Core.setSlot_get _ _ _), Core.setSlot_setSlot]
    simp [Core.tell, Core.emit, Core.setSlot, Volume.failed, PutDown.picks, PutDown.many, PutDown.counts,
      PutDown.exceptions, Core.stamp]
  | gaugeFault =>
    have hself : v.failed .gaugeFault t s.stamp = v := by simp [Volume.failed, PutDown.picks, PutDown.many, PutDown.exceptions]
    rw [hself, Core.setSlot_self s i _ hv]
    rfl
  | aborted =>
    have hself : v.failed .aborted t s.stamp = v := by simp [Volume.failed, PutDown.picks, PutDown.many, PutDown.exceptions]
    rw [hself, Core.setSlot_self s i _ hv]
    rfl

/-- A hold entered with no PAUSE running, with its HOLD report unless it stands already (R139, R171). -/
theorem Core.enterHold_still (r : HoldReason) (hp : s.seq.pause = none) :
    ∃ os, s.enterHold r = { s with seq := { s.seq with state := .held, reason := some r }, out := s.out ++ os }
      ∧ (∀ o ∈ os, ∃ r, o = .report r) ∧ os.length ≤ 1 := by
  unfold Core.enterHold
  split
  next h =>
    obtain ⟨hstate, hreason⟩ := h
    exact ⟨[], by simp [← hstate, ← hreason], by simp, by simp⟩
  next =>
    rw [Core.setHold_still s r hp]
    exact ⟨_, rfl, by simp, by simp⟩

/-- Assistance that the motion unit gives, with no PAUSE running (R149, R178, R179). -/
theorem Core.giveAssist_of (k : AssistKind) (hp : s.seq.pause = none) :
    ∃ os, s.giveAssist k t = { s with
        motion := { s.motion with turn := some t }
        seq := { s.seq with state := .held, reason := some .assist }
        out := s.out ++ os }
      ∧ (∀ o ∈ os, ∃ r, o = .report r) ∧ os.length ≤ 2
      ∧ (s.assistPending k = false →
          .report (.assist k s.stamp s.headId (s.mounted.map fun m => (m.1.val, m.2.cursor)) (some t.opening)) ∈ os) := by
  simp only [Core.giveAssist]
  cases hk : s.assistPending k with
  | true =>
    obtain ⟨os, hos, hreports, hlen⟩ := Core.enterHold_still { s with motion := { s.motion with turn := some t } } .assist hp
    exact ⟨os, hos, hreports, by omega, by simp⟩
  | false =>
    obtain ⟨os, hos, hreports, hlen⟩ := Core.enterHold_still
      ({ s with motion := { s.motion with turn := some t } }.reportAssist k (some t.opening)) .assist hp
    refine ⟨_ :: os, ?_, ?_, by simpa using hlen, fun _ => List.mem_cons_self⟩
    · rw [if_neg (by simp), hos]
      simp only [Core.reportAssist, Core.report, Core.emit, List.append_assoc, List.singleton_append]
      rfl
    · simpa using hreports

/-- What follows a failed attempt that has been counted, `t` being the turn with its retries counted (R104). -/
def Core.attemptOver (t : Turn) (s : Core) : Core :=
  let s := { s with motion := { s.motion with turn := some t } }
  if t.aborting then s.beginReturn
  else if t.retries ≤ (s.cls.map (·.retryLimit)).getD 0 then
    { s with motion := { s.motion with turn := some { t with attempt := t.attempt + 1 } } }.startArm .lifting .descend
  else
    let s := s.appendMounted .turnFailed t.opening (t.retries - 1) none
    (s.giveAssist .turnFailed { t with failed := true }).beginReturn

theorem Core.attemptFailed_eq (why : PutDown) : s.attemptFailed why t =
    (s.countFailure why t).attemptOver { t with retries := t.retries + 1, many := t.many || why.many } := rfl

/-- With retries left the next attempt starts (R104). -/
theorem Core.attemptOver_retry (c : ClassFields) (ha : t.aborting = false) (hc : s.cls = some c)
    (hb : s.panel.broken = false) (hf : s.faults = []) (hretry : t.retries ≤ c.retryLimit) :
    s.attemptOver t = { s with motion := { s.motion with
        turn := some { t with attempt := t.attempt + 1 }
        arm := .moving .lifting, stage := .descend, armSince := s.now } } := by
  have hleft : t.retries ≤ (s.cls.map (·.retryLimit)).getD 0 := by rwa [hc]
  simp only [Core.attemptOver, ha]
  rw [if_neg (by simp), if_pos (by exact hleft), Core.startArm_clear _ _ _ (by exact hb) (by exact hf)]

/-- With no retry left the turn has failed, and the arm returns (R104, R149, R179). -/
theorem Core.attemptOver_failed (c : ClassFields) (ha : t.aborting = false) (hc : s.cls = some c)
    (hm : s.vols.mounted = some i) (hv : s.vols.slots[i] = some v) (hb : s.panel.broken = false) (hf : s.faults = [])
    (hp : s.seq.pause = none) (hroom : 0 < s.freeExceptions) (hretry : c.retryLimit < t.retries)
    (ht : t.retries - 1 ≤ 4294967295) :
    ∃ os, s.attemptOver t = { s.setSlot i (some { v with exceptions := v.exceptions ++
            [{ kind := .turnFailed, opening := t.opening, detail := t.retries - 1, seq := none, stamp := s.stamp }] }) with
        motion := { s.motion with
          turn := some { t with failed := true }, arm := .moving .returning, stage := .travel, armSince := s.now }
        seq := { s.seq with state := .held, reason := some .assist }
        out := s.out ++ os }
      ∧ (∀ o ∈ os, ∃ r, o = .report r) ∧ os.length ≤ 2
      ∧ (t.failed = false → s.seq.awaiting = none →
          .report (.assist .turnFailed s.stamp s.headId (some (i.val, v.cursor)) (some t.opening)) ∈ os) := by
  have hleft : ¬ t.retries ≤ (s.cls.map (·.retryLimit)).getD 0 := by
    rw [hc]
    exact Nat.not_le.2 hretry
  have happend := Core.appendMounted_of { s with motion := { s.motion with turn := some t } } i v .turnFailed t.opening
    (t.retries - 1) none hm hv hroom ht
  obtain ⟨os, hos, hreports, hlen, hassist⟩ := Core.giveAssist_of
    ({ s with motion := { s.motion with turn := some t } }.appendMounted .turnFailed t.opening (t.retries - 1) none)
    { t with failed := true } .turnFailed (by rw [happend]; exact hp)
  have hover : s.attemptOver t =
      (({ s with motion := { s.motion with turn := some t } }.appendMounted .turnFailed t.opening (t.retries - 1)
        none).giveAssist .turnFailed { t with failed := true }).beginReturn :=
    (if_neg (by simp [ha])).trans (if_neg hleft)
  refine ⟨os, ?_, hreports, hlen, fun hfailed hawaiting => ?_⟩
  · rw [hover, hos, Core.beginReturn, happend,
      Core.startArm_clear _ _ _ (by exact hb) (by exact hf)]
    rfl
  · have hnew := hassist (by
      rw [happend]
      simp [Core.assistPending, Core.setSlot, hfailed, hawaiting])
    rw [happend, Core.mounted_of _ i _ (by exact hm) (Core.setSlot_get _ _ _)] at hnew
    exact hnew

end

theorem bump_of_lt {n : Nat} (h : n < 4294967295) : bump n = n + 1 := by
  unfold bump satAdd max32
  omega

/-- One event counted by a counter that counts every one (R181). -/
theorem Counter.take_plain (e : CounterEvent) (c : Counter) (hf : e ≠ .flashLux) (ht : e ≠ .tempSamples)
    (hq : e ≠ .queueDepth) : c.take e 0 = if c.enable && c.event == e then c.add 1 else c := by
  unfold Counter.take
  split
  · cases e with
    | flashLux => exact absurd rfl hf
    | tempSamples => exact absurd rfl ht
    | queueDepth => exact absurd rfl hq
    | _ => rfl
  · rfl

theorem Counter.add_event (n : Nat) (c : Counter) : (c.add n).event = c.event := by
  unfold Counter.add
  split <;> rfl

/-- A retry and a double pick at one counter: at most one of the two is its event. -/
theorem Counter.take_retry_double (c : Counter) : (c.take .turnRetries 0).take .doublePicks 0 =
    if c.enable && (c.event == .turnRetries || c.event == .doublePicks) then c.add 1 else c := by
  rw [Counter.take_plain .turnRetries _ (by decide) (by decide) (by decide),
    Counter.take_plain .doublePicks _ (by decide) (by decide) (by decide)]
  by_cases hretry : c.enable = true ∧ c.event = .turnRetries
  · obtain ⟨he, hr⟩ := hretry
    simp [he, hr, Counter.add_event]
  · by_cases he : c.enable = true
    · have hr : c.event ≠ .turnRetries := fun hr => hretry ⟨he, hr⟩
      simp [he, hr]
    · simp [he]

theorem takeCounts_get (cs : Vector Counter 4) (e : CounterEvent) (n : Int) (j : Fin 4) :
    (takeCounts cs (.count e n))[j] = (cs[j]).take e n := by simp [takeCounts]

/-- A failed attempt at the counters (R181): one retry, and one double pick after MANY. -/
theorem PutDown.counts_get (why : PutDown) (cs : Vector Counter 4) (j : Fin 4) :
    (why.counts.foldl takeCounts cs)[j] =
      if (cs[j]).enable && ((cs[j]).event == .turnRetries || ((cs[j]).event == .doublePicks && why.many)) then
        (cs[j]).add 1
      else cs[j] := by
  cases hmany : why.many with
  | false =>
    simp only [PutDown.counts, hmany, Bool.false_eq_true, if_false, List.foldl_cons, List.foldl_nil, takeCounts_get,
      Bool.and_false, Bool.or_false]
    exact Counter.take_plain .turnRetries (cs[j]) (by decide) (by decide) (by decide)
  | true =>
    simp only [PutDown.counts, hmany, if_true, List.foldl_cons, List.foldl_nil, takeCounts_get, Bool.and_true]
    exact Counter.take_retry_double (cs[j])

/-- The exceptions, the mark of MANY, the double picks and the counts of the three put-downs that fail an attempt. -/
def PutDown.Fails (t : Turn) (v : Volume) (stamp : Stamp) (why : PutDown) (es : List ExceptionEntry)
    (many double : Bool) (picks : Nat) : Prop :=
  es = why.exceptions t stamp ∧ many = (t.many || why.many) ∧ double = why.many ∧ picks = why.picks v.tallies.doublePicks
    ∧ ∀ e ∈ es, e.detail ≤ 4294967295

/-- A put-down that completes (R104, R111): the valve closes, and the arm returns or the attempt has failed. -/
theorem Core.putDownOver_of {s : Core} {m : ArmMove} {why : PutDown} {t : Turn} (harm : s.motion.arm = .moving m)
    (hstage : s.motion.stage = .putDown why) (hturn : s.motion.turn = some t) (hm : m = .lifting ∨ m = .gauging) :
    s.putDownOver =
      if why = .aborted then { s with motion := { s.motion with valveOpen := false } }.beginReturn
      else { s with motion := { s.motion with valveOpen := false } }.attemptFailed why t := by
  unfold Core.putDownOver
  rw [harm, hstage, hturn]
  exact if_pos hm

section
variable {s : Core} {m : ArmMove} {why : PutDown} {t : Turn} {i : Fin 16} {v : Volume} {c : ClassFields}
  (harm : s.motion.arm = .moving m) (hstage : s.motion.stage = .putDown why) (hturn : s.motion.turn = some t)
  (hm : m = .lifting ∨ m = .gauging) (hwhy : why ≠ .aborted) (ha : t.aborting = false)
  (hmounted : s.vols.mounted = some i) (hv : s.vols.slots[i] = some v) (hc : s.vols.classes[v.cls] = some c)
  (hb : s.panel.broken = false) (hf : s.faults = []) (hd : ∀ e ∈ why.exceptions t s.stamp, e.detail ≤ 4294967295)
include harm hstage hturn hm hwhy ha hmounted hv hc hb hf hd

/-- A put-down completes with retries left (R104). -/
theorem Core.putDownOver_retry (hroom : (why.exceptions t s.stamp).length ≤ s.freeExceptions)
    (hretry : t.retries + 1 ≤ c.retryLimit) :
    s.putDownOver = { s.setSlot i (some (v.failed why t s.stamp)) with
      motion := { s.motion with
        turn := some { t with retries := t.retries + 1, attempt := t.attempt + 1, many := t.many || why.many }
        valveOpen := false, arm := .moving .lifting, stage := .descend, armSince := s.now }
      out := s.out ++ why.counts } := by
  rw [Core.putDownOver_of harm hstage hturn hm, if_neg hwhy, Core.attemptFailed_eq,
    Core.countFailure_of _ t i v why (by exact hmounted) (by exact hv) (by exact hroom) (by exact hd)]
  exact Core.attemptOver_retry _ _ c ha
    (Core.cls_of _ i (v.failed why t s.stamp) c hmounted (Core.setSlot_get _ _ _) hc) hb hf hretry

/-- A put-down completes with no retry left (R104, R149, R179). -/
theorem Core.putDownOver_failed (hroom : (why.exceptions t s.stamp).length + 1 ≤ s.freeExceptions)
    (hp : s.seq.pause = none) (hretry : c.retryLimit < t.retries + 1) (ht : t.retries ≤ 4294967295) :
    ∃ os, s.putDownOver = { s.setSlot i (some { v.failed why t s.stamp with
            exceptions := v.exceptions ++ why.exceptions t s.stamp ++
              [{ kind := .turnFailed, opening := t.opening, detail := t.retries, seq := none, stamp := s.stamp }] }) with
        motion := { s.motion with
          turn := some { t with retries := t.retries + 1, many := t.many || why.many, failed := true }
          valveOpen := false, arm := .moving .returning, stage := .travel, armSince := s.now }
        seq := { s.seq with state := .held, reason := some .assist }
        out := s.out ++ why.counts ++ os }
      ∧ (∀ o ∈ os, ∃ r, o = .report r) ∧ os.length ≤ 2
      ∧ (t.failed = false → s.seq.awaiting = none →
          .report (.assist .turnFailed s.stamp s.headId (some (i.val, v.cursor)) (some t.opening)) ∈ os) := by
  have hfree := Core.freeExceptions_setSlot s i (w := v.failed why t s.stamp) hv (List.length_append ..)
  obtain ⟨os, hos, hrest⟩ := Core.attemptOver_failed
    { s.setSlot i (some (v.failed why t s.stamp)) with
      motion := { s.motion with valveOpen := false }, out := s.out ++ why.counts }
    { t with retries := t.retries + 1, many := t.many || why.many } i (v.failed why t s.stamp) c ha
    (Core.cls_of _ i (v.failed why t s.stamp) c hmounted (Core.setSlot_get _ _ _) hc) hmounted (Core.setSlot_get _ _ _)
    hb hf hp (by exact hfree ▸ (by omega)) hretry ht
  refine ⟨os, ?_, hrest⟩
  rw [Core.putDownOver_of harm hstage hturn hm, if_neg hwhy, Core.attemptFailed_eq,
    Core.countFailure_of _ t i v why (by exact hmounted) (by exact hv) (by exact Nat.le_of_succ_le hroom) (by exact hd)]
  refine Eq.trans hos ?_
  rw [Core.setSlot]
  simp [Core.setSlot, Core.stamp, Volume.failed]

end

/-- Settles O43, by the put-down under ABORT and by the counting of a failed attempt with what follows it. -/
theorem putDownEndsTheAttempt : Obligations.PutDownEndsTheAttempt := by
  intro us m t i v c s hturn harm hm hbroken hfaults
  refine ⟨fun hstage => ?_, fun why es many double picks hstage haborting hmounted hv hc hwhy => ?_⟩
  · refine congrArg _ (State.event_quietly us _ s _ ?_ rfl rfl)
    rw [Core.putDownOver_of (s := s.found us) harm hstage hturn hm, if_pos rfl, Core.beginReturn,
      Core.startArm_clear _ _ _ (by exact hbroken) (by exact hfaults)]
    rfl
  · obtain ⟨rfl, rfl, rfl, rfl, hdetail⟩ : PutDown.Fails t v (s.found us).stamp why es many double picks := by
      rcases hwhy with ⟨rfl, rfl, hd, rfl, rfl, rfl⟩ | ⟨tg, rfl, rfl, hd, rfl, hpicks, rfl, rfl⟩ | ⟨rfl, rfl, rfl, rfl, rfl⟩
      · exact ⟨rfl, by simp [PutDown.many], rfl, rfl, by simpa using hd⟩
      · exact ⟨rfl, by simp [PutDown.many], rfl, (bump_of_lt hpicks).symm, by simpa using hd⟩
      · exact ⟨rfl, by simp [PutDown.many], rfl, rfl, by simp⟩
    have hne : why ≠ .aborted := by
      rintro rfl
      simp at hwhy
    refine ⟨fun hretry hroom => ?_, fun hretry hroom hretries hpause => ?_⟩
    · refine ⟨_, State.event_next (Core.putDownOver_retry (s := s.found us) harm hstage hturn hm
        hne haborting hmounted hv hc hbroken hfaults hdetail hroom hretry) rfl, rfl, ?_⟩
      exact why.counts_get s.counters
    · obtain ⟨os, hos, hreports, hlen, hassist⟩ := Core.putDownOver_failed (s := s.found us) harm hstage hturn hm
        hne haborting hmounted hv hc hbroken hfaults hdetail hroom hpause hretry hretries
      refine ⟨_, State.event_next hos rfl, rfl, fun j => ?_, fun htx hroom hfailed hnone => ?_⟩
      · show (List.foldl takeCounts s.counters ([] ++ why.counts ++ os))[j] = _
        rw [List.foldl_append, takeCounts_reports hreports]
        exact why.counts_get s.counters j
      · have hreport := hassist hfailed hnone
        have hcounts : why.counts.filterMap Out.asReport = [] := by
          unfold PutDown.counts
          split <;> rfl
        have hfew := List.length_filterMap_le Out.asReport os
        show _ ∈ (List.foldl Link.take s.link _).pump.reports
        rw [State.reports_of_busy htx (by
          simp only [State.found_out, List.nil_append, List.filterMap_append, hcounts]
          omega)]
        refine List.mem_append_right _ (List.mem_filterMap.2 ⟨_, List.mem_append_right _ hreport, rfl⟩)

end Sys2Proof.Machine
end

section
/-! PROOF. What the start of a step leaves of a turn that has just ended: the layer under the statement on the end of a
turn. -/

namespace Sys2Proof.Machine

/-! ### What no start of a step but a turn's touches -/

/-- The latches, C_ref, the arm and the two conditions of the last turn stand. -/
@[simp] abbrev Core.TurnStands (s t : Core) : Prop :=
  t.meas.latch = s.meas.latch ∧ t.motion.cRef = s.motion.cRef ∧ t.motion.arm = s.motion.arm
    ∧ t.seq.latched.turnOne = s.seq.latched.turnOne ∧ t.seq.latched.turnDouble = s.seq.latched.turnDouble

theorem Core.TurnStands.trans {s t u : Core} (h : Core.TurnStands s t) (k : Core.TurnStands t u) : Core.TurnStands s u := by
  unfold Core.TurnStands at *
  simp_all

@[simp] theorem Sequencer.noProgress_latched (q : Sequencer) : q.noProgress.latched = q.latched := rfl

section
variable (s : Core)

@[simp] theorem Core.stopPause_turnStands : Core.TurnStands s s.stopPause := by
  unfold Core.stopPause
  (repeat' split) <;> simp

@[simp] theorem Core.reportHold_turnStands (reason : HoldReason) : Core.TurnStands s (s.reportHold reason) := by
  simp [Core.reportHold]

@[simp] theorem Core.setHold_turnStands (reason : HoldReason) : Core.TurnStands s (s.setHold reason) := by
  simp [Core.setHold]

@[simp] theorem Core.enterHold_turnStands (reason : HoldReason) : Core.TurnStands s (s.enterHold reason) := by
  unfold Core.enterHold
  (repeat' split) <;> simp_all

@[simp] theorem Core.reportAssist_turnStands (k : AssistKind) (opening : Option Nat) :
    Core.TurnStands s (s.reportAssist k opening) := by
  simp [Core.reportAssist]

@[simp] theorem Core.holdInterlock_turnStands : Core.TurnStands s s.holdInterlock := by
  unfold Core.holdInterlock
  dsimp only
  (repeat' split) <;> simp_all

@[simp] theorem Core.endFaults_turnStands (es : List FaultEntry) : Core.TurnStands s (s.endFaults es) := by
  induction es generalizing s with
  | nil => simp [Core.endFaults]
  | cons e es ih =>
    unfold Core.endFaults
    split
    · exact Core.TurnStands.trans (by simp [Core.TurnStands]) (ih _)
    · exact ih s

@[simp] theorem Core.judgeFaults_turnStands : Core.TurnStands s s.judgeFaults := by
  simp [Core.judgeFaults]

@[simp] theorem Core.withView_turnStands (f : ViewLight → ViewLight) : Core.TurnStands s (s.withView f) := by
  simp [s.withView_chargeKept f]

@[simp] theorem Core.reviseView_turnStands : Core.TurnStands s s.reviseView := by
  unfold Core.reviseView
  (repeat' split) <;> simp [Core.beginPeriod]

@[simp] theorem Core.captureLampOn_turnStands (qPlan : Nat) : Core.TurnStands s (s.captureLampOn qPlan) := by
  unfold Core.captureLampOn
  (repeat' split) <;> simp_all

@[simp] theorem Core.lampOn_turnStands : Core.TurnStands s s.lampOn := by
  unfold Core.lampOn
  (repeat' split) <;> simp_all

@[simp] theorem Core.grant_turnStands (ch : Channel) (e : PendingConv) : Core.TurnStands s (s.grant ch e) := by
  unfold Core.grant
  (repeat' split) <;> simp_all

@[simp] theorem Core.post_turnStands (ch : Channel) (kind : ConvKind) (who : Requester) :
    Core.TurnStands s (s.post ch kind who) := by
  unfold Core.post
  (repeat' split) <;> simp_all

@[simp] theorem Core.withdraw_turnStands (ch : Channel) (gone : Requester → Bool) :
    Core.TurnStands s (s.withdraw ch gone) := by
  simp [Core.withdraw]

@[simp] theorem Core.writeRecord_turnStands (r : Record) : Core.TurnStands s (s.writeRecord r) := by
  unfold Core.writeRecord
  dsimp only
  (repeat' split) <;> simp_all

@[simp] theorem Core.restoreView_turnStands : Core.TurnStands s s.restoreView := by
  simp [Core.restoreView]

@[simp] theorem Core.endUnlit_turnStands : Core.TurnStands s s.endUnlit := by
  simp [Core.endUnlit]

@[simp] theorem Core.endUnlitWith_turnStands (e : AttemptEnding) : Core.TurnStands s (s.endUnlitWith e) := by
  simp [Core.endUnlitWith]

@[simp] theorem Core.setFlash_turnStands (life : Lifecycle) (f : Option Flash) :
    Core.TurnStands s (s.setFlash life f) := by
  simp [Core.setFlash]

@[simp] theorem Core.dropFlash_turnStands : Core.TurnStands s s.dropFlash := by
  simp [Core.dropFlash]

@[simp] theorem Core.refuseFlash_turnStands (f : Flash) (r : FlashRefusal) :
    Core.TurnStands s (s.refuseFlash f r) := by
  unfold Core.refuseFlash
  (repeat' split) <;> simp_all

@[simp] theorem Core.meetHold_turnStands (f : Flash) : Core.TurnStands s (s.meetHold f) := by
  unfold Core.meetHold
  (repeat' split) <;> simp_all

@[simp] theorem Core.enterThermal_turnStands (value : Option Int) : Core.TurnStands s (s.enterThermal value) := by
  unfold Core.enterThermal
  dsimp only
  (repeat' split) <;> simp_all

@[simp] theorem Core.admitFlash_turnStands (f : Flash) (r : Result) : Core.TurnStands s (s.admitFlash f r) := by
  unfold Core.admitFlash
  dsimp only
  (repeat' split) <;> simp_all

@[simp] theorem Core.testHold_turnStands (faulted : Bool) (value : Option Int) :
    Core.TurnStands s (s.testHold faulted value) := by
  unfold Core.testHold
  (repeat' split) <;> simp_all

@[simp] theorem Core.useReading_turnStands (r : Result) : Core.TurnStands s (s.useReading r) := by
  unfold Core.useReading
  (repeat' split) <;> simp_all

@[simp] theorem Core.advance_turnStands : Core.TurnStands s s.advance := by
  unfold Core.advance
  (repeat' split) <;> simp_all

@[simp] theorem Core.enterAdmitting_turnStands (f : Flash) : Core.TurnStands s (s.enterAdmitting f) := by
  unfold Core.enterAdmitting
  dsimp only
  (repeat' split) <;> simp_all

@[simp] theorem Core.askFlash_turnStands (side : Side) : Core.TurnStands s (s.askFlash side) := by
  unfold Core.askFlash
  (repeat' split) <;> simp_all

@[simp] theorem Core.setPlaten_turnStands (p : PlatenState) : Core.TurnStands s (s.setPlaten p) := by
  simp [Core.setPlaten]

@[simp] theorem Core.dropForce_turnStands : Core.TurnStands s s.dropForce := by
  simp [Core.dropForce]

@[simp] theorem Core.startPlaten_turnStands (m : PlatenMove) : Core.TurnStands s (s.startPlaten m) := by
  simp [Core.startPlaten]

@[simp] theorem Core.beginRaise_turnStands : Core.TurnStands s s.beginRaise := by
  simp [Core.beginRaise]

@[simp] theorem Core.askRaise_turnStands : Core.TurnStands s s.askRaise.1 := by
  unfold Core.askRaise
  (repeat' split) <;> simp_all

@[simp] theorem Core.sampleForce_turnStands : Core.TurnStands s s.sampleForce := by
  simp [Core.sampleForce]

@[simp] theorem Core.beginLowering_turnStands : Core.TurnStands s s.beginLowering := by
  unfold Core.beginLowering
  dsimp only
  (repeat' split) <;> simp_all

@[simp] theorem Core.askLowering_turnStands : Core.TurnStands s s.askLowering := by
  unfold Core.askLowering
  (repeat' split) <;> simp_all

@[simp] theorem Core.setAttempt_turnStands (a : Attempt) : Core.TurnStands s (s.setAttempt a) := by
  simp [Core.setAttempt]

@[simp] theorem Core.gainPlace_turnStands (a : Attempt) : Core.TurnStands s (s.gainPlace a) := by
  unfold Core.gainPlace
  dsimp only
  (repeat' split) <;> simp_all

@[simp] theorem Core.askAttempt_turnStands (ask : SideAsked) : Core.TurnStands s (s.askAttempt ask) := by
  unfold Core.askAttempt
  (repeat' split) <;> simp_all

@[simp] theorem Core.enterAdmission_turnStands (a : Attempt) : Core.TurnStands s (s.enterAdmission a) := by
  simp [Core.enterAdmission]

@[simp] theorem Core.awaitCameras_turnStands (a : Attempt) : Core.TurnStands s (s.awaitCameras a) := by
  simp [Core.awaitCameras]

@[simp] theorem Core.startCameraWait_turnStands (a : Attempt) : Core.TurnStands s (s.startCameraWait a) := by
  unfold Core.startCameraWait
  dsimp only
  (repeat' split) <;> simp_all

@[simp] theorem Core.attemptPlatenDown_turnStands : Core.TurnStands s s.attemptPlatenDown := by
  unfold Core.attemptPlatenDown
  (repeat' split) <;> simp_all

@[simp] theorem Core.attemptPlatenFailed_turnStands (r : PlatenReason) :
    Core.TurnStands s (s.attemptPlatenFailed r) := by
  unfold Core.attemptPlatenFailed
  (repeat' split) <;> simp_all

@[simp] theorem Core.attemptRefused_turnStands (r : FlashRefusal) : Core.TurnStands s (s.attemptRefused r) := by
  unfold Core.attemptRefused
  (repeat' split) <;> simp_all

@[simp] theorem Core.writeMark_turnStands (note : Nat) : Core.TurnStands s (s.writeMark note) := by
  simp [Core.writeMark]

@[simp] theorem Core.askMark_turnStands (note : Nat) : Core.TurnStands s (s.askMark note) := by
  unfold Core.askMark
  (repeat' split) <;> simp_all

@[simp] theorem Core.setSeq_turnStands (st : SeqState) : Core.TurnStands s (s.setSeq st) := by
  simp [Core.setSeq]

@[simp] theorem Core.setOp_turnStands (op : Option Operation) : Core.TurnStands s (s.setOp op) := by
  simp [Core.setOp]

@[simp] theorem Core.setAwaiting_turnStands (k : Option Awaited) : Core.TurnStands s (s.setAwaiting k) := by
  simp [Core.setAwaiting]

@[simp] theorem Core.setHeadWork_turnStands (w : StepWork) : Core.TurnStands s (s.setHeadWork w) := by
  unfold Core.setHeadWork
  (repeat' split) <;> simp_all

@[simp] theorem Core.reportStep_turnStands (st : Step) (result : StepResult) (reason : Option StepReason) (extra : StepExtra) :
    Core.TurnStands s (s.reportStep st result reason extra) := by
  simp [Core.reportStep]

@[simp] theorem Core.endStep_turnStands (result : StepResult) (reason : Option StepReason) (extra : StepExtra) :
    Core.TurnStands s (s.endStep result reason extra) := by
  unfold Core.endStep
  dsimp only
  (repeat' split) <;> simp

@[simp] theorem Core.endPlain_turnStands (result : StepResult) (reason : StepReason) :
    Core.TurnStands s (s.endPlain result reason) := by
  unfold Core.endPlain
  (repeat' split) <;> simp_all

@[simp] theorem Core.awaitAssist_turnStands (k : Awaited) : Core.TurnStands s (s.awaitAssist k) := by
  unfold Core.awaitAssist
  dsimp only
  (repeat' split) <;> simp_all

@[simp] theorem Core.holdAtStart_turnStands (r : HoldReason) : Core.TurnStands s (s.holdAtStart r) := by
  unfold Core.holdAtStart
  (repeat' split) <;> simp_all

@[simp] theorem Core.setCycle_turnStands (c : CycleProgress) : Core.TurnStands s (s.setCycle c) := by
  simp [Core.setCycle]

@[simp] theorem Core.endCycle_turnStands (result : StepResult) (reason : StepReason) (c : CycleProgress) (stop : Nat) :
    Core.TurnStands s (s.endCycle result reason c stop) := by
  simp [Core.endCycle]

@[simp] theorem Core.stage_turnStands (m : Mask) (x : Setting) : Core.TurnStands s (s.stage m x) := by
  simp [Core.stage]

@[simp] theorem Core.stepMark_turnStands (seq : Option SeqNo) : Core.TurnStands s (s.stepMark seq) := by
  unfold Core.stepMark
  (repeat' split) <;> simp_all

@[simp] theorem Core.stepRaised_turnStands : Core.TurnStands s s.stepRaised := by
  unfold Core.stepRaised
  dsimp only
  (repeat' split) <;> simp_all

end

/-! ### The start of a turn -/

/-- The latches, C_ref and the two conditions of the last turn stand, and the arm where it is or sent LIFTING. -/
structure Core.TurnFollows (s t : Core) : Prop where
  latch : t.meas.latch = s.meas.latch
  cRef : t.motion.cRef = s.motion.cRef
  turnOne : t.seq.latched.turnOne = s.seq.latched.turnOne
  turnDouble : t.seq.latched.turnDouble = s.seq.latched.turnDouble
  arm : t.motion.arm = s.motion.arm ∨ t.motion.arm = .moving .lifting

theorem Core.TurnStands.follows {s t : Core} (h : Core.TurnStands s t) : Core.TurnFollows s t := by
  obtain ⟨hlatch, hcRef, harm, hone, hdouble⟩ := h
  exact ⟨hlatch, hcRef, hone, hdouble, .inl harm⟩

theorem Core.TurnFollows.trans {s t u : Core} (h : Core.TurnFollows s t) (k : Core.TurnFollows t u) :
    Core.TurnFollows s u := by
  refine ⟨k.latch.trans h.latch, k.cRef.trans h.cRef, k.turnOne.trans h.turnOne, k.turnDouble.trans h.turnDouble, ?_⟩
  rcases k.arm with harm | harm
  · rw [harm]
    exact h.arm
  · exact .inr harm

section
variable (s : Core)

/-- A start check that is passed finds the curtain CLEAR (R141). -/
theorem Core.startCheck_clear (h : s.startCheck = none) : s.panel.broken = false := by
  unfold Core.startCheck at h
  (repeat' split at h) <;> simp_all

theorem Core.startLifting_follows (stage : ArmStage) (hb : s.panel.broken = false) :
    Core.TurnFollows s (s.startArm .lifting stage) := by
  unfold Core.startArm Core.setArm
  rw [if_neg (by simp [hb])]
  obtain ⟨hlatch, hcRef, harm, hone, hdouble⟩ := Core.judgeFaults_turnStands
    { s with motion := { s.motion with arm := .moving .lifting, stage := stage, armSince := s.now } }
  exact ⟨hlatch, hcRef, hone, hdouble, .inr harm⟩

theorem Core.refuseTurn_follows (o : TurnOutcome) : Core.TurnFollows s (s.refuseTurn o) :=
  Core.TurnStands.follows (by simp [Core.refuseTurn])

theorem Core.turnAtUp_follows (hb : s.panel.broken = false) : Core.TurnFollows s s.turnAtUp := by
  unfold Core.turnAtUp
  (repeat' split)
  · exact s.refuseTurn_follows _
  · exact s.refuseTurn_follows _
  · exact Core.TurnFollows.trans (Core.TurnStands.follows (by simp)) (Core.startLifting_follows _ _ hb)
  · exact s.refuseTurn_follows _

theorem Core.turnFromPlaten_follows (hb : s.panel.broken = false) : Core.TurnFollows s s.turnFromPlaten := by
  have hraise := Core.TurnStands.follows s.askRaise_turnStands
  obtain ⟨-, -, hpanel, -⟩ := s.askRaise_kept
  unfold Core.turnFromPlaten
  split
  next t heq =>
    rw [heq] at hraise hpanel
    exact hraise.trans (t.turnAtUp_follows (by rw [hpanel]; exact hb))
  next t heq =>
    rw [heq] at hraise
    exact hraise.trans (Core.TurnStands.follows (by simp))
  next t heq =>
    rw [heq] at hraise
    exact hraise.trans (t.refuseTurn_follows _)

theorem Core.askTurn_follows (hb : s.panel.broken = false) : Core.TurnFollows s s.askTurn := by
  unfold Core.askTurn
  (repeat' split)
  case h_2.isFalse.isFalse.isFalse.isFalse => exact s.turnFromPlaten_follows hb
  all_goals exact Core.TurnStands.follows (by simp)

/-! ### The steps that may start a turn -/

theorem Core.cycleE_follows (c : CycleProgress) : Core.TurnFollows s (s.cycleE c) := by
  unfold Core.cycleE
  dsimp only
  split
  next r _ => exact Core.TurnStands.follows (by simp)
  next hcheck =>
    exact Core.TurnFollows.trans (Core.TurnStands.follows (by simp))
      (Core.askTurn_follows _ (Core.startCheck_clear _ hcheck))

theorem Core.cycleD_follows (c : CycleProgress) (stop : Nat) : Core.TurnFollows s (s.cycleD c stop) := by
  unfold Core.cycleD
  split
  · have hraise := (s.setCycle_turnStands { c with pos := .D }).trans (Core.askRaise_turnStands _)
    dsimp only
    split
    next t heq =>
      rw [heq] at hraise
      exact (hraise.trans (t.endCycle_turnStands _ _ _ _)).follows
    next t heq =>
      rw [heq] at hraise
      exact (hraise.trans (t.awaitAssist_turnStands _)).follows
    next t heq =>
      rw [heq] at hraise
      exact (hraise.trans (by simp)).follows
  · exact s.cycleE_follows c

theorem Core.cycleC_follows (c : CycleProgress) (stop : Nat) : Core.TurnFollows s (s.cycleC c stop) := by
  unfold Core.cycleC
  (repeat' split)
  · exact (s.endCycle_turnStands _ _ _ _).follows
  · exact (s.endCycle_turnStands _ _ _ _).follows
  · exact s.cycleD_follows c stop

theorem Core.cycleB_follows (c : CycleProgress) (stop : Nat) : Core.TurnFollows s (s.cycleB c stop) := by
  unfold Core.cycleB
  dsimp only
  (repeat' split)
  · exact s.cycleC_follows c stop
  · exact Core.TurnStands.follows (by simp)
  · exact Core.TurnStands.follows (by simp)

theorem Core.cycleA_follows (c : CycleProgress) (stop : Nat) : Core.TurnFollows s (s.cycleA c stop) := by
  unfold Core.cycleA
  split
  · exact (s.endCycle_turnStands _ _ _ _).follows
  · exact s.cycleB_follows _ stop

theorem Core.cycleAct_follows (c : CycleProgress) (stop retakes : Nat) :
    Core.TurnFollows s (s.cycleAct c stop retakes) := by
  unfold Core.cycleAct
  split
  · exact (s.endCycle_turnStands _ _ _ _).follows
  next v _ =>
    have hset : Core.TurnFollows s ((s.setHeadWork (.cycle (min stop v.leaves) retakes)).setCycle c) :=
      Core.TurnStands.follows (by simp)
    dsimp only
    split
    · exact hset.trans (Core.cycleA_follows _ _ _)
    · exact hset.trans (Core.cycleB_follows _ _ _)
    · exact hset.trans (Core.cycleC_follows _ _ _)
    · exact hset.trans (Core.cycleD_follows _ _ _)
    · exact hset.trans (Core.cycleE_follows _ _)

theorem Core.cycleTo_follows (c : CycleProgress) : Core.TurnFollows s (s.cycleTo c) := by
  unfold Core.cycleTo
  dsimp only
  (repeat' split)
  · exact Core.TurnFollows.trans (s.setCycle_turnStands c).follows (Core.cycleAct_follows _ _ _ _)
  all_goals exact Core.TurnStands.follows (by simp)

theorem Core.startCycle_follows (stop : Nat) : Core.TurnFollows s (s.startCycle stop) := by
  unfold Core.startCycle
  split
  · exact (s.endStep_turnStands _ _ _).follows
  · exact s.cycleTo_follows _

/-- The work of a step begins; a TURN has found the curtain CLEAR at its start check (R141). -/
theorem Core.beginWork_follows (w : StepWork) (hw : w = .turn → s.panel.broken = false) :
    Core.TurnFollows s (s.beginWork w) := by
  have hstart : Core.TurnFollows s { s with seq := { s.seq with started := true } } := Core.TurnStands.follows (by simp)
  cases w with
  | capture side mode => exact Core.TurnStands.follows (by simp [Core.beginWork])
  | turn =>
    exact hstart.trans (Core.TurnFollows.trans (Core.setOp_turnStands _ (some .turn)).follows
      (Core.askTurn_follows _ (hw rfl)))
  | cycle stop retakes => exact hstart.trans (Core.startCycle_follows _ _)
  | light m x => exact Core.TurnStands.follows (by simp [Core.beginWork])
  | pause ms => exact Core.TurnStands.follows (by simp [Core.beginWork])
  | mark note => exact Core.TurnStands.follows (by simp [Core.beginWork])

theorem Core.startHead_follows : Core.TurnFollows s s.startHead := by
  unfold Core.startHead
  split
  next st rest _ =>
    split
    · split
      · exact (s.endPlain_turnStands _ _).follows
      · split
        · exact (s.endPlain_turnStands _ _).follows
        · split
          next r _ _ => exact (s.holdAtStart_turnStands r).follows
          next hno =>
            refine s.beginWork_follows _ fun hw => s.startCheck_clear ?_
            cases hcheck : s.startCheck with
            | none => rfl
            | some r => exact absurd hcheck (hno r (by rw [hw]; rfl))
    · exact Core.TurnStands.follows (by simp)
  · exact Core.TurnStands.follows (by simp)

/-! ### The answers taken up -/

theorem Core.cycleAttempt_follows (e : AttemptEnding) (c : CycleProgress) (stop retakes : Nat) :
    Core.TurnFollows s (s.cycleAttempt e c stop retakes) := by
  unfold Core.cycleAttempt
  (repeat' split)
  case h_1 => exact s.cycleTo_follows _
  case h_2.isTrue => exact s.cycleTo_follows _
  case h_3.isTrue => exact s.cycleTo_follows _
  all_goals exact (s.endCycle_turnStands _ _ _ _).follows

theorem Core.stepAttempt_follows (e : AttemptEnding) : Core.TurnFollows s (s.stepAttempt e) := by
  unfold Core.stepAttempt
  dsimp only
  (repeat' split)
  · exact Core.TurnStands.follows (by simp)
  · exact Core.TurnFollows.trans (s.setOp_turnStands none).follows (Core.cycleAttempt_follows _ _ _ _ _)
  all_goals exact Core.TurnStands.follows (by simp)

theorem Core.stepTurn_follows (o : TurnOutcome) : Core.TurnFollows s (s.stepTurn o) := by
  have hset := (s.setOp_turnStands none).follows
  unfold Core.stepTurn
  dsimp only
  (repeat' split)
  · exact Core.TurnStands.follows (by simp)
  · exact Core.TurnStands.follows (by simp)
  · exact hset.trans (Core.cycleTo_follows _ _)
  all_goals exact Core.TurnStands.follows (by simp)

theorem Core.handle_follows (g : Signal) : Core.TurnFollows s (s.handle g) := by
  cases g with
  | startHead => exact s.startHead_follows
  | platenDown => exact s.attemptPlatenDown_turnStands.follows
  | platenFailed r => exact (s.attemptPlatenFailed_turnStands r).follows
  | flashRefused r => exact (s.attemptRefused_turnStands r).follows
  | attemptEnded e => exact s.stepAttempt_follows e
  | markEnded seq => exact (s.stepMark_turnStands seq).follows
  | turnEnded o => exact s.stepTurn_follows o
  | raiseEnded ok => exact s.stepRaised_turnStands.follows

/-- What every chain of answers leaves of a turn that has ended. -/
theorem Core.settleWithin_follows (n : Nat) : Core.TurnFollows s (s.settleWithin n) := by
  induction n generalizing s with
  | zero => exact Core.TurnStands.follows (by simp [Core.settleWithin])
  | succ n ih =>
    unfold Core.settleWithin
    split
    · exact Core.TurnStands.follows (by simp)
    next g rest _ =>
      exact Core.TurnFollows.trans (Core.TurnStands.follows (by simp))
        (Core.TurnFollows.trans (Core.handle_follows { s with sig := rest } g) (ih _))

end

end Sys2Proof.Machine
end

section
/-! PROOF. The carry of a leaf and the end of a turn (O42). -/

namespace Sys2Proof.Machine

/-! ### Changes of the sequencer alone -/

/-- Only the sequencer and the messages change, and nothing is handed between the units. -/
def Core.OnlySeq (s t : Core) : Prop := t = { s with seq := t.seq, out := t.out }

theorem Core.OnlySeq.refl (s : Core) : Core.OnlySeq s s := rfl

theorem Core.OnlySeq.trans {s t u : Core} (h : Core.OnlySeq s t) (k : Core.OnlySeq t u) : Core.OnlySeq s u := by
  unfold Core.OnlySeq at *
  rw [k, h]

theorem Core.OnlySeq.sig {s t : Core} (h : Core.OnlySeq s t) : t.sig = s.sig := by rw [h]

theorem Turn.outcome_laid {t : Turn} (h : t.laid = true) : t.outcome = .laid := by simp [Turn.outcome, h]

theorem Turn.outcome_step_of_not_laid {t : Turn} (h : t.laid = false) :
    t.outcome.step = .inl (if t.vacLost then .vacuumLost else .turnFailed) := by
  cases hlost : t.vacLost <;> simp [Turn.outcome, h, hlost, TurnOutcome.step]

theorem Core.OnlySeq.handed {s t : Core} (h : Core.OnlySeq s t) :
    { t with out := [], sig := [] } = { s with seq := t.seq, out := [], sig := [] } := by rw [h]

section
variable (s : Core)

theorem Core.setHold_onlySeq (r : HoldReason) : Core.OnlySeq s (s.setHold r) := by
  unfold Core.setHold Core.stopPause
  dsimp only
  split <;> rfl

theorem Core.enterHold_onlySeq (r : HoldReason) : Core.OnlySeq s (s.enterHold r) := by
  unfold Core.enterHold
  split
  · exact .refl s
  · exact s.setHold_onlySeq r

/-- A step ends DONE with nothing to follow at once (R148). -/
theorem Core.endStep_onlySeq (reason : Option StepReason) (extra : StepExtra)
    (h : s.seq.state ≠ .running ∨ ∃ st, s.seq.queue = [st]) : Core.OnlySeq s (s.endStep .done reason extra) := by
  unfold Core.endStep
  split
  · exact .refl s
  next st rest hq =>
    simp only [reduceCtorEq, if_false, Core.reportStep]
    split
    next hstate =>
      rcases h with h | ⟨st', h⟩
      · exact absurd hstate h
      · rw [if_pos (by rw [hq] at h; exact (List.cons.inj h).2)]
        rfl
    · rfl
    · rfl

theorem Core.awaitAssist_onlySeq (k : Awaited) : Core.OnlySeq s (s.awaitAssist k) := by
  have hhold := Core.OnlySeq.trans (t := s.setAwaiting (some k)) rfl (Core.setHold_onlySeq (s.setAwaiting (some k))
    (if s.seq.state = .held ∧ s.seq.reason = some .fault then .fault else .assist))
  unfold Core.awaitAssist
  dsimp only
  split
  · exact hhold.trans rfl
  · exact hhold

theorem Core.setHold_state (r : HoldReason) : (s.setHold r).seq.state = .held := by
  unfold Core.setHold Core.stopPause
  dsimp only
  split <;> rfl

theorem Core.awaitAssist_state (k : Awaited) : (s.awaitAssist k).seq.state = .held := by
  unfold Core.awaitAssist
  dsimp only
  split <;> exact Core.setHold_state _ _

/-- The sequencer once its only step has ended in RUNNING (R148). -/
theorem Core.endStep_last {st : Step} (reason : Option StepReason) (extra : StepExtra) (hq : s.seq.queue = [st])
    (hstate : s.seq.state = .running) : (s.endStep .done reason extra).seq = s.seq.ended false := by
  simp [Core.endStep, hq, hstate, Sequencer.noProgress, Core.reportStep, Sequencer.ended]

/-- The sequencer once its head step has ended in HALTING (R148, R150). -/
theorem Core.endStep_halting {st : Step} {rest : List Step} (reason : Option StepReason) (extra : StepExtra)
    (hq : s.seq.queue = st :: rest) (hstate : s.seq.state = .halting) : (s.endStep .done reason extra).seq =
      { s.seq.ended false with queue := rest, state := .held, reason := some .halt } := by
  simp only [Core.endStep, hq, Core.reportStep]
  simp [hstate, Sequencer.noProgress, Sequencer.ended, Core.setHold, Core.stopPause, Core.reportHold]

/-- The sequencer once its head step has ended in HELD (R148). -/
theorem Core.endStep_held {st : Step} {rest : List Step} (reason : Option StepReason) (extra : StepExtra)
    (hq : s.seq.queue = st :: rest) (hstate : s.seq.state = .held) : (s.endStep .done reason extra).seq =
      { s.seq.ended false with queue := rest, state := .held, reason := s.seq.reason } := by
  simp [Core.endStep, hq, hstate, Sequencer.noProgress, Core.reportStep, Sequencer.ended]

/-- The sequencer as it awaits assistance, with no PAUSE running (R143). -/
theorem Core.awaitAssist_seq (k : Awaited) (hp : s.seq.pause = none) : (s.awaitAssist k).seq =
    { s.seq with
      awaiting := some k, state := .held
      reason := if s.seq.state = .held ∧ s.seq.reason = some .fault then some .fault else some .assist } := by
  have hhold (r : HoldReason) : ((s.setAwaiting (some k)).setHold r).seq =
      { s.seq with awaiting := some k, state := .held, reason := some r } := by
    rw [Core.setHold_still (s.setAwaiting (some k)) r hp]
    rfl
  have hseq : (s.awaitAssist k).seq = ((s.setAwaiting (some k)).setHold
      (if s.seq.state = .held ∧ s.seq.reason = some .fault then .fault else .assist)).seq := by
    unfold Core.awaitAssist
    dsimp only
    split <;> rfl
  rw [hseq, hhold]
  split <;> rfl

/-! ### The end of a turn at the sequencer -/

theorem Core.stepTurn_other (o : TurnOutcome) (h : s.seq.op ≠ some .turn) : s.stepTurn o = s := if_neg h

theorem Core.stepTurn_assist {o : TurnOutcome} {k : Awaited} (h : s.seq.op = some .turn) (ho : o.step = .inl k) :
    s.stepTurn o = (s.setOp none).awaitAssist k := by
  simp only [Core.stepTurn, h, if_true, ho]

/-- A TURN step ends DONE with its leaf laid (R143). -/
theorem Core.stepTurn_turn {st : Step} {rest : List Step} (h : s.seq.op = some .turn) (hq : s.seq.queue = st :: rest)
    (hw : st.work = .turn) : s.stepTurn .laid = (s.setOp none).endStep .done none .none := by
  simp only [Core.stepTurn, h, if_true, TurnOutcome.step]
  simp [Core.headWork, hq, hw]

/-- What the sequencer makes of a turn's end where no step starts at once: nothing moves (R143, R148). -/
theorem Core.stepTurn_onlySeq (t : Turn) {st : Step} {rest : List Step} (hq : s.seq.queue = st :: rest)
    (hw : st.work = .turn) (h : rest = [] ∨ t.laid = false ∨ s.seq.state ≠ .running) :
    Core.OnlySeq s (s.stepTurn t.outcome) := by
  by_cases hop : s.seq.op = some .turn
  · have hset : Core.OnlySeq s (s.setOp none) := rfl
    cases hlaid : t.laid with
    | true =>
      rw [Turn.outcome_laid hlaid, s.stepTurn_turn hop hq hw]
      refine hset.trans (Core.endStep_onlySeq _ _ _ ?_)
      rcases h with rfl | h | h
      · exact .inr ⟨st, hq⟩
      · exact absurd h (by simp [hlaid])
      · exact .inl h
    | false =>
      rw [s.stepTurn_assist hop (Turn.outcome_step_of_not_laid hlaid)]
      exact hset.trans (Core.awaitAssist_onlySeq _ _)
  · rw [s.stepTurn_other _ hop]
    exact .refl s

/-- A step that ends in HELD leaves the sequencer HELD, and starts nothing (R148). -/
theorem Core.endStep_inHeld (result : StepResult) (reason : Option StepReason) (extra : StepExtra)
    (h : s.seq.state = .held) : Core.OnlySeq s (s.endStep result reason extra)
      ∧ (s.endStep result reason extra).seq.state = .held := by
  unfold Core.endStep
  cases hq : s.seq.queue with
  | nil => exact ⟨.refl s, h⟩
  | cons st rest =>
    cases result with
    | failed =>
      simp only [reduceCtorEq, if_false, if_true]
      exact ⟨Core.OnlySeq.trans (by exact rfl) (Core.enterHold_onlySeq _ _), (Core.enterHold_keeps _ _).1⟩
    | _ =>
      simp only [reduceCtorEq, if_false, if_true, Core.reportStep, Core.report_seq, Core.tell_seq, Sequencer.noProgress, h, and_true]
      exact rfl

/-- A CYCLE at position A that would end before a further operation ends there (R145, R149). -/
theorem Core.cycleA_inHeld (c : CycleProgress) (stop : Nat) (h : s.seq.state = .held)
    (hends : stop < s.cursor ∨ (s.openingCaptured = true ∧ stop ≤ s.cursor)) :
    Core.OnlySeq s (s.cycleA c stop) ∧ (s.cycleA c stop).seq.state = .held := by
  unfold Core.cycleA
  split
  next => exact s.endStep_inHeld _ _ _ h
  next hle =>
    obtain ⟨hcaptured, hle'⟩ := hends.resolve_left hle
    have heq : stop = s.cursor := by omega
    rw [Core.cycleB, if_pos hcaptured, Core.cycleC, if_pos heq]
    exact s.endStep_inHeld _ _ _ h

theorem Core.cycleAct_inHeld (c : CycleProgress) (stop retakes : Nat) (hpos : c.pos = .A) (h : s.seq.state = .held)
    (hends : s.cycleEnds c stop = true) :
    Core.OnlySeq s (s.cycleAct c stop retakes) ∧ (s.cycleAct c stop retakes).seq.state = .held := by
  unfold Core.cycleAct
  cases hv : s.cycleVolume c with
  | none => exact s.endStep_inHeld _ _ _ h
  | some v =>
    simp only [Core.cycleEnds, hv, hpos, Bool.or_eq_true, Bool.and_eq_true, decide_eq_true_eq] at hends
    simp only [hpos]
    have hset : Core.OnlySeq s ((s.setHeadWork (.cycle (min stop v.leaves) retakes)).setCycle c)
        ∧ ((s.setHeadWork (.cycle (min stop v.leaves) retakes)).setCycle c).seq.state = .held := by
      unfold Core.setHeadWork
      split <;> exact ⟨rfl, h⟩
    obtain ⟨honly, hstate⟩ := hset
    obtain ⟨hend, hheld⟩ := Core.cycleA_inHeld ((s.setHeadWork (.cycle (min stop v.leaves) retakes)).setCycle c) c
      (min stop v.leaves) hstate (by rw [honly]; exact hends)
    exact ⟨honly.trans hend, hheld⟩

/-- In HELD a CYCLE led to position A ends there or waits between operations (R149, R150). -/
theorem Core.cycleTo_inHeld (c : CycleProgress) (hpos : c.pos = .A) (h : s.seq.state = .held) :
    Core.OnlySeq s (s.cycleTo c) ∧ (s.cycleTo c).seq.state = .held := by
  have hset : Core.OnlySeq s (s.setCycle c) := rfl
  have hstate : (s.setCycle c).seq.state = .held := h
  unfold Core.cycleTo
  split
  next stop retakes _ =>
    dsimp only
    rw [hstate]
    cases hends : (s.setCycle c).cycleEnds c stop with
    | true =>
      obtain ⟨hact, hheld⟩ := (s.setCycle c).cycleAct_inHeld c stop retakes hpos hstate hends
      exact ⟨hset.trans hact, hheld⟩
    | false => exact ⟨hset, hstate⟩
  next => exact ⟨.refl s, h⟩

/-- In HELD the end of a turn starts nothing (R143, R149). -/
theorem Core.stepTurn_inHeld (t : Turn) (h : s.seq.state = .held) :
    Core.OnlySeq s (s.stepTurn t.outcome) ∧ (s.stepTurn t.outcome).seq.state = .held := by
  have hset : Core.OnlySeq s (s.setOp none) := rfl
  by_cases hop : s.seq.op = some .turn
  · cases hlaid : t.laid with
    | true =>
      simp only [Core.stepTurn, hop, if_true, Turn.outcome_laid hlaid, TurnOutcome.step]
      split
      next stop retakes c _ _ =>
        obtain ⟨hcycle, hheld⟩ := (s.setOp none).cycleTo_inHeld { c with pos := .A } rfl h
        exact ⟨hset.trans hcycle, hheld⟩
      next =>
        obtain ⟨hend, hheld⟩ := (s.setOp none).endStep_inHeld .done none .none h
        exact ⟨hset.trans hend, hheld⟩
    | false =>
      rw [s.stepTurn_assist hop (Turn.outcome_step_of_not_laid hlaid)]
      exact ⟨hset.trans (Core.awaitAssist_onlySeq _ _), Core.awaitAssist_state _ _⟩
  · rw [s.stepTurn_other _ hop]
    exact ⟨.refl s, h⟩

/-! ### The end of a turn at the arm -/

/-- The blocks once the arm is PARKED at the end of a turn, the outcome handed on unless ABORT ended it (R106, R151). -/
def Core.turnOver (t : Turn) : Core :=
  { s with
    motion := { s.motion with arm := .parked, armSince := s.now, turn := none }
    seq := { s.seq with latched := { s.seq.latched with turnOne := t.laid, turnDouble := t.many } }
    sig := if t.aborting then s.sig else s.sig ++ [.turnEnded t.outcome] }

/-- With no acknowledged entry nothing is judged (R175). -/
theorem Core.endFaults_fresh (es : List FaultEntry) (h : ∀ e ∈ es, e.acked = false) : s.endFaults es = s := by
  induction es with
  | nil => rfl
  | cons e es ih =>
    rw [Core.endFaults, if_neg (by simp [h e (by simp)])]
    exact ih fun e he => h e (by simp [he])

/-- The open reference at PARK ends the turn; a result renews C_ref (R106). The fault set holds nothing to judge. -/
theorem Core.openRefResult_of (r : Result) (t : Turn) (harm : s.motion.arm = .moving .returning)
    (hstage : s.motion.stage = .reference) (hturn : s.motion.turn = some t)
    (hf : ∀ e ∈ s.faults, e.acked = false) :
    s.openRefResult r =
      ({ s with motion := { s.motion with
          cRef := if r.faulted then s.motion.cRef else some r.code } } : Core).turnOver t := by
  have hpark (c : Option Int) : ({ s with motion := { s.motion with cRef := c } } : Core).setArm .parked .reference =
      { s with motion := { s.motion with cRef := c, arm := .parked, armSince := s.now } } := by
    rw [Core.setArm, Core.judgeFaults, Core.endFaults_fresh _ _ (by exact hf), ← hstage]
  have hend (c : Option Int) : (({ s with motion := { s.motion with cRef := c } } : Core).setArm .parked .reference).endTurn =
      ({ s with motion := { s.motion with cRef := c } } : Core).turnOver t := by
    rw [hpark]
    simp only [Core.endTurn, hturn, Core.turnOver]
    split <;> rfl
  rw [Core.openRefResult, if_pos ⟨harm, hstage⟩]
  cases r.faulted with
  | true => exact hend s.motion.cRef
  | false => exact hend (some r.code)

/-- The answers of a turn's end taken up. -/
theorem Core.turnOver_settle (t : Turn) (hs : s.sig = []) :
    (s.turnOver t).settle = if t.aborting then s.turnOver t
      else Core.settleWithin 255 (({ s.turnOver t with sig := [] } : Core).stepTurn t.outcome) := by
  cases ha : t.aborting with
  | true => exact Core.settle_of_sig_nil _ (by simp [Core.turnOver, ha, hs])
  | false => exact Core.settleWithin_cons 255 (s.turnOver t) (.turnEnded t.outcome) [] (by simp [Core.turnOver, ha, hs])

end

/-- The blocks at a turn's end, as the sequencer finds them. -/
def Core.turnEnded (s : Core) (t : Turn) : Core := { s.turnOver t with sig := [] }

/-- Under ABORT a turn's end is handed to no one (R151). -/
theorem Core.settle_aborting {s : Core} {t : Turn} (hs : s.sig = []) (ha : t.aborting = true) :
    (s.turnOver t).settle = s.turnEnded t := by
  rw [Core.turnOver_settle s t hs, if_pos ha]
  simp [Core.turnEnded, Core.turnOver, ha, hs]

/-- The sequencer's answer to a turn's end that starts nothing. -/
theorem Core.settle_turnEnded {s : Core} {t : Turn} (hs : s.sig = []) (ha : t.aborting = false)
    (h : Core.OnlySeq (s.turnEnded t) ((s.turnEnded t).stepTurn t.outcome)) :
    (s.turnOver t).settle = (s.turnEnded t).stepTurn t.outcome := by
  rw [Core.turnOver_settle s t hs, if_neg (by simp [ha])]
  exact Core.settleWithin_of_sig_nil _ _ h.sig

section
variable {s : Core} {t : Turn} {st : Step} {rest : List Step} (hs : s.sig = [])
include hs

/-- Where nothing follows at once, a turn's end moves nothing but the sequencer (R106, R143, R148, R151). -/
theorem Core.settle_still (h : t.aborting = true ∨ (s.seq.queue = st :: rest ∧ st.work = .turn
    ∧ (rest = [] ∨ t.laid = false ∨ s.seq.state ≠ .running))) : Core.OnlySeq (s.turnEnded t) (s.turnOver t).settle := by
  cases ha : t.aborting with
  | true =>
    rw [Core.settle_aborting hs ha]
    exact .refl _
  | false =>
    obtain ⟨hq, hw, hrest⟩ := h.resolve_left (by simp [ha])
    have honly := (s.turnEnded t).stepTurn_onlySeq t hq hw hrest
    rw [Core.settle_turnEnded hs ha honly]
    exact honly

/-- In HELD a turn's end moves nothing but the sequencer, which stays HELD (R143, R149). -/
theorem Core.settle_inHeld (hstate : s.seq.state = .held) :
    Core.OnlySeq (s.turnEnded t) (s.turnOver t).settle ∧ (s.turnOver t).settle.seq.state = .held := by
  cases ha : t.aborting with
  | true =>
    rw [Core.settle_aborting hs ha]
    exact ⟨.refl _, hstate⟩
  | false =>
    obtain ⟨honly, hheld⟩ := (s.turnEnded t).stepTurn_inHeld t hstate
    rw [Core.settle_turnEnded hs ha honly]
    exact ⟨honly, hheld⟩

/-- A laid leaf ends the TURN step in RUNNING with no step behind (R148). -/
theorem Core.settle_laid_last (ha : t.aborting = false) (hlaid : t.laid = true) (hstate : s.seq.state = .running)
    (hop : s.seq.op = some .turn) (hq : s.seq.queue = [st]) (hw : st.work = .turn) :
    (s.turnOver t).settle.seq = { s.seq.ended false with
      latched := { s.seq.latched with turnOne := true, turnDouble := t.many, skipped := false } } := by
  have hstep := (s.turnEnded t).stepTurn_turn hop hq hw
  rw [Core.settle_turnEnded hs ha ((s.turnEnded t).stepTurn_onlySeq t hq hw (.inl rfl)), Turn.outcome_laid hlaid, hstep,
    Core.endStep_last ((s.turnEnded t).setOp none) none .none hq hstate, ← hlaid]
  rfl

/-- A laid leaf ends the TURN step in HALTING and in HELD (R148, R150). -/
theorem Core.settle_laid_stopped (ha : t.aborting = false) (hlaid : t.laid = true)
    (hstate : s.seq.state = .halting ∨ s.seq.state = .held) (hop : s.seq.op = some .turn) (hq : s.seq.queue = st :: rest)
    (hw : st.work = .turn) :
    (s.turnOver t).settle.seq = { s.seq.ended false with
      queue := rest, state := .held
      reason := if s.seq.state = .halting then some .halt else s.seq.reason
      latched := { s.seq.latched with turnOne := true, turnDouble := t.many, skipped := false } } := by
  have hstep := (s.turnEnded t).stepTurn_turn hop hq hw
  have hne : (s.turnEnded t).seq.state ≠ .running := by rcases hstate with h | h <;> simp [Core.turnEnded, Core.turnOver, h]
  rw [Core.settle_turnEnded hs ha ((s.turnEnded t).stepTurn_onlySeq t hq hw (.inr (.inr hne))), Turn.outcome_laid hlaid,
    hstep, ← hlaid]
  rcases hstate with h | h
  · rw [Core.endStep_halting ((s.turnEnded t).setOp none) none .none hq h, if_pos h]
    rfl
  · rw [Core.endStep_held ((s.turnEnded t).setOp none) none .none hq h, if_neg (by simp [h])]
    rfl

/-- A turn that laid no leaf leaves its step awaiting assistance (R143). -/
theorem Core.settle_assist (ha : t.aborting = false) (hlaid : t.laid = false) (hop : s.seq.op = some .turn)
    (hq : s.seq.queue = st :: rest) (hw : st.work = .turn) (hp : s.seq.pause = none) :
    (s.turnOver t).settle.seq = { s.seq with
      op := none, awaiting := some (if t.vacLost then .vacuumLost else .turnFailed), state := .held
      reason := if s.seq.state = .held ∧ s.seq.reason = some .fault then some .fault else some .assist
      latched := { s.seq.latched with turnOne := false, turnDouble := t.many } } := by
  have hstep := (s.turnEnded t).stepTurn_assist hop (Turn.outcome_step_of_not_laid hlaid)
  rw [Core.settle_turnEnded hs ha ((s.turnEnded t).stepTurn_onlySeq t hq hw (.inr (.inl hlaid))), hstep,
    Core.awaitAssist_seq ((s.turnEnded t).setOp none) _ hp, ← hlaid]
  rfl

/-- Under ABORT the sequencer is told nothing (R151). -/
theorem Core.settle_aborting_seq (ha : t.aborting = true) : (s.turnOver t).settle.seq =
    { s.seq with latched := { s.seq.latched with turnOne := t.laid, turnDouble := t.many } } := by
  rw [Core.settle_aborting hs ha]
  rfl

end

/-- With nothing pending nothing is granted (R54). -/
theorem Core.grantNext_idle (s : Core) (hp : s.meas.pending = ⟨none, none, none, none⟩) : s.grantNext = s := by
  have hn : s.meas.next = none := by
    simp only [Measure.next, hp]
    decide
  unfold Core.grantNext
  rw [hn]
  split
  next h => exact absurd h (by simp)
  next => rfl

/-! ### The open reference -/

section
variable {s : Core} {c : Conversion} {t : Turn} (hturn : s.motion.turn = some t)
  (harm : s.motion.arm = .moving .returning) (hstage : s.motion.stage = .reference) (hf : s.faults = [])
  (hch : c.channel = .G) (hreq : c.requesters = [.openRef]) (hpend : s.meas.pending = ⟨none, none, none, none⟩)
include hturn harm hstage hf hch hreq hpend

/-- The open reference delivered (R57, R106). -/
theorem Core.deliver_openRef (raw : Int) (hflag : (s.resultOf c.channel c.kind raw).faulted = false) :
    s.deliver c raw = ({ s with
      meas := { s.meas with conv := none, latch := s.meas.latch.set .G (some (s.resultOf .G c.kind raw)) }
      motion := { s.motion with cRef := some (s.resultOf .G c.kind raw).code } } : Core).turnOver t := by
  rw [hch] at hflag
  simp only [Core.deliver, Core.latchResult, hch]
  rw [Core.judgeFaults_nil _ (by exact hf)]
  simp only [Core.handAll, hch, hreq, List.foldl_cons, List.foldl_nil, Core.handTo]
  rw [if_neg (by simp), Core.openRefResult_of _ _ t (by exact harm) (by exact hstage) (by exact hturn) (by simp [hf]), hflag,
    Core.grantNext_idle _ (by exact hpend)]
  rfl

/-- The open reference faulted (R58, R106): METER_FAULT is raised, and the turn ends with C_ref as it was. -/
theorem Core.declareFault_openRef : s.declareFault c = (({ s with
      meas := { s.meas with conv := none, latch := s.meas.latch.set .G (some (s.faultResult c.kind)) } } : Core).raiseFault
        .meterFault (.channels [.G])).turnOver t := by
  have hfaults := (Core.raiseFault_keeps ({ s with
      meas := { s.meas with conv := none, latch := s.meas.latch.set .G (some (s.faultResult c.kind)) } } : Core)
      .meterFault (.channels [.G]))
  obtain ⟨hset, -, -, -, -, -, -, -, -, -, -, -, -, hmeas, -, hmotion, -⟩ := hfaults
  simp only [Core.declareFault, Core.latchResult, hch]
  rw [Core.judgeFaults_nil _ (by exact hf)]
  simp only [Core.handAll, hch, hreq, List.foldl_cons, List.foldl_nil, Core.handTo]
  rw [if_neg (by simp), Core.openRefResult_of _ _ t (by rw [hmotion]; exact harm) (by rw [hmotion]; exact hstage)
    (by rw [hmotion]; exact hturn) (by rw [hset]; simp [hf, findFault, raisedEntry, placeFault])]
  rw [if_pos (by rfl), Core.grantNext_idle _ (by
    show (Core.raiseFault _ _ _).meas.pending = _
    rw [hmeas]
    exact hpend)]

/-- A turn whose open reference is faulted: HELD with reason FAULT, and nothing starts (R58, R106, R149). -/
theorem Core.declareFault_settled (hs : s.sig = []) :
    (s.declareFault c).settle.motion = { s.motion with arm := .parked, armSince := s.now, turn := none }
      ∧ (s.declareFault c).settle.faults =
          [{ kind := .meterFault, detail := .channels [.G], stamp := s.stamp, count := 1, acked := false }]
      ∧ (s.declareFault c).settle.seq.latched.turnOne = t.laid
      ∧ (s.declareFault c).settle.seq.latched.turnDouble = t.many
      ∧ (s.declareFault c).settle.seq.state = .held ∧ (s.declareFault c).settle.vols = s.vols
      ∧ ∀ st : Step, t.aborting = false → t.laid = true → s.seq.op = some .turn → s.seq.queue = [st] → st.work = .turn →
          (s.declareFault c).settle.seq.queue = [] ∧ (s.declareFault c).settle.seq.reason = some .fault := by
  rw [Core.declareFault_openRef hturn harm hstage hf hch hreq hpend]
  obtain ⟨hset, -, hstate, hreason, hqueue, hop, -, -, -, hnow, -, hvols, -, -, -, hmotion, -, -, -, hsig⟩ :=
    Core.raiseFault_keeps { s with
      meas := { s.meas with conv := none, latch := s.meas.latch.set .G (some (s.faultResult c.kind)) } }
      .meterFault (.channels [.G])
  generalize Core.raiseFault .meterFault (.channels [.G]) { s with
      meas := { s.meas with conv := none, latch := s.meas.latch.set .G (some (s.faultResult c.kind)) } } = y at *
  obtain ⟨honly, hheld⟩ := Core.settle_inHeld (t := t) (hsig.trans hs) hstate
  obtain ⟨-, -, hone, hdouble, -⟩ := Core.settleWithin_follows (y.turnOver t) 256
  refine ⟨?_, ?_, hone, hdouble, hheld, ?_, fun st ha hlaid hop' hq hw => ?_⟩
  · rw [honly]
    show { y.motion with arm := .parked, armSince := y.now, turn := none } = _
    rw [hmotion, hnow]
  · rw [honly]
    show y.faults = _
    rw [hset]
    simp [hf, findFault, raisedEntry, placeFault, Core.stamp]
  · rw [honly]
    exact hvols
  · rw [Core.settle_laid_stopped (hsig.trans hs) ha hlaid (.inr hstate) (hop.trans hop') (hqueue.trans hq) hw, if_neg (by simp [hstate])]
    exact ⟨rfl, hreason⟩

end

/-- The blocks once an event's answers have been taken up. -/
theorem State.event_core {us : Nat} {f : Core → Core} {s : State} {c : Core} (hf : f (s.found us) = c) :
    (s.event us f).core = { c.settle with out := [], sig := [] } := by
  rw [← hf]
  rfl

/-! ### The carry -/

/-- The leaf is laid with the view light off (R18, R105). -/
theorem Core.layLeaf_dark (s : Core) (t : Turn) (i : Fin 16) (v : Volume) (hm : s.vols.mounted = some i)
    (hv : s.vols.slots[i] = some v) (ha : s.dose.accrual = none) (hw : s.illum.view.wanted = false)
    (hc : s.illum.view.ceiling = false) (ht : v.tallies.turns < 4294967295) :
    s.layLeaf t = { s.setSlot i (some { v with
        cursor := v.cursor + 1, tallies := { v.tallies with turns := v.tallies.turns + 1 } }) with
      dose := { s.dose with aOpen := s.dose.aOpen.map fun _ => 0 }
      cap := { s.cap with litCount := 0 }
      motion := { s.motion with turn := some { t with laid := true } }
      out := s.out ++ [.count .turns 0] } := by
  simp only [Core.layLeaf]
  rw [Core.editMounted_of s i v _ hm hv, Core.cursor_of _ i _ (by exact hm) (Core.setSlot_get _ _ _),
    Core.moveCursor_dark _ i _ _ (by exact hm) (Core.setSlot_get _ _ _) ha hw hc, Core.setSlot_setSlot, bump_of_lt ht]
  rfl

/-- Settles O42, by the carry's stages and by what the end of a turn hands to the sequencer. -/
theorem leafIsCarriedAndLaid : Obligations.LeafIsCarriedAndLaid := by
  refine ⟨fun us t i v s hturn hbroken hfaults => ⟨fun harm => ?_, fun harm hvac => ?_, ?_, fun harm hstage hhoming hconv hpend => ?_⟩,
    fun us code c t st rest s hturn harm hstage hfaults hconv hch hkind hreq hpend => ⟨fun hsince hlimit => ?_, fun hpast => ?_⟩⟩
  · refine congrArg _ (State.event_quietly us _ s _ ?_ rfl rfl)
    rw [Core.sweepEnds, if_pos (by exact harm), Core.startArm_clear _ _ _ (by exact hbroken) (by exact hfaults)]
    rfl
  · refine congrArg _ (State.event_quietly us _ s _ ?_ rfl rfl)
    simp [Core.releaseEnds, harm, hturn, hvac]
  · intro harm hvac hm hv haccrual hwanted hceiling hturns
    have hover : (s.found us).releaseEnds = ((s.found us).layLeaf t).beginReturn := by
      simp [Core.releaseEnds, harm, hturn, hvac]
    refine ⟨_, State.event_next (by
      rw [hover, Core.layLeaf_dark (s.found us) t i v hm hv haccrual hwanted hceiling hturns, Core.beginReturn,
        Core.startArm_clear _ _ _ (by exact hbroken) (by exact hfaults)]) rfl, rfl, fun j => ?_⟩
    show (takeCounts s.counters (.count .turns 0))[j] = _
    rw [takeCounts_get, Counter.take_plain _ _ (by decide) (by decide) (by decide)]
  · refine congrArg _ (State.event_quietly us _ s _ ?_ rfl rfl)
    rw [Core.armParks, if_pos ⟨harm, hstage, by simp [Core.armInTurn, hhoming]⟩, Core.post_free _ _ _ (by exact hconv) (by exact hpend)]
    rfl
  · have hspot : (s.found us).mayDeliver c = true := by simp [Core.mayDeliver, hkind, hsince, hlimit]
    have hflag : ((s.found us).resultOf .G c.kind code).flag ≠ some .fault := by
      simp only [Core.resultOf, satFlag]
      split
      · simp
      · split <;> simp
    have hdeliver : (s.found us).spotArrives code = (s.found us).deliver c code := by
      simp [Core.spotArrives, hconv, hspot]
    rw [Core.deliver_openRef (s := s.found us) hturn harm hstage hfaults hch hreq hpend code (by
      rw [hch]
      simpa [Result.faulted] using hflag)] at hdeliver
    refine ⟨_, (s.found us).resultOf .G c.kind code, rfl, ?_⟩
    rw [State.event_core hdeliver]
    have hcode : ((s.found us).resultOf .G c.kind code).code = max (-8388608) (min 8388607 code) := rfl
    generalize (s.found us).resultOf .G c.kind code = r at hflag hcode
    obtain ⟨hlatch, hcRef, hone, hdouble, harm'⟩ := Core.settleWithin_follows (Core.turnOver { s.found us with
      meas := { s.core.meas with conv := none, latch := s.core.meas.latch.set .G (some r) }
      motion := { s.core.motion with cRef := some r.code } } t) 256
    refine ⟨hcode, hflag, hlatch, hcRef, harm', hone, hdouble, fun h => ?_,
      fun ha hlaid hstate hop hq hw => Core.settle_laid_last rfl ha hlaid hstate hop hq hw,
      fun ha hlaid hstate hop hq hw => Core.settle_laid_stopped rfl ha hlaid hstate hop hq hw,
      fun ha hlaid hop hq hw hp => Core.settle_assist rfl ha hlaid hop hq hw hp,
      fun ha => Core.settle_aborting_seq rfl ha⟩
    exact (Core.settle_still (s := { s.found us with
      meas := { s.core.meas with conv := none, latch := s.core.meas.latch.set .G (some r) }
      motion := { s.core.motion with cRef := some r.code } }) rfl h).handed
  · have hdeclare : (s.found us).conversionPasses = (s.found us).declareFault c := by
      simp [Core.conversionPasses, hconv, Core.convOver, hkind, hpast]
    refine ⟨_, rfl, ?_⟩
    rw [State.event_core hdeclare]
    obtain ⟨hmotion, hset, hone, hdouble, hheld, hvols, hstep⟩ :=
      Core.declareFault_settled (s := s.found us) hturn harm hstage hfaults hch hreq hpend rfl
    exact ⟨hmotion, hset, hone, hdouble, hheld, hvols, hstep st⟩

end Sys2Proof.Machine
end

section
/-! PROOF. The ends of a flash (O31): lamp-off, recovery, the refusal in the hold, the grant of the window, and the end of
an attempt whose cameras have been judged. -/

namespace Sys2Proof.Machine

/-! ### A charge of view light leaves the flash dose -/

/-- A kept record whose flash dose stands and whose view dose, in its 40 bits, does not fall (R25, R44). -/
structure Volume.ViewGrown (v w : Volume) : Prop extends Volume.Kept v w where
  uF : w.uF = v.uF
  uV : v.uV ≤ max40 → v.uV ≤ w.uV ∧ w.uV ≤ max40

theorem Volume.SameDose.viewGrown {v w : Volume} (h : Volume.SameDose v w) : Volume.ViewGrown v w :=
  ⟨h.toKept, h.uF, fun hv => by rw [h.uV]; exact ⟨Nat.le_refl _, hv⟩⟩

theorem Volume.ViewGrown.trans {u v w : Volume} (h : Volume.ViewGrown u v) (k : Volume.ViewGrown v w) :
    Volume.ViewGrown u w := by
  refine ⟨h.toKept.trans k.toKept, k.uF.trans h.uF, fun hu => ?_⟩
  obtain ⟨h1, h2⟩ := h.uV hu
  obtain ⟨k1, k2⟩ := k.uV h2
  exact ⟨h1.trans k1, k2⟩

theorem Volume.ViewGrown.order : LedgerOrder Volume.ViewGrown :=
  ⟨fun v => (Volume.SameDose.refl v).viewGrown, Volume.ViewGrown.trans⟩

theorem Core.Ledger.viewGrown {s t : Core} (h : Core.Ledger Volume.SameDose s t) : Core.Ledger Volume.ViewGrown s t := by
  refine ⟨fun j => ?_, h.out⟩
  have hj := h.slots j
  generalize s.vols.slots[j] = x at *
  generalize t.vols.slots[j] = y at *
  cases hj with
  | none => exact .none
  | some hvw => exact .some hvw.viewGrown

section
variable (s : Core)

theorem Core.closePeriod_viewGrown : Core.Ledger Volume.ViewGrown s s.closePeriod := by
  have h := Volume.ViewGrown.order
  unfold Core.closePeriod
  split
  · refine .after h (Core.checksStill_ledger _ _).viewGrown (.after h ?_ (.of_eq h rfl rfl))
    unfold Core.chargeView Core.addDose
    exact .after h (.editMounted h _ _ fun _ => ⟨⟨rfl, List.prefix_rfl⟩, rfl, le_satAdd _ _ _⟩) (.of_eq h rfl rfl)
  · exact .refl h s

theorem Core.checks_viewGrown (i : Fin 16) (seq : Option SeqNo) : Core.Ledger Volume.ViewGrown s (s.checks i seq) :=
  s.checksWith_ledger i seq Volume.ViewGrown.order Core.Ledger.viewGrown _ Core.closePeriod_viewGrown

theorem Core.withView_viewGrown (f : ViewLight → ViewLight) : Core.Ledger Volume.ViewGrown s (s.withView f) := by
  have h := Volume.ViewGrown.order
  unfold Core.withView
  dsimp only
  (repeat' split)
  · exact .of_eq h rfl rfl
  · exact .after h (Core.closePeriod_viewGrown _) (.of_eq h rfl rfl)
  · refine .after h ?_ (.of_eq h rfl rfl)
    unfold Core.beginPeriod Core.beginPeriodAt
    split <;> exact .of_eq h rfl rfl

/-- The counters are told of a flash, and nothing else (R181). -/
theorem Core.tellFlash_of (eUsed : Nat) (dimmed : Bool) (cause : Cause) :
    ∃ os, s.tellFlash eUsed dimmed cause = { s with out := s.out ++ os } ∧ ∀ o ∈ os, ∃ e n, o = .count e n := by
  have htell {t u : Core} (e : CounterEvent) (n : Int)
      (h : ∃ os, u = { t with out := t.out ++ os } ∧ ∀ o ∈ os, ∃ e n, o = Out.count e n) :
      ∃ os, u.tell e n = { t with out := t.out ++ os } ∧ ∀ o ∈ os, ∃ e n, o = Out.count e n := by
    obtain ⟨os, rfl, hos⟩ := h
    refine ⟨os ++ [.count e n], by simp [Core.tell, Core.emit], fun o ho => ?_⟩
    rcases List.mem_append.1 ho with h | h
    · exact hos o h
    · exact ⟨e, n, List.mem_singleton.1 h⟩
  have hflash := htell (t := s) (u := s) .flashes 0 ⟨[], by simp, by simp⟩
  unfold Core.tellFlash
  cases dimmed with
  | true =>
    have hdimmed := htell .flashesDimmed 0 hflash
    cases cause with
    | none => exact htell _ _ hdimmed
    | _ => exact htell _ _ (htell _ _ hdimmed)
  | false =>
    cases cause with
    | none => exact htell _ _ hflash
    | _ => exact htell _ _ (htell _ _ hflash)

/-- A charged flash adds its Q to the flash dose of the mounted record, and the checks leave it there (R39, R45). -/
theorem Core.chargeFlash_slot (adm : Admission) (used : Nat × Source × Bool) (q : Nat) (n : SeqNo) (i : Fin 16)
    (v : Volume) (hm : s.vols.mounted = some i) (hv : s.vols.slots[i] = some v) :
    ∃ w, (s.chargeFlash adm used q n).1.vols.slots[i] = some w
      ∧ Volume.ViewGrown { v with uF := satAdd max40 v.uF q } w := by
  have h := Volume.ViewGrown.order
  have hdose : (s.addDose q fun v => { v with uF := satAdd max40 v.uF q }).vols.slots[i] =
      some { v with uF := satAdd max40 v.uF q } := by
    rw [Core.addDose, Core.editMounted_of _ i v _ (by exact hm) (by exact hv), Core.setSlot_get]
  refine Core.Ledger.some_of (s := s.addDose q fun v => { v with uF := satAdd max40 v.uF q }) ?_ hdose
  have hm' : (s.addDose q fun v => { v with uF := satAdd max40 v.uF q }).vols.mounted = some i := by simp [hm]
  unfold Core.chargeFlash
  dsimp only
  rw [hm']
  have htell (t : Core) (e : Nat) (d : Bool) (c : Cause) : Core.Ledger Volume.ViewGrown t (t.tellFlash e d c) := by
    obtain ⟨os, hos, hcounts⟩ := t.tellFlash_of e d c
    rw [hos]
    refine ⟨fun j => h.rel_refl _, os, rfl, fun o ho => ?_⟩
    obtain ⟨e, n, rfl⟩ := hcounts o ho
    rfl
  refine .after h (htell _ _ _ _) (.after h (.editMounted h _ _ fun v => Volume.SameDose.viewGrown
    ⟨⟨rfl, List.prefix_rfl⟩, rfl, rfl⟩) ?_)
  split
  · exact .after h (Core.appendMounted_ledger _ _ _ _ _).viewGrown (Core.checks_viewGrown _ i _)
  · exact Core.checks_viewGrown _ i _

/-! ### Lamp-off and the window result -/

/-- Lamp-off at the end of D with the window result (R78, R79). -/
theorem Core.lampOffEvent_of {f : Flash} {adm : Admission} {c : Conversion} {code : Int} (hlife : s.illum.life = .lit)
    (hf : s.illum.flash = some f) (hadm : f.adm = some adm) (hd : f.litAt + adm.d ≤ s.now) (hc : s.meas.conv = some c)
    (hk : c.kind = .window) : s.lampOffEvent (some code) = (s.lampsOff f).deliver c code := by
  have hconv : (s.lampsOff f).meas.conv = some c := by
    unfold Core.lampsOff Core.captureLampOff
    dsimp only
    (repeat' split) <;> exact hc
  simp only [Core.lampOffEvent, hlife, hf, hadm]
  rw [if_pos hd, hconv]
  exact if_pos hk

/-- A code inside the converter's range is taken as it is, with no flag (R57). -/
theorem Core.resultOf_inRange (ch : Channel) (kind : ConvKind) {code : Int} (hlow : -8388608 < code) (hhigh : code < 8388607) :
    (s.resultOf ch kind code).code = code ∧ (s.resultOf ch kind code).flag = none := by
  have hcode : clampInt (-8388608) fullCode code = code := by
    simp only [clampInt, fullCode]
    omega
  have hfull : ¬ (fullCode : Int) ≤ code := by
    simp only [fullCode]
    omega
  refine ⟨hcode, ?_⟩
  show satFlag code = none
  rw [satFlag, if_neg hfull, if_neg (by omega)]

/-- The figure of a meter that neither saturates nor faults (R38). -/
theorem usedLux_inRange (eApp : Nat) (cal : CalPair) {r : Result} (hflag : r.flag = none) (hcode : r.code < 8388607) :
    usedLux eApp (some cal) (some r) = (meterLux r.code cal, .meter, false) := by
  have hfault : r.faulted = false := by simp [Result.faulted, hflag]
  have hfull : r.code ≠ fullCode := by
    simp only [fullCode]
    omega
  simp only [usedLux, hfault, Bool.false_eq_true, if_false, hfull]

/-- The window result of C_P written and handed on (R57). -/
theorem Core.deliver_window {c : Conversion} (code : Int) (hf : s.faults = []) (hch : c.channel = .P)
    (hreq : c.requesters = [.window]) : s.deliver c code =
      (({ s with meas := { s.meas with
          conv := none, latch := s.meas.latch.set .P (some (s.resultOf .P c.kind code)) } } : Core).handWindow
        (some (s.resultOf .P c.kind code))).grantNext := by
  simp only [Core.deliver, Core.latchResult, hch]
  rw [Core.judgeFaults_nil _ (by exact hf)]
  simp only [Core.handAll, hch, hreq, List.foldl_cons, List.foldl_nil, Core.handTo]
  rw [if_neg (by simp)]

/-- A calibration flash past its lamp-off is answered with its meter's figure, and discarded (R36, R79, R81). -/
theorem Core.handWindow_calibration {f : Flash} {adm : Admission} {entry : Nat} {cal : CalPair} {r : Result}
    (hf : s.illum.closing = some f) (hby : f.by_ = .calibration entry) (hadm : f.adm = some adm)
    (hcal : s.meas.cal.p = some cal) (hflag : r.flag = none) (hcode : r.code < 8388607) :
    ∃ os, s.handWindow (some r) = { s with
        illum := { s.illum with closing := none }
        out := s.out ++ os ++ [.reply entry { status := .done, body := .calFlash (.lit adm r (meterLux r.code cal) .meter) }] }
      ∧ ∀ o ∈ os, ∃ e n, o = .count e n := by
  have hused := usedLux_inRange adm.eApp cal hflag hcode
  obtain ⟨os, hos, hcounts⟩ := Core.tellFlash_of { s with illum := { s.illum with closing := none } }
    (meterLux r.code cal) adm.dimmed adm.cause
  refine ⟨os, ?_, hcounts⟩
  simp only [Core.handWindow, hf, hby, hadm, hcal, hused]
  rw [hos]
  rfl

end

/-- Counts leave the pending replies. -/
theorem Link.foldl_take_counts {os : List Out} (h : ∀ o ∈ os, ∃ e n, o = .count e n) (l : Link) :
    os.foldl Link.take l = l := by
  induction os with
  | nil => rfl
  | cons o os ih =>
    obtain ⟨e, n, rfl⟩ := h o (by simp)
    exact ih fun o ho => h o (by simp [ho])

/-- The calibration flash of O31. -/
theorem calibrationFlashEnds (us : Nat) (f : Flash) (adm : Admission) (entry : Nat) (code : Int) (cal : CalPair)
    (c : Conversion) (s : State) (hlife : s.core.illum.life = .lit) (hf : s.core.illum.flash = some f)
    (hby : f.by_ = .calibration entry) (hadm : f.adm = some adm) (hd : f.litAt + adm.d ≤ (s.found us).now)
    (hconv : s.core.meas.conv = some c) (hkind : c.kind = .window) (hch : c.channel = .P)
    (hreq : c.requesters = [.window]) (hpend : s.core.meas.pending = ⟨none, none, none, none⟩)
    (hcal : s.core.meas.cal.p = some cal) (hfaults : s.core.faults = []) (hlow : -8388608 < code)
    (hhigh : code < 8388607) :
    ∃ t r, exec (.lampOff us (some code)) s = .next t
      ∧ r.code = code ∧ r.flag = none ∧ r.kind = .window ∧ r.stamp = (s.found us).stamp
      ∧ t.core = { s.found us with
          illum := { s.core.illum with
            life := .recovering, flash := none, closing := none, lampOffAt := some (f.litAt + adm.d) }
          meas := { s.core.meas with conv := none, latch := { s.core.meas.latch with p := some r } } }
      ∧ (s.found us).bankDrive = (adm.cVU, adm.cVL, adm.cRU, adm.cRL) ∧ t.core.bankDrive = (0, 0, 0, 0)
      ∧ ∀ p ∈ s.link.pending, p.id = entry →
          { p with reply := some { status := .done, body := .calFlash (.lit adm r (meterLux code cal) .meter) } }
            ∈ t.link.pending := by
  have hoff : (s.found us).lampsOff f = { s.found us with illum := { s.core.illum with
      life := .recovering, flash := none, closing := some f, lampOffAt := some (f.litAt + adm.d) } } := by
    simp [Core.lampsOff, hadm, Flash.isCapture, hby]
  obtain ⟨hcode, hflag⟩ := (s.found us).resultOf_inRange .P .window hlow hhigh
  have hevent := Core.lampOffEvent_of (s.found us) (code := code) hlife hf hadm hd hconv hkind
  obtain ⟨os, hos, hcounts⟩ := Core.handWindow_calibration { s.found us with
      illum := { s.core.illum with
        life := .recovering, flash := none, closing := some f, lampOffAt := some (f.litAt + adm.d) }
      meas := { s.core.meas with
        conv := none, latch := s.core.meas.latch.set .P (some ((s.found us).resultOf .P .window code)) } }
    rfl hby hadm hcal hflag (by rw [hcode]; exact hhigh)
  have hdone : (s.found us).lampOffEvent (some code) = { s.found us with
      illum := { s.core.illum with
        life := .recovering, flash := none, closing := none, lampOffAt := some (f.litAt + adm.d) }
      meas := { s.core.meas with
        conv := none, latch := s.core.meas.latch.set .P (some ((s.found us).resultOf .P .window code)) }
      out := os ++ [.reply entry { status := .done, body := .calFlash (.lit adm
        ((s.found us).resultOf .P .window code) (meterLux code cal) .meter) }] } := by
    rw [hevent, hoff, Core.deliver_window _ code (by exact hfaults) hch hreq, hkind]
    refine (congrArg Core.grantNext hos).trans ?_
    rw [Core.grantNext_idle _ (by exact hpend), hcode]
    rfl
  refine ⟨_, (s.found us).resultOf .P .window code, State.event_next hdone rfl, hcode, hflag, rfl, rfl, rfl, ?_, rfl,
    fun p hp hid => ?_⟩
  · simp [Core.bankDrive, hlife, hf, hadm]
  · show _ ∈ (List.foldl Link.take s.link (os ++ _)).pump.pending
    rw [Link.pump_pending, List.foldl_append, Link.foldl_take_counts hcounts]
    exact List.mem_map.2 ⟨p, hp, if_pos hid⟩

/-! ### Recovery and the refusal in the hold -/

theorem recoveryEnds (us t0 : Nat) (s : State) (hlife : s.core.illum.life = .recovering)
    (hoff : s.core.illum.lampOffAt = some t0) (hdue : t0 + 150000 ≤ (s.found us).now) :
    exec (.recoveryEnd us) s = .next (s.quietly { s.found us with
      illum := { s.core.illum with life := if s.core.illum.hold then .thermalHold else .idle } }) := by
  refine congrArg _ (State.event_quietly us _ s _ ?_ rfl rfl)
  have hdue' : (s.found us).due t0 150 = true := by simp [Core.due, hdue]
  simp only [Core.recoveryOver, State.found_illum, hoff, hdue', if_true, hlife]
  rfl

section
variable (s : Core)

/-- The view light restored: a lit one stays lit, so that no period is closed (R87). -/
theorem Core.restoreView_vols : s.restoreView.vols = s.vols := by
  have hlit : s.illum.view.state = .lit → ({ s.illum.view with suppressed := false } : ViewLight).state = .lit := by
    simp only [ViewLight.state]
    split
    · split
      next h => simp
      next h =>
        intro _
        rw [if_neg (by exact h)]
        rfl
    · simp
  unfold Core.restoreView Core.withView
  dsimp only
  split
  next h => rw [if_pos (hlit h)]
  next => unfold Core.beginPeriod Core.beginPeriodAt; split <;> rfl

/-- An attempt that ends unlit leaves no record, and all but the view light, its period and the attempt as they are
(R118, R121). -/
theorem Core.endUnlit_keeps : s.endUnlit.vols = s.vols ∧ s.endUnlit.motion = s.motion ∧ s.endUnlit.seq = s.seq
    ∧ s.endUnlit.sig = s.sig ∧ s.endUnlit.illum.flash = s.illum.flash ∧ s.endUnlit.illum.life = s.illum.life
    ∧ s.endUnlit.cap.attempt = none ∧ s.endUnlit.cap.ring = s.cap.ring := by
  have hview := s.withView_chargeKept fun v => { v with suppressed := false }
  refine ⟨s.restoreView_vols, ?_, ?_, ?_, ?_, ?_, rfl, ?_⟩ <;> simp [Core.endUnlit, Core.restoreView, hview, Capture.toIdle]

/-- A step that fails leaves the queue, and holds the sequencer (R148). -/
theorem Core.endStep_failed {st : Step} {rest : List Step} (reason : Option StepReason) (extra : StepExtra)
    (hq : s.seq.queue = st :: rest) : Core.OnlySeq s (s.endStep .failed reason extra)
      ∧ (s.endStep .failed reason extra).seq.queue = rest ∧ (s.endStep .failed reason extra).seq.state = .held
      ∧ (s.endStep .failed reason extra).seq.reason = some .stepFailed := by
  simp only [Core.endStep, hq, reduceCtorEq, if_false, if_true]
  obtain ⟨hstate, hreason, hqueue, -⟩ := Core.enterHold_keeps
    (({ s with seq := { s.seq with
      queue := rest, latched := { s.seq.latched with skipped := StepResult.failed == StepResult.skipped } }.noProgress }
      : Core).reportStep st .failed reason extra) .stepFailed
  exact ⟨Core.OnlySeq.trans (by exact rfl) (Core.enterHold_onlySeq _ _), hqueue, hstate, hreason⟩

/-- A CAPTURE step takes the ending of its attempt (R142). -/
theorem Core.stepAttempt_capture {st : Step} {rest : List Step} {ask : SideAsked} {retake : Bool} (e : AttemptEnding)
    (hop : s.seq.op = some .attempt) (hq : s.seq.queue = st :: rest) (hw : st.work = .capture ask retake) :
    s.stepAttempt e = (s.setOp none).endStep e.step.1 e.step.2 (.capture e.added) := by
  simp [Core.stepAttempt, hop, Core.headWork, hq, hw]

/-- A capture flash refused in the hold ends its attempt without a record, and its step fails (R83, R121, R142). -/
theorem Core.refuseFlash_thermal {f : Flash} {side : Side} {a : Attempt} {st : Step} {rest : List Step}
    {ask : SideAsked} {retake : Bool} (hs : s.sig = []) (hold : s.illum.hold = true) (hby : f.by_ = .capture side)
    (ha : s.cap.attempt = some a) (hphase : a.phase = .admitting) (hop : s.seq.op = some .attempt)
    (hq : s.seq.queue = st :: rest) (hw : st.work = .capture ask retake) :
    let t := (s.refuseFlash f { reason := .thermal, figures := none }).settle
    t.illum.flash = none ∧ t.illum.life = .thermalHold ∧ t.cap.attempt = none ∧ t.cap.ring = s.cap.ring
      ∧ t.seq.queue = rest ∧ t.seq.state = .held ∧ t.seq.reason = some .stepFailed ∧ t.vols = s.vols
      ∧ t.motion = s.motion := by
  intro t
  let r : FlashRefusal := { reason := .thermal, figures := none }
  let dropped : Core := { (s.tell .flashesRefused 0).dropFlash with sig := [] }
  have hrefuse : s.refuseFlash f r = ((s.tell .flashesRefused 0).dropFlash).signal (.flashRefused r) := by
    simp only [Core.refuseFlash, hby]
  obtain ⟨hvols, hmotion, hseq, hsig, hflash, hlife, hattempt, hring⟩ := Core.endUnlit_keeps dropped
  have hrefused : dropped.attemptRefused r = dropped.endUnlitWith (.notLit r) := by
    have ha' : dropped.cap.attempt = some a := ha
    simp only [Core.attemptRefused, ha']
    rw [if_pos hphase]
  have hstep := Core.stepAttempt_capture { dropped.endUnlit with sig := [] } (.notLit r) (by rw [hseq]; exact hop)
    (by rw [hseq]; exact hq) hw
  obtain ⟨honly, hqueue, hstate, hreason⟩ := Core.endStep_failed (Core.setOp none { dropped.endUnlit with sig := [] })
    (some .thermal) (.capture (some (.notLit r))) (st := st) (rest := rest) (by rw [Core.setOp_seq, hseq]; exact hq)
  have ht : t = (Core.setOp none { dropped.endUnlit with sig := [] }).endStep .failed (some .thermal)
      (.capture (some (.notLit r))) := by
    show (s.refuseFlash f r).settleWithin 256 = _
    rw [Core.settleWithin_cons 255 _ (.flashRefused r) [] (by rw [hrefuse]; simp [Core.dropFlash, Core.setFlash, hs]), hrefuse]
    show (dropped.attemptRefused r).settleWithin 255 = _
    rw [hrefused, Core.settleWithin_cons 254 _ (.attemptEnded (.notLit r)) [] (by
      rw [Core.endUnlitWith, Core.signal_sig, hsig]
      rfl)]
    show (Core.stepAttempt _ { dropped.endUnlit with sig := [] }).settleWithin 254 = _
    rw [hstep]
    exact Core.settleWithin_of_sig_nil _ _ honly.sig
  rw [ht]
  refine ⟨?_, ?_, ?_, ?_, hqueue, hstate, hreason, ?_, ?_⟩ <;> rw [honly]
  · exact hflash
  · exact hlife.trans (by simp [dropped, Core.dropFlash, Core.setFlash, Core.restLife, hold])
  · exact hattempt
  · exact hring
  · exact hvols
  · exact hmotion

/-! ### The grant of the window -/

/-- The grant of the flash's window with nothing else pending (R54, R55). -/
theorem Core.grantNext_window (hc : s.meas.conv = none)
    (hp : s.meas.pending = ⟨some { kind := .window, requesters := [.window] }, none, none, none⟩) :
    s.grantNext = Core.lampOn { s with meas := { s.meas with
      conv := some { channel := .P, kind := .window, requesters := [.window], since := s.now,
                     limit := s.illum.active.d + 12000 }
      pending := ⟨none, none, none, none⟩ } } := by
  have hn : s.meas.next = some .P := by
    simp only [Measure.next, hp]
    decide
  have hget : s.meas.pending.get .P = some { kind := .window, requesters := [.window] } := by rw [hp]; rfl
  have hset : s.meas.pending.set .P none = ⟨none, none, none, none⟩ := by rw [hp]; rfl
  simp only [Core.grantNext, hc, hn, hget, hset]
  rfl

/-- The banks go on for a capture flash (R77, R122). -/
theorem Core.lampOn_capture {f : Flash} {side : Side} {adm : Admission} (hlife : s.illum.life = .meterWait)
    (hf : s.illum.flash = some f) (hby : f.by_ = .capture side) (hadm : f.adm = some adm) :
    s.lampOn = Core.captureLampOn adm.qPlan { s with
      illum := { s.illum with life := .lit, flash := some { f with litAt := s.now } } } := by
  simp only [Core.lampOn, hf]
  rw [if_pos hlife]
  simp only [hby, hadm]

/-- A lit attempt of both sides with the verso camera ready alone (R122). -/
theorem Core.captureLampOn_of {a : Attempt} {i : Fin 16} {v : Volume} (qPlan : Nat) (ha : s.cap.attempt = some a)
    (hphase : a.phase = .admitting) (hside : a.side = .both) (hV : s.cap.camV.isReady = true)
    (hR : s.cap.camR.isReady = false) (hm : s.vols.mounted = some i) (hv : s.vols.slots[i] = some v)
    (hbound : v.tallies.attempts < 4294967295) :
    s.captureLampOn qPlan = { s.setSlot i (some { v with
        tallies := { v.tallies with attempts := v.tallies.attempts + 1 } }) with
      cap := { s.cap with
        nextSeq := s.cap.nextSeq + 1
        litCount := s.cap.litCount + 1
        camV := { s.cap.camV with trigger := true, sawLow := false, frame := .triggered }
        camR := { s.cap.camR with trigger := true, sawLow := false, frame := .failed .notReady }
        attempt := some { a with
          phase := .lit, seq := s.cap.nextSeq, litStamp := s.stamp
          number := s.cap.litCount + 1, qPlan := qPlan, dose := none, frameSince := none } } } := by
  have hcamV : s.cap.camV.lampOn (a.side.needs .V) =
      { s.cap.camV with trigger := true, sawLow := false, frame := .triggered } := by
    simp [CameraState.lampOn, hside, Side.needs, hV]
  have hcamR : s.cap.camR.lampOn (a.side.needs .R) =
      { s.cap.camR with trigger := true, sawLow := false, frame := .failed .notReady } := by
    simp [CameraState.lampOn, hside, Side.needs, hR]
  simp only [Core.captureLampOn, ha, hcamV, hcamR]
  rw [if_pos hphase, Core.editMounted_of _ i v _ (by exact hm) (by exact hv), bump_of_lt hbound]
  rfl

end

/-- The grant of O31, at the end of a MEASURE of G. -/
theorem windowIsGranted (us entry : Nat) (code : Int) (c : Conversion) (f : Flash) (side : Side) (adm : Admission)
    (a : Attempt) (i : Fin 16) (v : Volume) (s : State) (hconv : s.core.meas.conv = some c) (hch : c.channel = .G)
    (hkind : c.kind = .spot) (hreq : c.requesters = [.measure entry]) (hsince : c.since + 4000 ≤ (s.found us).now)
    (hlimit : (s.found us).now ≤ c.since + c.limit)
    (hpend : s.core.meas.pending = ⟨some { kind := .window, requesters := [.window] }, none, none, none⟩)
    (hfaults : s.core.faults = []) (hlife : s.core.illum.life = .meterWait) (hf : s.core.illum.flash = some f)
    (hby : f.by_ = .capture side) (hadm : f.adm = some adm) (ha : s.core.cap.attempt = some a)
    (hphase : a.phase = .admitting) (hside : a.side = .both) (hV : s.core.cap.camV.isReady = true)
    (hR : s.core.cap.camR.isReady = false) (hm : s.core.vols.mounted = some i) (hv : s.core.vols.slots[i] = some v)
    (hbound : v.tallies.attempts < 4294967295) :
    ∃ t r, exec (.spotResult us code) s = .next t
      ∧ t.core = { s.found us with
          meas := { s.core.meas with
            conv := some { channel := .P, kind := .window, requesters := [.window], since := (s.found us).now,
                           limit := s.core.illum.active.d + 12000 }
            pending := ⟨none, none, none, none⟩
            latch := s.core.meas.latch.set .G (some r) }
          illum := { s.core.illum with life := .lit, flash := some { f with litAt := (s.found us).now } }
          cap := { s.core.cap with
            nextSeq := s.core.cap.nextSeq + 1
            litCount := s.core.cap.litCount + 1
            camV := { s.core.cap.camV with trigger := true, sawLow := false, frame := .triggered }
            camR := { s.core.cap.camR with trigger := true, sawLow := false, frame := .failed .notReady }
            attempt := some { a with
              phase := .lit, seq := s.core.cap.nextSeq, litStamp := (s.found us).stamp
              number := s.core.cap.litCount + 1, qPlan := adm.qPlan, dose := none, frameSince := none } }
          vols := { s.core.vols with
            slots := s.core.vols.slots.set i (some { v with
              tallies := { v.tallies with attempts := v.tallies.attempts + 1 } }) } } := by
  have hmay : (s.found us).mayDeliver c = true := by simp [Core.mayDeliver, hkind, hsince, hlimit]
  have hdeliver : (s.found us).spotArrives code = (s.found us).deliver c code := by
    simp [Core.spotArrives, hconv, hmay]
  have hhand : (s.found us).deliver c code = Core.grantNext (Core.reply entry .done
      (.measured .G ((s.found us).resultOf .G c.kind code)) { s.found us with meas := { s.core.meas with
        conv := none, latch := s.core.meas.latch.set .G (some ((s.found us).resultOf .G c.kind code)) } }) := by
    simp only [Core.deliver, Core.latchResult, hch]
    rw [Core.judgeFaults_nil _ (by exact hfaults)]
    simp only [Core.handAll, hch, hreq, List.foldl_cons, List.foldl_nil, Core.handTo]
    rw [if_neg (by simp)]
    rfl
  rw [Core.grantNext_window _ rfl (by exact hpend), Core.lampOn_capture _ (by exact hlife) (by exact hf) hby hadm,
    Core.captureLampOn_of _ adm.qPlan (by exact ha) hphase hside (by exact hV) (by exact hR) (by exact hm) (by exact hv)
      hbound] at hhand
  exact ⟨_, (s.found us).resultOf .G c.kind code, State.event_next (hdeliver.trans hhand) rfl, rfl⟩

/-! ### The end of a capture flash -/

theorem mem_insertOpening (k m : Nat) (xs : List Nat) : m ∈ insertOpening k xs ↔ m = k ∨ m ∈ xs := by
  induction xs with
  | nil => simp [insertOpening]
  | cons x xs ih =>
    unfold insertOpening
    split
    · simp
    · simp only [List.mem_cons, ih]
      exact or_left_comm

section
variable (s : Core)

@[simp] theorem Core.tellOutcome_chargeKept (opening : Nat) (seq : SeqNo) (outcome : CaptureOutcome) :
    Core.ChargeKeeps s (s.tellOutcome opening seq outcome) := by
  unfold Core.tellOutcome
  dsimp only
  (repeat' split) <;> simp [Core.ChargeKeeps]

/-- A capture that is OK joins the captured set and leaves the doses and the cursor (R20, R124). -/
theorem Core.tellOutcome_ok {i : Fin 16} {v : Volume} (opening : Nat) (seq : SeqNo) (hm : s.vols.mounted = some i)
    (hv : s.vols.slots[i] = some v) : ∃ w, (s.tellOutcome opening seq .ok).vols.slots[i] = some w ∧ w.uF = v.uF
      ∧ w.cursor = v.cursor ∧ ∀ k, k ∈ w.captured ↔ k = opening ∨ k ∈ v.captured := by
  have hvol := Core.volume_of s i v hm hv
  have hedit (f : Volume → Volume) := Core.editMounted_of s i v f hm hv
  cases hc : v.captured.contains opening with
  | true =>
    have htell : s.tellOutcome opening seq .ok = s.setSlot i (some { v with
        tallies := { v.tallies with retakes := bump v.tallies.retakes } }) := by
      simp only [Core.tellOutcome, if_true, hvol, hc, hedit]
    rw [htell]
    refine ⟨_, Core.setSlot_get _ _ _, rfl, rfl, fun k => ⟨.inr, ?_⟩⟩
    rintro (rfl | hk)
    · simpa using hc
    · exact hk
  | false =>
    let v' : Volume := { v with
      captured := insertOpening opening v.captured
      tallies := { v.tallies with captured := bump v.tallies.captured } }
    cases hg : gapAt v.segs opening with
    | some g =>
      have htell : s.tellOutcome opening seq .ok = (s.setSlot i (some v')).appendMounted .gapNoted opening g (some seq) := by
        simp only [Core.tellOutcome, if_true, hvol, hc, Bool.false_eq_true, if_false, hg, hedit, v']
      obtain ⟨w, hw, hsame⟩ := (Core.appendMounted_ledger (s.setSlot i (some v')) (some seq) .gapNoted opening g).some_of
        (Core.setSlot_get _ _ _)
      rw [htell]
      refine ⟨w, hw, hsame.uF, hsame.cursor, fun k => ?_⟩
      rw [hsame.same]
      exact mem_insertOpening _ _ _
    | none =>
      have htell : s.tellOutcome opening seq .ok = s.setSlot i (some v') := by
        simp only [Core.tellOutcome, if_true, hvol, hc, Bool.false_eq_true, if_false, hg, hedit, v']
      rw [htell]
      exact ⟨_, Core.setSlot_get _ _ _, rfl, rfl, fun k => mem_insertOpening _ _ _⟩

/-- A lit attempt of the mounted volume ends OK (R124, R125). -/
theorem Core.finishAttempt_ok {i : Fin 16} {v : Volume} (a : Attempt) (dose : DoseRecord) (ha : a.aborting = false)
    (hm : s.vols.mounted = some i) (hv : s.vols.slots[i] = some v) :
    ∃ w, (s.finishAttempt a .ok dose).vols.slots[i] = some w ∧ w.uF = v.uF ∧ w.cursor = v.cursor
      ∧ (∀ k, k ∈ w.captured ↔ k = a.opening ∨ k ∈ v.captured)
      ∧ (s.finishAttempt a .ok dose).cap.ring = s.cap.ring ++ [.capture (captureRecord i v a .ok dose)]
      ∧ (s.finishAttempt a .ok dose).cap.attempt = none
      ∧ (s.finishAttempt a .ok dose).cap.nextSeq = s.cap.nextSeq
      ∧ (s.finishAttempt a .ok dose).seq = { s.seq with
          latched := { s.seq.latched with captureOk := true, captureDimmed := dose.dimmed } }
      ∧ (s.finishAttempt a .ok dose).sig = s.sig ++ [.attemptEnded (.lit .ok a.seq a.number a.qPlan)]
      ∧ (s.finishAttempt a .ok dose).motion = s.motion
      ∧ (s.finishAttempt a .ok dose).meas = s.meas
      ∧ (s.finishAttempt a .ok dose).illum.life = s.illum.life
      ∧ (s.finishAttempt a .ok dose).illum.flash = s.illum.flash
      ∧ (s.finishAttempt a .ok dose).illum.closing = s.illum.closing
      ∧ (s.finishAttempt a .ok dose).illum.lampOffAt = s.illum.lampOffAt := by
  obtain ⟨os, hos, -⟩ := s.writeRecord_of (.capture (captureRecord i v a .ok dose))
  have hrecord : s.recordAttempt a .ok dose = ({ s with
      cap := { s.cap with ring := s.cap.ring ++ [.capture (captureRecord i v a .ok dose)] }
      out := s.out ++ os } : Core).tellOutcome a.opening a.seq .ok := by
    simp only [Core.recordAttempt, Core.mounted_of s i v hm hv, hos]
  obtain ⟨w, hw, huF, hcursor, hcaptured⟩ := Core.tellOutcome_ok ({ s with
      cap := { s.cap with ring := s.cap.ring ++ [.capture (captureRecord i v a .ok dose)] }
      out := s.out ++ os } : Core) a.opening a.seq hm hv
  have hview := Core.withView_chargeKept ((s.recordAttempt a .ok dose).latchCapture true dose.dimmed)
    fun x => { x with suppressed := false }
  obtain ⟨x, hx, hgrown⟩ := (Core.withView_viewGrown ((s.recordAttempt a .ok dose).latchCapture true dose.dimmed)
    fun x => { x with suppressed := false }).some_of (i := i) (v := w) (by rw [hrecord]; exact hw)
  have hfinish : s.finishAttempt a .ok dose = ({ ((s.recordAttempt a .ok dose).latchCapture true dose.dimmed).restoreView with
      cap := ((s.recordAttempt a .ok dose).latchCapture true dose.dimmed).restoreView.cap.toIdle } : Core).signal
        (.attemptEnded (.lit .ok a.seq a.number a.qPlan)) := if_neg (by simp [ha])
  rw [hfinish]
  have hkeeps : Core.ChargeKeeps ({ s with
      cap := { s.cap with ring := s.cap.ring ++ [.capture (captureRecord i v a .ok dose)] }
      out := s.out ++ os } : Core) (s.recordAttempt a .ok dose) := by
    rw [hrecord]
    exact Core.tellOutcome_chargeKept _ _ _ _
  refine ⟨x, hx, hgrown.uF.trans huF, hgrown.cursor.trans hcursor, fun k => ?_, ?_⟩
  · rw [hgrown.same]
    exact hcaptured k
  · obtain ⟨-, -, hmeas', hmotion', hcap', hseq', -, -, hsig', -, -, hlife', hflash', hclosing', hoff', -⟩ := hkeeps
    obtain ⟨-, -, hmeas, hmotion, hcap, hseq, -, -, hsig, -, -, hlife, hflash, hclosing, hoff, -⟩ := hview
    refine ⟨?_, rfl, ?_, ?_, ?_, hmotion.trans hmotion', hmeas.trans hmeas', hlife.trans hlife', hflash.trans hflash',
      hclosing.trans hclosing', hoff.trans hoff'⟩
    · have hring := congrArg Capture.ring (hcap.trans hcap')
      exact hring
    · have hnext := congrArg Capture.nextSeq (hcap.trans hcap')
      exact hnext
    · have hlatched := congrArg (fun q : Sequencer => { q with
        latched := { q.latched with captureOk := true, captureDimmed := dose.dimmed } }) hseq'
      exact hseq.trans hlatched
    · rw [Core.signal_sig]
      exact congrArg (· ++ _) (hsig.trans hsig')

/-- An attempt with its dose record and its two frames TAKEN ends OK (R123, R124). -/
theorem Core.tryFinish_ok {a : Attempt} {dose : DoseRecord} (ha : s.cap.attempt = some a) (hphase : a.phase = .collecting)
    (hdose : a.dose = some dose) (haborting : a.aborting = false) (hV : s.cap.camV.frame = .taken)
    (hR : s.cap.camR.frame = .taken) : s.tryFinish = s.finishAttempt a .ok dose := by
  have hcamV : s.cap.cam .V = s.cap.camV := rfl
  have hcamR : s.cap.cam .R = s.cap.camR := rfl
  have hsettled (k : Camera) : s.cap.settled a.side k = true := by
    cases k <;> simp [Capture.settled, hcamV, hcamR, hV, hR, FrameState.judged]
  have houtcome : s.cap.outcome a.side = .ok := by simp [Capture.outcome, hcamV, hcamR, hV, hR]
  simp only [Core.tryFinish, ha]
  rw [hphase, hdose, haborting, hsettled, hsettled, houtcome]
  rfl

/-- The dose record of a capture flash whose two frames are TAKEN ends its attempt OK (R123, R124). -/
theorem Core.captureDose_ok {a : Attempt} (dose : DoseRecord) (ha : s.cap.attempt = some a) (hphase : a.phase = .collecting)
    (haborting : a.aborting = false) (hV : s.cap.camV.frame = .taken) (hR : s.cap.camR.frame = .taken) :
    s.captureDose dose = ({ s with cap := { s.cap with attempt := some { a with dose := some dose } } } : Core).finishAttempt
      { a with dose := some dose } .ok dose := by
  unfold Core.captureDose
  rw [ha]
  exact Core.tryFinish_ok _ rfl hphase rfl haborting hV hR

/-- A capture flash past its lamp-off, its two frames TAKEN: the window result charges it and ends its attempt OK (R38,
R79, R123, R124). -/
theorem Core.handWindow_capture {f : Flash} {side : Side} {adm : Admission} {cal : CalPair} {r : Result} {a : Attempt}
    {i : Fin 16} {v : Volume} (hf : s.illum.closing = some f) (hby : f.by_ = .capture side) (hadm : f.adm = some adm)
    (hdark : adm.dark = false) (hcal : s.meas.cal.p = some cal) (hflag : r.flag = none) (hcode : r.code < 8388607)
    (ha : s.cap.attempt = some a) (hphase : a.phase = .collecting) (haborting : a.aborting = false)
    (hV : s.cap.camV.frame = .taken) (hR : s.cap.camR.frame = .taken) (hm : s.vols.mounted = some i)
    (hv : s.vols.slots[i] = some v) :
    ∃ (dose : DoseRecord) (y : Core) (w : Volume),
      s.handWindow (some r) = y.finishAttempt { a with dose := some dose } .ok dose
        ∧ dose.eUsed = meterLux r.code cal ∧ dose.source = .meter ∧ dose.saturated = false
        ∧ dose.q = ceilDiv (meterLux r.code cal * adm.d) 1000 ∧ dose.eApp = adm.eApp ∧ dose.d = adm.d
        ∧ dose.cause = adm.cause ∧ dose.dimmed = adm.dimmed ∧ dose.t = adm.t
        ∧ y.vols.mounted = some i ∧ y.vols.slots[i] = some w
        ∧ Volume.ViewGrown { v with uF := satAdd max40 v.uF (ceilDiv (meterLux r.code cal * adm.d) 1000) } w
        ∧ y.cap = { s.cap with attempt := some { a with dose := some dose } } ∧ y.seq = s.seq ∧ y.sig = s.sig
        ∧ y.motion = s.motion ∧ y.meas = s.meas ∧ y.illum.life = s.illum.life ∧ y.illum.flash = s.illum.flash
        ∧ y.illum.closing = none ∧ y.illum.lampOffAt = s.illum.lampOffAt := by
  let shut : Core := { s with illum := { s.illum with closing := none } }
  let q := ceilDiv (meterLux r.code cal * adm.d) 1000
  let charged := shut.chargeFlash adm (meterLux r.code cal, .meter, false) q a.seq
  have hwindow : shut.chargeWindow adm (some r) a.seq = charged := by
    have hused := usedLux_inRange adm.eApp cal hflag hcode
    have hcal' : shut.meas.cal.p = some cal := hcal
    simp only [Core.chargeWindow, hdark, Bool.false_eq_true, if_false, hcal', hused]
    rfl
  obtain ⟨-, hmounted, hmeas, hmotion, hcap, hseq, -, -, hsig, -, -, hlife, hflash, hclosing, hoff, -⟩ :=
    shut.chargeFlash_chargeKept adm (meterLux r.code cal, .meter, false) q a.seq
  obtain ⟨w, hw, hgrown⟩ := shut.chargeFlash_slot adm (meterLux r.code cal, .meter, false) q a.seq i v hm hv
  refine ⟨charged.2, { charged.1 with cap := { charged.1.cap with attempt := some { a with dose := some charged.2 } } }, w,
    ?_, rfl, rfl, rfl, rfl, rfl, rfl, rfl, rfl, rfl, hmounted.trans hm, hw, hgrown, ?_, hseq, hsig, hmotion, hmeas, hlife,
    hflash, hclosing, hoff⟩
  · have hdose := Core.captureDose_ok charged.1 charged.2 (a := a) (by rw [hcap]; exact ha) hphase haborting
      (by rw [hcap]; exact hV) (by rw [hcap]; exact hR)
    rw [← hdose, ← hwindow]
    simp only [Core.handWindow, hf, hby, hadm, ha]
    rfl
  · exact congrArg (fun x : Capture => { x with attempt := some { a with dose := some charged.2 } }) hcap

end

/-- The capture flash of O31, whose cameras have both been judged TAKEN. -/
theorem captureFlashEnds (us : Nat) (code : Int) (f : Flash) (side : Side) (adm : Admission) (a : Attempt) (cal : CalPair)
    (c : Conversion) (i : Fin 16) (v : Volume) (st : Step) (ask : SideAsked) (retake : Bool) (e qq : Nat) (s : State)
    (hlife : s.core.illum.life = .lit) (hf : s.core.illum.flash = some f) (hby : f.by_ = .capture side)
    (hadm : f.adm = some adm) (hdark : adm.dark = false) (hd : f.litAt + adm.d ≤ (s.found us).now)
    (hconv : s.core.meas.conv = some c) (hkind : c.kind = .window) (hch : c.channel = .P)
    (hreq : c.requesters = [.window]) (hpend : s.core.meas.pending = ⟨none, none, none, none⟩)
    (hcal : s.core.meas.cal.p = some cal) (hfaults : s.core.faults = []) (hlow : -8388608 < code)
    (hhigh : code < 8388607) (ha : s.core.cap.attempt = some a) (hphase : a.phase = .lit) (haborting : a.aborting = false)
    (hside : a.side = .both) (hV : s.core.cap.camV.frame = .taken) (hR : s.core.cap.camR.frame = .taken)
    (hm : s.core.vols.mounted = some i) (hv : s.core.vols.slots[i] = some v) (hstate : s.core.seq.state = .running)
    (hop : s.core.seq.op = some .attempt) (hq : s.core.seq.queue = [st]) (hw : st.work = .capture ask retake)
    (he : e = ((max 0 (min 8388607 (code - cal.x))).toNat * cal.y.toNat + 8388607 - 1) / 8388607)
    (hqq : qq = (e * adm.d + 1000 - 1) / 1000) :
    ∃ t dose v', exec (.lampOff us (some code)) s = .next t
      ∧ t.core.cap.ring = s.core.cap.ring ++
          [.capture { seq := a.seq, stamp := a.litStamp, slot := i.val, inst := v.inst, opening := a.opening,
                      left := some (leftLabel v.segs a.opening), right := some (rightLabel v.segs a.opening),
                      gapBefore := gapBefore v.segs a.opening, side := .both, number := a.number, outcome := .ok,
                      dose := dose }]
      ∧ dose.eUsed = e ∧ dose.source = .meter ∧ dose.saturated = false ∧ dose.q = qq ∧ dose.eApp = adm.eApp
      ∧ dose.d = adm.d ∧ dose.cause = adm.cause ∧ dose.dimmed = adm.dimmed ∧ dose.t = adm.t
      ∧ t.core.cap.attempt = none ∧ t.core.cap.nextSeq = s.core.cap.nextSeq
      ∧ t.core.vols.slots[i] = some v' ∧ v'.uF = min 1099511627775 (v.uF + qq) ∧ v'.cursor = v.cursor
      ∧ (∀ k, k ∈ v'.captured ↔ k = a.opening ∨ k ∈ v.captured)
      ∧ t.core.illum.life = .recovering ∧ t.core.illum.flash = none ∧ t.core.illum.closing = none
      ∧ t.core.illum.lampOffAt = some (f.litAt + adm.d)
      ∧ t.core.seq.queue = [] ∧ t.core.seq.state = .idle ∧ t.core.seq.latched.captureOk = true
      ∧ t.core.seq.latched.captureDimmed = adm.dimmed ∧ t.core.motion = s.core.motion := by
  obtain ⟨hcode, hflag⟩ := (s.found us).resultOf_inRange .P .window hlow hhigh
  let ended : Attempt := { a with phase := .collecting, frameSince := none, frameLimit := s.core.cap.frameTimeout }
  let off : Core := { s.found us with
    illum := { s.core.illum with
      life := .recovering, flash := none, closing := some f, lampOffAt := some (f.litAt + adm.d) }
    cap := { s.core.cap with
      camV := s.core.cap.camV.release, camR := s.core.cap.camR.release
      attempt := some ended } }
  let latched : Core := { off with meas := { s.core.meas with
    conv := none, latch := s.core.meas.latch.set .P (some ((s.found us).resultOf .P .window code)) } }
  have hoff : (s.found us).lampsOff f = off := by
    have hcapture : f.isCapture = true := by simp [Flash.isCapture, hby]
    simp [Core.lampsOff, hcapture, Core.captureLampOff, ha, hphase, hadm, hV, hR, off, ended, State.found]
  obtain ⟨dose, y, w, hhand, hused, hsource, hsat, hQ, heApp, hD, hcause, hdimmed, hT, hmounted, hslot, hgrown, hcap, hseq,
    hsig, hmotion, hmeas, hylife, hyflash, hyclosing, hyoff⟩ :=
    Core.handWindow_capture latched (r := (s.found us).resultOf .P .window code) (a := ended) rfl hby hadm hdark hcal hflag
      (by rw [hcode]; exact hhigh) rfl rfl haborting hV hR hm hv
  obtain ⟨x, hx, huF, hcursor, hcaptured, hring, hattempt, hnext, hzseq, hzsig, hzmotion, hzmeas, hzlife, hzflash, hzclosing,
    hzoff⟩ := y.finishAttempt_ok { ended with dose := some dose } dose haborting hmounted hslot
  generalize hz : y.finishAttempt { ended with dose := some dose } .ok dose = z at *
  have hevent : (s.found us).lampOffEvent (some code) = z := by
    rw [Core.lampOffEvent_of (s.found us) hlife hf hadm hd hconv hkind, hoff,
      Core.deliver_window _ code (by exact hfaults) hch hreq, hkind]
    refine (congrArg Core.grantNext hhand).trans (Core.grantNext_idle _ ?_)
    rw [hzmeas, hmeas]
    exact hpend
  let told : Core := { z with sig := [] }
  have hqueue : told.seq.queue = [st] := by
    show z.seq.queue = _
    rw [hzseq, hseq]
    exact hq
  have hstep := Core.stepAttempt_capture told (.lit .ok a.seq a.number a.qPlan)
    (by show z.seq.op = _; rw [hzseq, hseq]; exact hop) hqueue hw
  have honly := (told.setOp none).endStep_onlySeq none (.capture (some (.lit .ok a.seq a.number a.qPlan)))
    (.inr ⟨st, hqueue⟩)
  have hlast := (told.setOp none).endStep_last none (.capture (some (.lit .ok a.seq a.number a.qPlan))) hqueue
    (by show z.seq.state = _; rw [hzseq, hseq]; exact hstate)
  have hsettle : z.settle = (told.setOp none).endStep .done none (.capture (some (.lit .ok a.seq a.number a.qPlan))) := by
    show z.settleWithin 256 = _
    rw [Core.settleWithin_cons 255 z (.attemptEnded (.lit .ok a.seq a.number a.qPlan)) [] (by rw [hzsig, hsig]; rfl)]
    exact (congrArg _ hstep).trans (Core.settleWithin_of_sig_nil _ _ honly.sig)
  refine ⟨_, dose, x, rfl, ?_⟩
  rw [State.event_core hevent, hsettle]
  have hE : e = meterLux ((s.found us).resultOf .P .window code).code cal := by rw [hcode]; exact he
  rw [← hE] at hused hQ hgrown
  have hinst : w.inst = v.inst := by rw [hgrown.same]
  have hsegs : w.segs = v.segs := by rw [hgrown.same]
  have hset : w.captured = v.captured := by rw [hgrown.same]
  have hslots := congrArg (fun t : Core => t.vols.slots[i]) honly
  refine ⟨?_, hused, hsource, hsat, hQ.trans hqq.symm, heApp, hD, hcause, hdimmed, hT, ?_, ?_, hslots.trans hx, ?_,
    hcursor.trans hgrown.cursor, fun k => by rw [← hset]; exact hcaptured k, ?_, ?_, ?_, ?_, ?_, ?_, ?_, ?_, ?_⟩
  · rw [honly]
    show z.cap.ring = _
    rw [hring, hcap]
    simp [captureRecord, hinst, hsegs, hside, Side.needs, ended, latched, off]
  · rw [honly]
    exact hattempt
  · rw [honly]
    exact hnext.trans (by rw [hcap])
  · rw [huF, hgrown.uF, hqq]
    rfl
  · rw [honly]
    exact hzlife.trans hylife
  · rw [honly]
    exact hzflash.trans hyflash
  · rw [honly]
    exact hzclosing.trans hyclosing
  · rw [honly]
    exact hzoff.trans hyoff
  · rw [hlast]
    rfl
  · rw [hlast]
    rfl
  · rw [hlast]
    show z.seq.latched.captureOk = true
    rw [hzseq]
  · rw [hlast]
    show z.seq.latched.captureDimmed = adm.dimmed
    rw [hzseq]
    exact hdimmed
  · rw [honly]
    exact hzmotion.trans hmotion

/-- A flash that has waited 60 s in the hold, of O31. -/
theorem thermalWaitEnds (us t0 : Nat) (f : Flash) (side : Side) (a : Attempt) (st : Step) (rest : List Step)
    (ask : SideAsked) (retake : Bool) (s : State) (hlife : s.core.illum.life = .thermalHold)
    (hold : s.core.illum.hold = true) (hf : s.core.illum.flash = some f) (hby : f.by_ = .capture side)
    (hmet : f.metHold = some t0) (hdue : t0 + 60000000 ≤ (s.found us).now) (ha : s.core.cap.attempt = some a)
    (hphase : a.phase = .admitting) (hop : s.core.seq.op = some .attempt) (hq : s.core.seq.queue = st :: rest)
    (hw : st.work = .capture ask retake) :
    ∃ t, exec (.thermalWaitExpiry us) s = .next t
      ∧ t.core.illum.flash = none ∧ t.core.illum.life = .thermalHold
      ∧ t.core.cap.attempt = none ∧ t.core.cap.ring = s.core.cap.ring
      ∧ t.core.seq.queue = rest ∧ t.core.seq.state = .held ∧ t.core.seq.reason = some .stepFailed
      ∧ t.core.vols = s.core.vols ∧ t.core.motion = s.core.motion := by
  have hdue' : (s.found us).due t0 60000 = true := by simp [Core.due, hdue]
  have hover : (s.found us).thermalWaitOver = (s.found us).refuseFlash f { reason := .thermal, figures := none } := by
    simp only [Core.thermalWaitOver, State.found_illum, hlife, hf, hmet, hdue', if_true]
  refine ⟨_, rfl, ?_⟩
  rw [State.event_core hover]
  exact Core.refuseFlash_thermal (s.found us) rfl hold hby ha hphase hop hq hw

/-- Settles O31, by its five ends of a flash. -/
theorem flashesEnd : Obligations.FlashesEnd := by
  refine ⟨⟨calibrationFlashEnds, fun us t0 s => ⟨recoveryEnds us t0 s, fun f side a st rest ask retake => ?_⟩⟩,
    windowIsGranted, captureFlashEnds⟩
  exact thermalWaitEnds us t0 f side a st rest ask retake s

end Sys2Proof.Machine
end

section
/-! PROOF. The keys of the panel (O56): what each press makes of the blocks, and the steps that it starts. -/

namespace Sys2Proof.Machine

/-! ### A press and its end -/

/-- A press that is due, carried out to its end: its blocks, and its messages handed over. -/
theorem State.pressed {us : Nat} {key : PanelInput} {s : State} {z : Core} (hdue : (s.found us).pressDue key = true)
    (hz : (((s.found us).setPressed key).pressAction key).settle = z) :
    ∃ t, (.next (s.event us (Core.press key)) : Result') = .next t ∧ t.core = { z with out := [], sig := [] }
      ∧ t.link = (z.out.foldl Link.take s.link).pump := by
  have hpress : (s.found us).press key = ((s.found us).setPressed key).pressAction key := if_pos hdue
  refine ⟨_, rfl, ?_, ?_⟩
  · rw [State.event_core hpress, hz]
  · rw [← hz, ← hpress]
    rfl

/-- A press that is due and hands nothing between the units. -/
theorem State.pressed_quiet {us : Nat} {key : PanelInput} {s : State} {z : Core} (hdue : (s.found us).pressDue key = true)
    (hact : ((s.found us).setPressed key).pressAction key = z) (hs : z.sig = []) :
    ∃ t, (.next (s.event us (Core.press key)) : Result') = .next t ∧ t.core = { z with out := [], sig := [] }
      ∧ t.link = (z.out.foldl Link.take s.link).pump :=
  State.pressed hdue (by rw [hact, Core.settle_of_sig_nil _ hs])

/-- A press that is due and sounds the tone without a report. -/
theorem State.pressed_tone {us : Nat} {key : PanelInput} {s : State} (hdue : (s.found us).pressDue key = true)
    (hact : ((s.found us).setPressed key).pressAction key = ((s.found us).setPressed key).tone) :
    (.next (s.event us (Core.press key)) : Result') = .next (s.quietly (((s.found us).setPressed key).tone)) :=
  congrArg _ (State.event_quietly us _ s _ ((if_pos hdue).trans hact) rfl rfl)

/-- While a frame is sent, a report that a command has made stands in the queue when there is room for its reports. -/
theorem State.mem_reports {os : List Out} {l : Link} {r : Report} (htx : l.tx ≠ none)
    (h : l.reports.length + (os.filterMap Out.asReport).length ≤ 32) (hr : .report r ∈ os) :
    r ∈ ((os.foldl Link.take l).pump).reports := by
  rw [State.reports_of_busy htx h, List.mem_append, List.mem_filterMap]
  exact .inr ⟨_, hr, rfl⟩

theorem nextStepId_eq (n : Nat) : nextStepId n = stepIdAfter n := by
  unfold nextStepId stepIdAfter
  split <;> split <;> omega

section
variable (s : Core)

/-! ### The volume that a key acts on -/

theorem Core.volume_none (h : s.vols.mounted = none) : s.volume = none := by
  simp [Core.volume, Core.mounted, h]

theorem Core.openingCaptured_of {i : Fin 16} {v : Volume} (hm : s.vols.mounted = some i) (hv : s.vols.slots[i] = some v) :
    s.openingCaptured = decide (v.cursor ∈ v.captured) := by
  rw [Core.openingCaptured, Core.volume_of s i v hm hv]
  exact List.contains_eq_mem _ _

/-! ### Keys that sound the tone -/

theorem Core.pressAdvance_tone (h : s.seq.state = .running ∨ s.seq.state = .halting
    ∨ (s.seq.state = .held ∧ s.assisting = false) ∨ (s.seq.state = .idle ∧ s.vols.mounted = none)) :
    s.pressAdvance = s.tone := by
  unfold Core.pressAdvance
  rcases h with h | h | ⟨h, ha⟩ | ⟨h, hm⟩
  · simp [h]
  · simp [h]
  · simp [h, ha]
  · simp [h, s.volume_none hm]

theorem Core.pressRetake_tone (h : s.seq.state ≠ .idle ∨ s.vols.mounted = none) : s.pressRetake = s.tone := by
  refine if_neg fun ⟨hidle, hmounted⟩ => ?_
  rcases h with h | h
  · exact h hidle
  · simp [Core.mounted, h] at hmounted

theorem Core.pressBack_tone (h : s.cursor = 0 ∨ s.quiet = false) : s.pressBack = s.tone := by
  unfold Core.pressBack
  split
  next v hv =>
    refine if_neg fun ⟨hpos, hquiet⟩ => ?_
    rcases h with h | h
    · simp only [Core.cursor, hv] at h
      omega
    · exact absurd (h.symm.trans hquiet) (by decide)
  · rfl

/-- TURNED is not accepted (R164). -/
theorem Core.mayConfirm_false {v : Volume} (h : s.motion.arm ≠ .parked ∨ s.motion.platen ≠ .up ∨ s.seq.state = .running
    ∨ s.seq.state = .halting ∨ v.leaves ≤ v.cursor) : s.mayConfirm v = false := by
  rcases h with h | h | h | h | h
  · simp [Core.mayConfirm, h]
  · simp [Core.mayConfirm, h]
  · simp [Core.mayConfirm, h]
  · simp [Core.mayConfirm, h]
  · simp [Core.mayConfirm, Nat.not_lt.mpr h]

theorem Core.pressTurned_tone (h : s.vols.mounted = none ∨ s.motion.arm ≠ .parked ∨ s.motion.platen ≠ .up
    ∨ s.seq.state = .running ∨ s.seq.state = .halting ∨ (∃ v, s.volume = some v ∧ v.leaves ≤ v.cursor)) :
    s.pressTurned = s.tone := by
  unfold Core.pressTurned
  split
  next v hv =>
    have hno : s.mayConfirm v = false := by
      refine s.mayConfirm_false ?_
      rcases h with h | h | h | h | h | ⟨w, hw, hlast⟩
      · rw [s.volume_none h] at hv
        exact absurd hv (by simp)
      · exact .inl h
      · exact .inr (.inl h)
      · exact .inr (.inr (.inl h))
      · exact .inr (.inr (.inr (.inl h)))
      · rw [hw] at hv
        exact .inr (.inr (.inr (.inr (Option.some.inj hv ▸ hlast))))
    simp [hno]
  · rfl

/-! ### HOLD -/

theorem Core.pressHold_idle (h : s.seq.state = .idle) (hp : s.seq.pause = none) :
    ∃ os, s.pressHold = { s with seq := { s.seq with state := .held, reason := some .halt }, out := os } := by
  have hhalt : s.halt = { s with seq := { s.seq with state := .held, reason := some .halt } }.reportHold .halt := by
    rw [Core.halt, h]
    exact Core.setHold_still s _ hp
  rw [Core.pressHold, hhalt]
  exact ⟨_, rfl⟩

theorem Core.pressHold_running (h : s.seq.state = .running) (hop : s.seq.op ≠ none) :
    ∃ os, s.pressHold = { s with seq := { s.seq with state := .halting, reason := none }, out := os } := by
  have hhalt : s.halt = { s with seq := { s.seq with state := .halting, reason := none } } := by
    rw [Core.halt, h]
    exact if_pos (Option.isSome_iff_ne_none.mpr hop)
  rw [Core.pressHold, hhalt]
  exact ⟨_, rfl⟩

theorem Core.pressHold_stopped (h : s.seq.state = .halting ∨ s.seq.state = .held) :
    ∃ os, s.pressHold = { s with out := os } := by
  have hhalt : s.halt = s := by
    unfold Core.halt
    rcases h with h | h <;> rw [h]
  rw [Core.pressHold, hhalt]
  exact ⟨_, rfl⟩

/-! ### CONTINUE -/

theorem dropFault_all {es : List FaultEntry} {k : FaultKind} (h : ∀ e ∈ es, e.kind = k) : dropFault k es = [] := by
  simpa [dropFault] using h

theorem dropFault_other {es : List FaultEntry} {k : FaultKind} (h : ∀ e ∈ es, e.kind ≠ k) : dropFault k es = es := by
  simpa [dropFault] using h

theorem findFault_other {es : List FaultEntry} {k : FaultKind} (h : ∀ e ∈ es, e.kind ≠ k) : findFault k es = none := by
  simpa [findFault] using h

theorem Core.resumeTests_pass (hf : s.faults = []) (hb : s.panel.broken = false) (hr : 5 ≤ s.freeExceptions) :
    s.resumeTests = none := by
  simp [Core.resumeTests, hf, hb, Nat.not_lt.mpr hr]

/-- The hold released with no step behind it (R152). -/
theorem Core.release_empty (hq : s.seq.queue = []) :
    s.release = { s with seq := { s.seq with state := .idle, reason := none, interlock := false } } := by
  simp [Core.release, hq, Core.setSeq]

/-- CONTINUE with nothing in the fault set but VACUUM_LOST, the other tests passed and an empty queue (R165). -/
theorem Core.pressContinue_idle (key : PanelInput) (hheld : s.seq.state = .held) (hb : s.panel.broken = false)
    (hr : 5 ≤ s.freeExceptions) (hq : s.seq.queue = []) (hf : ∀ e ∈ s.faults, e.kind = .vacuumLost) :
    ∃ os, s.pressContinue key = { s with
      faults := [], seq := { s.seq with state := .idle, reason := none, interlock := false }, out := os } := by
  have hclear : s.clearVacuum = { s with faults := [] } := by rw [Core.clearVacuum, dropFault_all hf]
  have hanswer : s.clearVacuum.resumeAnswer = .done := by
    rw [hclear, Core.resumeAnswer, if_pos (by exact hheld), Core.resumeTests_pass _ rfl (by exact hb) (by exact hr)]
    rfl
  unfold Core.pressContinue
  dsimp only
  rw [hanswer, if_pos rfl, hclear, Core.release_empty _ (by exact hq)]
  exact ⟨_, rfl⟩

/-- CONTINUE with a RESUME that is refused (R165). -/
theorem Core.pressContinue_refused (key : PanelInput) (hf : ∀ e ∈ s.faults, e.kind ≠ .vacuumLost)
    (h : s.resumeAnswer ≠ .done) :
    s.pressContinue key = (s.reportPress key (.cont false s.resumeAnswer)).tone := by
  have hclear : s.clearVacuum = s := by rw [Core.clearVacuum, dropFault_other hf]
  unfold Core.pressContinue
  dsimp only
  rw [hclear, if_neg h, findFault_other hf]
  rfl

theorem Core.resumeAnswer_eq : s.resumeAnswer =
    if s.seq.state ≠ .held then .refused .state
    else if s.faults ≠ [] then .refused .stillPresent
    else if s.panel.broken = true then .refused .interlock
    else if s.freeExceptions < 5 then .full else .done := by
  unfold Core.resumeAnswer Core.resumeTests
  split_ifs <;> simp_all

theorem Core.pressAdvance_continue (hheld : s.seq.state = .held) (ha : s.assisting = true) :
    s.pressAdvance = s.pressContinue .advance := if_pos ⟨hheld, ha⟩

/-! ### The head step is started -/

theorem Core.startCheck_pass (hf : s.faults = []) (hr : 5 ≤ s.freeExceptions) (hb : s.panel.broken = false) :
    s.startCheck = none := by
  simp [Core.startCheck, hf, hb, Nat.not_lt.mpr hr]

theorem Core.startCheck_interlock (hf : s.faults = []) (hr : 5 ≤ s.freeExceptions) (hb : s.panel.broken = true) :
    s.startCheck = some .interlock := by
  simp [Core.startCheck, hf, hb, Nat.not_lt.mpr hr]

section
variable {st : Step} {rest : List Step} (hq : s.seq.queue = st :: rest) (hrun : s.seq.state = .running)
  (hnew : s.seq.started = false) (hgate : st.gate = none) (hcap : s.alreadyCaptured st.work = false)
include hq hrun hnew hgate hcap

/-- A head step without a guard that the start check stops is held (R141). -/
theorem Core.startHead_holds {r : HoldReason} (hchecked : st.work.checked = true) (h : s.startCheck = some r) :
    s.startHead = s.holdAtStart r := by
  have hguard : s.guardFails st.gate = false := by rw [hgate]; rfl
  simp [Core.startHead, hq, hrun, hnew, hguard, hcap, hchecked, h]

/-- A head step without a guard that nothing stops begins (R141). -/
theorem Core.startHead_begins (h : st.work.checked = false ∨ s.startCheck = none) : s.startHead = s.beginWork st.work := by
  have hguard : s.guardFails st.gate = false := by rw [hgate]; rfl
  rcases h with h | h
  · simp [Core.startHead, hq, hrun, hnew, hguard, hcap, h]
  · simp [Core.startHead, hq, hrun, hnew, hguard, hcap, h]

end

/-- The hold of a broken curtain for a step that is to start (R141, R149). -/
theorem Core.holdInterlock_running (hrun : s.seq.state = .running) (hi : s.seq.interlock = false) (hp : s.seq.pause = none) :
    ∃ os, s.holdInterlock =
      { s with seq := { s.seq with state := .held, reason := some .interlock, interlock := true }, out := os } := by
  have hhold : s.enterHold .interlock =
      { s with seq := { s.seq with state := .held, reason := some .interlock } }.reportHold .interlock := by
    rw [Core.enterHold, if_neg (by simp [hrun]), Core.setHold_still s _ hp]
  unfold Core.holdInterlock
  dsimp only
  rw [hhold, if_neg (by exact Bool.eq_false_iff.mp hi)]
  exact ⟨_, rfl⟩

/-! ### The operations that a step asks for -/

theorem Core.CradleReady.congr {s t : Core} (h : s.CradleReady) (hmotion : t.motion = s.motion)
    (hbroken : t.panel.broken = s.panel.broken) : t.CradleReady where
  platen := hmotion ▸ h.platen
  moving := hmotion ▸ h.moving
  stopped := hmotion ▸ h.stopped
  arm := hmotion ▸ h.arm
  curtain := hbroken ▸ h.curtain

theorem Core.ConverterFree.congr {s t : Core} (h : s.ConverterFree) (hmeas : t.meas = s.meas) : t.ConverterFree where
  conv := hmeas ▸ h.conv
  pending := hmeas ▸ h.pending

/-- A turn asked for with the cradle ready (R101, R102): the cup is sent down. -/
theorem Core.askTurn_ready {i : Fin 16} {v : Volume} (hm : s.vols.mounted = some i) (hv : s.vols.slots[i] = some v)
    (hlt : v.cursor < v.leaves) (hf : s.faults = []) (hready : s.CradleReady) (ht : s.motion.turn = none)
    (hw : s.motion.turnWait = none) (hc : s.motion.cRef ≠ none) (hfold : isFoldout v.segs (v.cursor + 1) = false) :
    s.askTurn = { s with motion := { s.motion with
      turn := some (Turn.first v.cursor), turnWait := none, arm := .moving .lifting, stage := .descend
      armSince := s.now } } := by
  have hvol := Core.volume_of s i v hm hv
  have hlast : ¬ v.leaves ≤ v.cursor := Nat.not_le.mpr hlt
  have hup : s.turnAtUp = ({ s with motion := { s.motion with
      turn := some (Turn.first v.cursor), turnWait := none } }).startArm .lifting .descend := by
    simp [Core.turnAtUp, hvol, hlast, hfold, Turn.first]
  have hask : s.askTurn = s.turnAtUp := by
    simp [Core.askTurn, Core.turnFromPlaten, Core.askRaise, ht, hw, hvol, hc, hlast, hready.platen, hready.arm,
      hready.moving, hready.stopped]
  rw [hask, hup, Core.startArm_clear _ _ _ (by exact hready.curtain) (by exact hf)]

/-- A lowering asked for with the cradle ready and the converter free begins (R97, R98). -/
theorem Core.askLowering_ready (hf : s.faults = []) (hready : s.CradleReady) (hfree : s.ConverterFree) :
    s.askLowering = { s with
      motion := { s.motion with settle := none, platen := .moving .lowering, platenSince := s.now, sampleAt := s.now }
      meas := { s.meas with
        conv := some { channel := .F, kind := .spot, requesters := [.force], since := s.now, limit := 12000 } } } := by
  have hask : s.askLowering = s.beginLowering := by
    simp [Core.askLowering, hready.platen, hready.arm, hready.moving, hready.stopped]
  have hstart : ({ s with motion := { s.motion with settle := none } }).startPlaten .lowering = { s with
      motion := { s.motion with settle := none, platen := .moving .lowering, platenSince := s.now } } := by
    rw [Core.startPlaten, Core.setPlaten_nil _ _ (by exact hf), if_neg (by exact Bool.eq_false_iff.mp hready.curtain)]
  rw [hask, Core.beginLowering]
  dsimp only
  rw [hstart, if_pos rfl, Core.sampleForce, Core.post_free _ _ _ (by exact hfree.conv) (by exact hfree.pending)]

/-- An attempt as it takes its place in the ring at an opening (R116 to R118). -/
def Attempt.placed (ask : SideAsked) (v : Volume) : Attempt :=
  { newAttempt ask with opening := v.cursor, side := resolveSide ask v.cursor v.leaves, phase := .preparing }

/-- An attempt asked for with room in the ring, the cradle ready and the view light off begins to lower the platen (R116
to R118). -/
theorem Core.askAttempt_ready (ask : SideAsked) {i : Fin 16} {v : Volume} (hm : s.vols.mounted = some i)
    (hv : s.vols.slots[i] = some v) (hf : s.faults = []) (hready : s.CradleReady) (hfree : s.ConverterFree)
    (ha : s.cap.attempt = none) (hk : s.cap.mark = none) (hroom : s.cap.ring.length < 64)
    (hw : s.illum.view.wanted = false) :
    s.askAttempt ask = { s.lowered with cap := { s.cap with attempt := some (Attempt.placed ask v) } } := by
  have hroom' : s.cap.hasRoom = true := by simpa [Capture.hasRoom, Capture.reserved, ha] using hroom
  have hplace : s.askAttempt ask = ((s.setAttempt (Attempt.placed ask v)).withView
      fun v => { v with suppressed := true }).askLowering := by
    have hfix : s.fixAttempt (newAttempt ask) =
        { newAttempt ask with opening := v.cursor, side := resolveSide ask v.cursor v.leaves } := by
      simp [Core.fixAttempt, Core.volume_of s i v hm hv, newAttempt]
    rw [Core.askAttempt, if_neg (by simp [ha, hk]), if_neg (by simp [Core.mounted_of s i v hm hv])]
    dsimp only
    rw [if_pos hroom', Core.gainPlace]
    dsimp only
    rw [hfix]
    rfl
  have hdark (x : ViewLight) (hx : x.wanted = false) : x.state ≠ .lit := by simp [ViewLight.state_off x hx]
  rw [hplace, Core.withView_dark _ _ (by exact hdark _ hw) (by exact hdark _ hw)]
  refine (Core.askLowering_ready _ (by exact hf) ?_ ?_).trans rfl
  · exact hready.congr rfl rfl
  · exact hfree.congr rfl

/-! ### A step queued by a key -/

/-- ADVANCE at an opening not yet captured and RETAKE, in IDLE, queue a CAPTURE that has not been made (R162, R163). -/
theorem Core.pressAction_capture {i : Fin 16} {v : Volume} (hm : s.vols.mounted = some i) (hv : s.vols.slots[i] = some v)
    {key : PanelInput} {retake : Bool}
    (hk : (key = .advance ∧ retake = false ∧ v.cursor ∉ v.captured) ∨ (key = .retake ∧ retake = true))
    (hidle : s.seq.state = .idle) : s.pressAction key = s.queueByPanel key (.capture .auto retake)
      ∧ s.alreadyCaptured (.capture .auto retake) = false := by
  rcases hk with ⟨rfl, rfl, hfresh⟩ | ⟨rfl, rfl⟩
  · have hcap : s.openingCaptured = false := by rw [s.openingCaptured_of hm hv, decide_eq_false hfresh]
    simp [Core.pressAction, Core.pressAdvance, hidle, Core.volume_of s i v hm hv, hcap, Core.alreadyCaptured]
  · simp [Core.pressAction, Core.pressRetake, hidle, Core.mounted_of s i v hm hv, Core.alreadyCaptured]

/-- ADVANCE in IDLE at a captured opening below L queues a TURN (R162). -/
theorem Core.pressAdvance_turn {i : Fin 16} {v : Volume} (hm : s.vols.mounted = some i) (hv : s.vols.slots[i] = some v)
    (hidle : s.seq.state = .idle) (hcaptured : v.cursor ∈ v.captured) (hlt : v.cursor < v.leaves) :
    s.pressAdvance = s.queueByPanel .advance .turn := by
  have hcap : s.openingCaptured = true := by rw [s.openingCaptured_of hm hv, decide_eq_true hcaptured]
  simp [Core.pressAdvance, hidle, Core.volume_of s i v hm hv, hcap, hlt]

section
variable (key : PanelInput) (w : StepWork) (hs : s.sig = []) (hidle : s.seq.state = .idle) (hq : s.seq.queue = [])
  (hnew : s.seq.started = false) (hp : s.seq.pause = none) (hf : s.faults = []) (hr : 5 ≤ s.freeExceptions)
  (hchecked : w.checked = true) (hcap : s.alreadyCaptured w = false)

/-- The blocks with a step of the panel appended, reported and about to start (R136, R160). -/
def Core.panelQueued (key : PanelInput) (w : StepWork) (s : Core) : Core :=
  { s with
    seq := { s.seq with
      queue := [{ id := s.seq.nextId, origin := .panel, work := w, gate := none }]
      nextId := stepIdAfter s.seq.nextId, state := .running, reason := none }
    out := s.out ++ [.report (.panelKey key s.stamp (.queued s.seq.nextId w.kind))] }

include hs hidle hq in
theorem Core.queueByPanel_settle {z : Core} (hz : (s.panelQueued key w).startHead = z) (hzs : z.sig = []) :
    (s.queueByPanel key w).settle = z := by
  have hqueue : s.queueByPanel key w = { s.panelQueued key w with sig := [.startHead] } := by
    unfold Core.queueByPanel
    dsimp only
    rw [Core.startIfIdle, if_pos (by exact hidle)]
    simp only [Core.setSeq, Core.signal, Core.reportPress, Core.report, Core.emit, Core.appendStep, hq, hs, nextStepId_eq,
      List.nil_append, Core.panelQueued]
    rfl
  have hdrop : { s.panelQueued key w with sig := [] } = s.panelQueued key w := by rw [← hs]; rfl
  rw [hqueue, Core.settle, Core.settleWithin_cons 255 _ .startHead [] rfl]
  change Core.settleWithin 255 (Core.startHead { s.panelQueued key w with sig := [] }) = z
  rw [hdrop, hz, Core.settleWithin_of_sig_nil _ _ hzs]

include hs hidle hq hnew hp hf hr hchecked hcap

/-- A step queued by a key behind a broken curtain waits, HELD for the interlock (R141, R149). -/
theorem Core.queueByPanel_interlock (hb : s.panel.broken = true) (hi : s.seq.interlock = false) :
    ∃ os, (s.queueByPanel key w).settle = { s with
      seq := { s.seq with
        queue := [{ id := s.seq.nextId, origin := .panel, work := w, gate := none }]
        nextId := stepIdAfter s.seq.nextId, state := .held, reason := some .interlock, interlock := true }
      out := os } := by
  obtain ⟨os, hhold⟩ := Core.holdInterlock_running (s.panelQueued key w) rfl hi hp
  refine ⟨os, ?_⟩
  rw [Core.queueByPanel_settle s key w hs hidle hq (z := (s.panelQueued key w).holdInterlock) ?_ (by rw [hhold]; exact hs),
    hhold]
  · rfl
  · exact Core.startHead_holds (s.panelQueued key w) rfl rfl hnew rfl hcap hchecked
      (Core.startCheck_interlock _ hf hr hb)

omit hp hchecked in
/-- A step queued by a key with the curtain CLEAR begins (R141). -/
theorem Core.queueByPanel_begins (hb : s.panel.broken = false) {z : Core}
    (hz : (s.panelQueued key w).beginWork w = z) (hzs : z.sig = []) : (s.queueByPanel key w).settle = z :=
  Core.queueByPanel_settle s key w hs hidle hq
    ((Core.startHead_begins (s.panelQueued key w) rfl rfl hnew rfl hcap
      (.inr (Core.startCheck_pass _ hf hr hb))).trans hz) hzs

end

/-! ### A leaf turned by hand -/

section
variable {i : Fin 16} {v : Volume} (hm : s.vols.mounted = some i) (hv : s.vols.slots[i] = some v)
include hm hv

omit hm hv in
theorem Core.mayConfirm_of (hlt : v.cursor < v.leaves) (harm : s.motion.arm = .parked) (hup : s.motion.platen = .up)
    (hstate : s.seq.state = .idle ∨ (s.seq.state = .held ∧ s.seq.awaiting ≠ none)) : s.mayConfirm v = true := by
  rcases hstate with h | ⟨h, ha⟩
  · simp [Core.mayConfirm, hlt, harm, hup, h]
  · simp [Core.mayConfirm, hlt, harm, hup, h, Option.isSome_iff_ne_none.mpr ha]

/-- TURNED accepted with the view light off: the volume table takes the hand turn, and the sequencer is told (R164). -/
theorem Core.pressTurned_of (hmay : s.mayConfirm v = true) (ha : s.dose.accrual = none)
    (hw : s.illum.view.wanted = false) (hc : s.illum.view.ceiling = false) (hr : 0 < s.freeExceptions)
    (ht : v.tallies.manualTurns < 4294967295) :
    s.pressTurned = (Core.reportPress .turned (.turned v.cursor (v.cursor + 1) s.seq.awaiting.isSome)
      (s.turnedByHand i v)).confirmTurn := by
  have hfree : ∀ w : Volume, w.exceptions = v.exceptions → 0 < (s.setSlot i (some w)).freeExceptions := fun w hw => by
    rw [Core.freeExceptions_setSlot s i (k := 0) hv (by rw [hw]; rfl)]
    exact hr
  have hturned : ((s.editMounted fun v =>
        { v with tallies := { v.tallies with manualTurns := bump v.tallies.manualTurns } }).appendMounted .manualTurn
          (v.cursor + 1) 0 none).moveCursor (v.cursor + 1) = s.turnedByHand i v := by
    rw [Core.editMounted_of s i v _ hm hv,
      Core.appendMounted_of _ i _ _ _ _ _ (by exact hm) (Core.setSlot_get _ _ _) (by exact hfree _ rfl) (Nat.zero_le _),
      Core.setSlot_setSlot,
      Core.moveCursor_dark _ i _ _ (by exact hm) (Core.setSlot_get _ _ _) (by exact ha) (by exact hw) (by exact hc),
      Core.setSlot_setSlot, bump_of_lt ht]
    rfl
  unfold Core.pressTurned
  rw [Core.volume_of s i v hm hv]
  dsimp only
  rw [if_pos hmay, hturned]
  rfl

omit hm in
theorem Core.turnedByHand_freeExceptions : (s.turnedByHand i v).freeExceptions = s.freeExceptions - 1 :=
  Core.freeExceptions_setSlot s i hv (by simp [Volume.turnedByHand])

/-- BACK on a quiet station with the view light off (R165). -/
theorem Core.pressBack_of (hpos : 0 < v.cursor) (hmax : v.cursor ≤ 4294967295) (hquiet : s.quiet = true)
    (ha : s.dose.accrual = none) (hw : s.illum.view.wanted = false) (hc : s.illum.view.ceiling = false)
    (hr : 0 < s.freeExceptions) :
    ∃ os, s.pressBack = { s.setSlot i (some { v with
        cursor := v.cursor - 1
        exceptions := v.exceptions ++
          [{ kind := .cursorMoved, opening := v.cursor - 1, detail := v.cursor, seq := none, stamp := s.stamp }] }) with
      dose := { s.dose with aOpen := s.dose.aOpen.map fun _ => 0 }
      cap := { s.cap with litCount := 0 }
      out := os } := by
  unfold Core.pressBack
  rw [Core.volume_of s i v hm hv]
  dsimp only
  rw [if_pos ⟨hpos, hquiet⟩, Core.revisit_dark s i v _ hm hv ha hw hc hr hmax]
  exact ⟨_, rfl⟩

end

/-! ### The hand turn at the sequencer -/

theorem Core.resumeTests_fail (h : s.faults ≠ [] ∨ s.panel.broken = true ∨ s.freeExceptions < 5) :
    s.resumeTests ≠ none := by
  unfold Core.resumeTests
  split_ifs <;> simp_all

theorem Core.confirmTurn_none (h : s.seq.awaiting = none) : s.confirmTurn = s := by
  rw [Core.confirmTurn, h]

section
variable {k : Awaited} {st : Step} {rest : List Step} (ha : s.seq.awaiting = some k) (hheld : s.seq.state = .held)
  (hq : s.seq.queue = st :: rest)
include ha hheld hq

/-- The hand turn told to a TURN (R148, R153): the step ends DONE with reason MANUAL_TURN, and the hold is released where
the three tests of RESUME pass. -/
theorem Core.confirmTurn_turn (hw : st.work = .turn) : ∃ x t,
    t = { s with
      seq := { s.seq.ended false with queue := rest, state := .held, reason := s.seq.reason }
      out := s.out ++ [.report (.stepDone st.id .turn st.origin .done (some .manualTurn) x .none)] } ∧
    s.confirmTurn = if t.resumeTests = none then t.release else t := by
  have hwork : (s.setAwaiting none).headWork = some .turn := by simp [Core.headWork, Core.setAwaiting, hq, hw]
  have hend : ∃ x, (s.setAwaiting none).endStep .done (some .manualTurn) .none = { s with
      seq := { s.seq.ended false with queue := rest, state := .held, reason := s.seq.reason }
      out := s.out ++ [.report (.stepDone st.id .turn st.origin .done (some .manualTurn) x .none)] } := by
    simp only [Core.endStep, Core.setAwaiting, hq, hheld, reduceCtorEq, if_false, Core.reportStep, Core.report, Core.emit,
      hw, StepWork.kind]
    exact ⟨_, rfl⟩
  obtain ⟨x, hend⟩ := hend
  refine ⟨x, _, rfl, ?_⟩
  simp only [Core.confirmTurn, ha, hwork, hend]
  split
  next h => rw [if_pos trivial]; exact (if_pos h).symm
  next h => exact (if_neg (by exact fun h' => absurd (h.symm.trans h') (by simp))).symm

/-- The hand turn told to a CYCLE (R145, R153): it goes to position A, and the hold is released where the three tests of
RESUME pass. -/
theorem Core.confirmTurn_cycle {stop retakes : Nat} {p : CycleProgress} (hw : st.work = .cycle stop retakes)
    (hc : s.seq.cycle = some p) : ∃ t,
    t = { s with seq := { s.seq with awaiting := none, cycle := some { p with pos := .A } } } ∧
    s.confirmTurn = if t.resumeTests = none then t.release else t := by
  have hwork : (s.setAwaiting none).headWork = some (.cycle stop retakes) := by
    simp [Core.headWork, Core.setAwaiting, hq, hw]
  have hcycle : (s.setAwaiting none).seq.cycle = some p := hc
  refine ⟨_, rfl, ?_⟩
  simp only [Core.confirmTurn, ha, hwork, hcycle]
  split
  next h => rw [if_pos (by exact hheld)]; exact (if_pos h).symm
  next h => exact (if_neg (by exact fun h' => absurd (h.symm.trans h') (by simp))).symm

end

/-! ### The hold released -/

/-- The hold released with a PAUSE without a guard behind it: the PAUSE starts (R144, R152). -/
theorem Core.release_pause {next : Step} {more : List Step} {ms : Nat} (hs : s.sig = []) (hq : s.seq.queue = next :: more)
    (hnew : s.seq.started = false) (hgate : next.gate = none) (hw : next.work = .pause ms) :
    s.release.settle = { s with seq := { s.seq with
      state := .running, reason := none, interlock := false, started := true
      pause := some { left := ms * 1000, since := some s.now } } } := by
  have hrelease : s.release =
      { s with seq := { s.seq with state := .running, reason := none, interlock := false }, sig := [.startHead] } := by
    unfold Core.release
    dsimp only
    rw [if_neg (by simp [hq]), if_pos (by exact hnew)]
    simp [Core.signal, Core.setSeq, hs]
  have hwork : next.work.checked = false := by rw [hw]; rfl
  have hbegin := Core.startHead_begins
    { s with seq := { s.seq with state := .running, reason := none, interlock := false }, sig := [] } (by exact hq) rfl
    (by exact hnew) hgate (by rw [hw]; rfl) (.inl hwork)
  rw [hrelease, Core.settle, Core.settleWithin_cons 255 _ .startHead [] rfl]
  refine (congrArg (Core.settleWithin 255) (hbegin.trans ?_)).trans (Core.settleWithin_of_sig_nil 255 _ ?_)
  · rw [hw, ← hs]
    rfl
  · exact hs

/-- The hold released with a CYCLE at position A: it acts there (R145, R152). -/
theorem Core.release_cycle {st : Step} {rest : List Step} {stop retakes : Nat} {p : CycleProgress} {i : Fin 16} {v : Volume}
    (hq : s.seq.queue = st :: rest) (hw : st.work = .cycle stop retakes) (hstarted : s.seq.started = true)
    (hop : s.seq.op = none) (hp : s.seq.pause = none) (ha : s.seq.awaiting = none) (hc : s.seq.cycle = some p)
    (hpos : p.pos = .A) (hm : s.vols.mounted = some i) (hv : s.vols.slots[i] = some v) (hslot : p.slot = i)
    (hinst : p.inst = v.inst) : s.release = Core.cycleA p (min stop v.leaves) { s with seq := { s.seq.resumed with
      queue := { st with work := .cycle (min stop v.leaves) retakes } :: rest } } := by
  have hbusy : s.headBusy = false := by simp [Core.headBusy, hop, hp]
  have hrelease : s.release = Core.cycleTo p { s with seq := s.seq.resumed } := by
    unfold Core.release
    dsimp only
    rw [if_neg (by simp [hq]), if_neg (by simp [hstarted]), if_neg (by exact Bool.eq_false_iff.mp hbusy)]
    simp [ha, hc, Core.setSeq, Sequencer.resumed]
  have hwork : Core.headWork { s with seq := s.seq.resumed } = some (.cycle stop retakes) := by
    simp [Core.headWork, Sequencer.resumed, hq, hw]
  have hvol : Core.cycleVolume p ({ s with seq := s.seq.resumed }.setCycle p) = some v := by
    have hmounted : ({ s with seq := s.seq.resumed }.setCycle p).mounted = some (i, v) :=
      Core.mounted_of _ i v (by exact hm) (by exact hv)
    rw [Core.cycleVolume, hmounted]
    exact if_pos ⟨hslot.symm, hinst.symm⟩
  rw [hrelease, Core.cycleTo, hwork]
  dsimp only
  rw [if_pos (by rfl), Core.cycleAct, hvol]
  dsimp only
  rw [hpos]
  simp [Core.setHeadWork, Core.setCycle, Sequencer.resumed, hq, hc]

/-- A CYCLE at position A behind its stop ends DONE, with nothing behind it (R145, R148). -/
theorem Core.cycleA_passed {st : Step} {stop : Nat} (c : CycleProgress) (hlt : stop < s.cursor) (hq : s.seq.queue = [st])
    (hrun : s.seq.state = .running) : ∃ os, s.cycleA c stop = { s with seq := s.seq.ended false, out := os } := by
  have hend : s.cycleA c stop = s.endStep .done (some .stopPassed) (.cycle c.count stop) := if_pos hlt
  rw [hend, ← Core.endStep_last s (some .stopPassed) (.cycle c.count stop) hq hrun]
  exact ⟨_, Core.endStep_onlySeq s _ _ (.inr ⟨st, hq⟩)⟩

/-- A CYCLE at position A of an opening not yet captured asks for its attempt (R145). -/
theorem Core.cycleA_attempt {stop : Nat} (c : CycleProgress) (hle : s.cursor ≤ stop) (hcap : s.openingCaptured = false)
    (hf : s.faults = []) (hr : 5 ≤ s.freeExceptions) (hb : s.panel.broken = false) : s.cycleA c stop =
    Core.askAttempt .auto { s with seq := { s.seq with cycle := some { c with pos := .B, lit := 0 }, op := some .attempt } } := by
  rw [Core.cycleA, if_neg (Nat.not_lt.mpr hle), Core.cycleB, hcap, if_neg (by simp)]
  dsimp only
  rw [Core.startCheck_pass _ (by exact hf) (by exact hr) (by exact hb)]
  rfl

/-! ### TURNED while the operator is awaited -/

section
variable (i : Fin 16) (v : Volume) {k : Awaited} {st : Step} {rest : List Step}
  (hm : s.vols.mounted = some i) (hv : s.vols.slots[i] = some v) (hlt : v.cursor < v.leaves)
  (hheld : s.seq.state = .held) (haw : s.seq.awaiting = some k) (hq : s.seq.queue = st :: rest) (hop : s.seq.op = none)
  (hp : s.seq.pause = none) (hstarted : s.seq.started = true) (harm : s.motion.arm = .parked)
  (hup : s.motion.platen = .up) (ha : s.dose.accrual = none) (hw : s.illum.view.wanted = false)
  (hc : s.illum.view.ceiling = false) (hr : 0 < s.freeExceptions) (ht : v.tallies.manualTurns < 4294967295)

include hm hv hlt hheld haw harm hup ha hw hc hr ht in
/-- The hand turn is taken (R164), and told to the sequencer. -/
theorem Core.pressTurned_held : s.pressTurned =
    (Core.reportPress .turned (.turned v.cursor (v.cursor + 1) true) (s.turnedByHand i v)).confirmTurn := by
  have hmay := Core.mayConfirm_of s (v := v) hlt harm hup (.inr ⟨hheld, by simp [haw]⟩)
  rw [Core.pressTurned_of s hm hv hmay ha hw hc hr ht, haw]
  rfl

include hv in
/-- The tests of RESUME after the hand turn, which has taken one entry of the exception pool (R152). -/
theorem Core.turnedByHand_tests {t : Core} (hf : t.faults = s.faults) (hpanel : t.panel = s.panel)
    (hvols : t.vols = (s.turnedByHand i v).vols) :
    ((s.faults = [] ∧ s.panel.broken = false ∧ 6 ≤ s.freeExceptions) → t.resumeTests = none)
      ∧ ((s.faults ≠ [] ∨ s.panel.broken = true ∨ s.freeExceptions ≤ 5) → t.resumeTests ≠ none) := by
  have hfree : t.freeExceptions = s.freeExceptions - 1 := by
    rw [← s.turnedByHand_freeExceptions hv, Core.freeExceptions, hvols]
    rfl
  refine ⟨fun ⟨h, hb, h6⟩ => ?_, fun h => ?_⟩
  · exact t.resumeTests_pass (hf.trans h) (hpanel ▸ hb) (by omega)
  · refine t.resumeTests_fail ?_
    rw [hf, hpanel, hfree]
    rcases h with h | h | h
    · exact .inl h
    · exact .inr (.inl h)
    · exact .inr (.inr (by omega))

include hm hv hlt hheld haw hq harm hup ha hw hc hr ht in
/-- A TURN that awaits the operator has ended DONE (R148, R153): the blocks before the tests of RESUME, and what these
lead to. -/
theorem Core.pressTurned_turn (hwork : st.work = .turn) : ∃ x t,
    t = { s.turnedByHand i v with
      seq := { s.seq.ended false with queue := rest, state := .held, reason := s.seq.reason }
      out := s.out ++ [.report (.panelKey .turned s.stamp (.turned v.cursor (v.cursor + 1) true)),
        .report (.stepDone st.id .turn st.origin .done (some .manualTurn) x .none)] } ∧
    s.pressTurned = if t.resumeTests = none then t.release else t := by
  obtain ⟨x, t, rfl, hconfirm⟩ := Core.confirmTurn_turn
    (Core.reportPress .turned (.turned v.cursor (v.cursor + 1) true) (s.turnedByHand i v)) haw hheld hq hwork
  have hout (a b : Out) : s.out ++ [a, b] = (s.out ++ [a]) ++ [b] := by simp
  refine ⟨x, _, rfl, ?_⟩
  rw [s.pressTurned_held i v hm hv hlt hheld haw harm hup ha hw hc hr ht, hconfirm, hout]
  rfl

include hm hv hlt hheld haw hq harm hup ha hw hc hr ht in
/-- A CYCLE that awaits the operator is at position A (R145, R153): the blocks before the tests of RESUME, and what these
lead to. -/
theorem Core.pressTurned_cycle {stop retakes : Nat} {p : CycleProgress} (hwork : st.work = .cycle stop retakes)
    (hcycle : s.seq.cycle = some p) : ∃ t,
    t = { s.turnedByHand i v with
      seq := { s.seq with awaiting := none, cycle := some { p with pos := .A } }
      out := s.out ++ [.report (.panelKey .turned s.stamp (.turned v.cursor (v.cursor + 1) true))] } ∧
    s.pressTurned = if t.resumeTests = none then t.release else t := by
  obtain ⟨t, rfl, hconfirm⟩ := Core.confirmTurn_cycle
    (Core.reportPress .turned (.turned v.cursor (v.cursor + 1) true) (s.turnedByHand i v)) haw hheld hq hwork hcycle
  refine ⟨_, rfl, ?_⟩
  rw [s.pressTurned_held i v hm hv hlt hheld haw harm hup ha hw hc hr ht, hconfirm]
  rfl

include hm hv hlt hheld haw hq hop hp hstarted harm hup ha hw hc hr ht in
/-- A CYCLE that awaits the operator acts at position A where the three tests of RESUME pass (R145, R152, R153). -/
theorem Core.pressTurned_released {stop retakes : Nat} {p : CycleProgress} (hwork : st.work = .cycle stop retakes)
    (hcycle : s.seq.cycle = some p) (hslot : p.slot = i) (hinst : p.inst = v.inst) (hf : s.faults = [])
    (hb : s.panel.broken = false) (h6 : 6 ≤ s.freeExceptions) : ∃ t,
    t = { s.turnedByHand i v with
      seq := { s.seq.resumed with
        queue := { st with work := .cycle (min stop v.leaves) retakes } :: rest, awaiting := none
        cycle := some { p with pos := .A } }
      out := s.out ++ [.report (.panelKey .turned s.stamp (.turned v.cursor (v.cursor + 1) true))] } ∧
    s.pressTurned = Core.cycleA { p with pos := .A } (min stop v.leaves) t := by
  obtain ⟨t, ht', hact⟩ := s.pressTurned_cycle i v hm hv hlt hheld haw hq harm hup ha hw hc hr ht hwork hcycle
  obtain ⟨hpass, -⟩ := s.turnedByHand_tests i v hv (t := t) (by rw [ht']; rfl) (by rw [ht']; rfl) (by rw [ht'])
  have hrel := t.release_cycle (p := { p with pos := .A }) (v := v.turnedByHand s.stamp) (by rw [ht']; exact hq) hwork
    (by rw [ht']; exact hstarted) (by rw [ht']; exact hop) (by rw [ht']; exact hp) (by rw [ht']) (by rw [ht']) rfl
    (by rw [ht']; exact hm) (by rw [ht']; exact Core.setSlot_get _ _ _) hslot hinst
  refine ⟨_, rfl, hact.trans ((if_pos (hpass ⟨hf, hb, h6⟩)).trans (hrel.trans ?_))⟩
  rw [ht']
  rfl

include hm in
theorem Core.turnedByHand_volume {t : Core} (h : t.vols = (s.turnedByHand i v).vols) :
    t.vols.mounted = some i ∧ t.vols.slots[i] = some (v.turnedByHand s.stamp) := by
  rw [h]
  exact ⟨hm, Core.setSlot_get _ _ _⟩

section
variable {stop retakes : Nat} {p : CycleProgress} (hwork : st.work = .cycle stop retakes) (hcycle : s.seq.cycle = some p)
  (hslot : p.slot = i) (hinst : p.inst = v.inst) (hf : s.faults = []) (hb : s.panel.broken = false)
  (h6 : 6 ≤ s.freeExceptions)
include hm hv hlt hheld haw hq hop hp hstarted harm hup ha hw hc hr ht hwork hcycle hslot hinst hf hb h6

/-- The hand turn took the only step, a CYCLE, past its stop: it ends DONE (R145, R148). -/
theorem Core.pressTurned_passed (hle : min stop v.leaves ≤ v.cursor) (hrest : rest = []) : ∃ os,
    s.pressTurned = { s.turnedByHand i v with seq := { s.seq.ended false with interlock := false }, out := os } := by
  obtain ⟨t, ht', hrel⟩ := s.pressTurned_released i v hm hv hlt hheld haw hq hop hp hstarted harm hup ha hw hc hr ht hwork
    hcycle hslot hinst hf hb h6
  obtain ⟨hmt, hvt⟩ := s.turnedByHand_volume i v hm (t := t) (by rw [ht'])
  have hcursor : t.cursor = v.cursor + 1 := t.cursor_of i _ hmt hvt
  obtain ⟨os, hend⟩ := t.cycleA_passed (stop := min stop v.leaves) { p with pos := .A } (by rw [hcursor]; omega)
    (by rw [ht', hrest]) (by rw [ht']; rfl)
  refine ⟨os, hrel.trans (hend.trans ?_)⟩
  rw [ht']
  rfl

/-- The hand turn took a CYCLE to an opening not yet captured: its attempt begins to lower the platen (R118, R145). -/
theorem Core.pressTurned_attempt (hstop : v.cursor < min stop v.leaves) (hfresh : v.cursor + 1 ∉ v.captured)
    (hatt : s.cap.attempt = none) (hmark : s.cap.mark = none) (hroom : s.cap.ring.length < 64) (hready : s.CradleReady)
    (hfree : s.ConverterFree) : ∃ os, s.pressTurned = { (s.turnedByHand i v).lowered with
      cap := { s.cap with attempt := some (Attempt.placed .auto (v.turnedByHand s.stamp)), litCount := 0 }
      seq := { s.seq.resumed with
        queue := { st with work := .cycle (min stop v.leaves) retakes } :: rest, op := some .attempt
        awaiting := none, cycle := some { p with pos := .B, lit := 0 } }
      out := os } := by
  obtain ⟨t, ht', hrel⟩ := s.pressTurned_released i v hm hv hlt hheld haw hq hop hp hstarted harm hup ha hw hc hr ht hwork
    hcycle hslot hinst hf hb h6
  obtain ⟨hmt, hvt⟩ := s.turnedByHand_volume i v hm (t := t) (by rw [ht'])
  have hcursor : t.cursor = v.cursor + 1 := t.cursor_of i _ hmt hvt
  have hpool : t.freeExceptions = s.freeExceptions - 1 := by
    rw [ht']
    exact s.turnedByHand_freeExceptions hv
  have hask := t.cycleA_attempt (stop := min stop v.leaves) { p with pos := .A } (by rw [hcursor]; omega)
    (by rw [t.openingCaptured_of hmt hvt]; exact decide_eq_false hfresh) (by rw [ht']; exact hf) (by omega)
    (by rw [ht']; exact hb)
  have hlower := Core.askAttempt_ready
    { t with seq := { t.seq with cycle := some { p with pos := .B, lit := 0 }, op := some .attempt } } .auto hmt hvt
    (by rw [ht']; exact hf)
    (by rw [ht']; exact hready.congr rfl rfl)
    (by rw [ht']; exact hfree.congr rfl) (by rw [ht']; exact hatt) (by rw [ht']; exact hmark)
    (by rw [ht']; exact hroom) (by rw [ht']; exact hw)
  refine ⟨t.out, hrel.trans (hask.trans (hlower.trans ?_))⟩
  rw [ht']
  rfl

end

end

end

/-- Settles O56: each key by the rule for its press, and the steps that a key starts by the rules for the operation that
the step asks for. -/
theorem keysAct : Obligations.KeysAct := by
  refine ⟨⟨fun us s => ⟨?_, ?_, ?_, ?_, ?_, ?_, ?_, ?_⟩, ?_⟩, ?_, ?_⟩
  · exact fun hdue h => State.pressed_tone hdue (Core.pressAdvance_tone _ h)
  · exact fun hdue h => State.pressed_tone hdue (Core.pressRetake_tone _ h)
  · exact fun hdue h => State.pressed_tone hdue (Core.pressBack_tone _ h)
  · exact fun hdue h => State.pressed_tone hdue (Core.pressTurned_tone _ h)
  · intro hdue
    refine ⟨fun hidle hp => ?_, fun hrun hop => ?_, fun h => ?_⟩
    · obtain ⟨os, hact⟩ := Core.pressHold_idle ((s.found us).setPressed .hold) hidle hp
      obtain ⟨t, ht, hcore, -⟩ := State.pressed_quiet hdue hact rfl
      exact ⟨t, ht, hcore⟩
    · obtain ⟨os, hact⟩ := Core.pressHold_running ((s.found us).setPressed .hold) hrun hop
      obtain ⟨t, ht, hcore, -⟩ := State.pressed_quiet hdue hact rfl
      exact ⟨t, ht, hcore⟩
    · obtain ⟨os, hact⟩ := Core.pressHold_stopped ((s.found us).setPressed .hold) h
      obtain ⟨t, ht, hcore, -⟩ := State.pressed_quiet hdue hact rfl
      exact ⟨t, ht, hcore⟩
  · intro hheld hb hr hq hf
    have hkey : ∀ key, (s.found us).pressDue key = true → ((s.found us).setPressed key).pressAction key =
        ((s.found us).setPressed key).pressContinue key →
        ∃ t, (.next (s.event us (Core.press key)) : Result') = .next t ∧ t.core = { (s.found us).setPressed key with
          faults := [], seq := { s.core.seq with state := .idle, reason := none, interlock := false } } := by
      intro key hdue hact
      obtain ⟨os, hcont⟩ := Core.pressContinue_idle ((s.found us).setPressed key) key hheld hb hr hq hf
      obtain ⟨t, ht, hcore, -⟩ := State.pressed_quiet hdue (hact.trans hcont) rfl
      exact ⟨t, ht, hcore⟩
    exact ⟨fun hdue => hkey .cont hdue rfl, fun hdue ha =>
      hkey .advance hdue (Core.pressAdvance_continue ((s.found us).setPressed .advance) hheld ha)⟩
  · intro answer hf hne hanswer
    have hkey : ∀ key, (s.found us).pressDue key = true → ((s.found us).setPressed key).pressAction key =
        ((s.found us).setPressed key).pressContinue key →
        ∃ t, (.next (s.event us (Core.press key)) : Result') = .next t ∧ t.core = ((s.found us).setPressed key).tone
          ∧ (s.link.tx ≠ none → s.link.reports.length < 32 →
            t.link.reports = s.link.reports ++ [.panelKey key (s.found us).stamp (.cont false answer)]) := by
      intro key hdue hact
      have heq : ((s.found us).setPressed key).resumeAnswer = answer := (Core.resumeAnswer_eq _).trans hanswer.symm
      have hcont := Core.pressContinue_refused ((s.found us).setPressed key) key hf (heq ▸ hne)
      rw [heq] at hcont
      obtain ⟨t, ht, hcore, hlink⟩ := State.pressed_quiet hdue (hact.trans hcont) rfl
      exact ⟨t, ht, hcore, fun htx hroom => hlink ▸ State.reports_of_busy htx hroom⟩
    exact ⟨fun hdue => hkey .cont hdue rfl, fun hdue hheld ha =>
      hkey .advance hdue (Core.pressAdvance_continue ((s.found us).setPressed .advance) hheld ha)⟩
  · exact fun hdue => congrArg _ (State.event_quietly us _ s _ (if_neg (by exact Bool.eq_false_iff.mp hdue)) rfl rfl)
  · intro us i v s hm hv hidle
    refine ⟨fun hq hnew hi hp hf hr hb hfresh => ?_, ?_, ?_⟩
    · have hkey : ∀ key retake, (s.found us).pressDue key = true →
          (key = .advance ∧ retake = false ∧ v.cursor ∉ v.captured) ∨ (key = .retake ∧ retake = true) →
          ∃ t, (.next (s.event us (Core.press key)) : Result') = .next t ∧ t.core = { (s.found us).setPressed key with
            seq := { s.core.seq with
              queue := [{ id := s.core.seq.nextId, origin := .panel, work := .capture .auto retake, gate := none }]
              nextId := stepIdAfter s.core.seq.nextId
              state := .held, reason := some .interlock, interlock := true } } := by
        intro key retake hdue hk
        obtain ⟨hact, hcap⟩ := Core.pressAction_capture ((s.found us).setPressed key) hm hv hk hidle
        obtain ⟨os, hz⟩ := Core.queueByPanel_interlock ((s.found us).setPressed key) key (.capture .auto retake) rfl hidle hq
          hnew hp hf hr rfl hcap hb hi
        obtain ⟨t, ht, hcore, -⟩ := State.pressed hdue (hact ▸ hz)
        exact ⟨t, ht, hcore⟩
      exact ⟨fun hdue => hkey .advance false hdue (.inl ⟨rfl, rfl, hfresh⟩),
        fun hdue => hkey .retake true hdue (.inr ⟨rfl, rfl⟩)⟩
    · intro hdue hlt harm hup haw ha hw hc hr ht _
      have hmay := Core.mayConfirm_of ((s.found us).setPressed .turned) hlt harm hup (.inl hidle)
      have hact := Core.pressTurned_of ((s.found us).setPressed .turned) hm hv hmay ha hw hc hr ht
      have hconfirm := Core.confirmTurn_none (Core.reportPress .turned (.turned v.cursor (v.cursor + 1)
        ((s.found us).setPressed .turned).seq.awaiting.isSome) (((s.found us).setPressed .turned).turnedByHand i v)) haw
      obtain ⟨t, ht, hcore, -⟩ := State.pressed_quiet hdue (hact.trans hconfirm) rfl
      exact ⟨t, ht, hcore⟩
    · intro hdue hpos hmax hquiet ha hw hc hr
      obtain ⟨os, hact⟩ := Core.pressBack_of ((s.found us).setPressed .back) hm hv hpos hmax hquiet ha hw hc hr
      obtain ⟨t, ht, hcore, -⟩ := State.pressed_quiet hdue hact rfl
      exact ⟨t, ht, hcore⟩
  · intro us i v s hm hv hlt
    refine ⟨fun k st rest hdue hheld haw hq hop hp hstarted harm hup ha hw hc hr ht _ => ⟨fun hwork => ?_, ?_⟩, ?_⟩
    · obtain ⟨x, z, hz, hact⟩ := Core.pressTurned_turn ((s.found us).setPressed .turned) i v hm hv hlt hheld haw hq harm
        hup ha hw hc hr ht hwork
      obtain ⟨hpass, hfail⟩ := Core.turnedByHand_tests ((s.found us).setPressed .turned) i v hv (t := z)
        (by rw [hz]; rfl) (by rw [hz]; rfl) (by rw [hz])
      refine ⟨fun hf hb h6 hrest => ?_, fun next more ms hf hb h6 hrest hgate hpause => ?_, fun h => ?_⟩
      · have hrel := z.release_empty (by rw [hz]; exact hrest)
        obtain ⟨t, ht, hcore, hlink⟩ := State.pressed_quiet hdue
          (hact.trans ((if_pos (hpass ⟨hf, hb, h6⟩)).trans hrel)) (by rw [hz]; rfl)
        subst hz hrest
        refine ⟨t, ht, hcore, fun htx hroom => ?_⟩
        rw [hlink]
        exact ⟨State.mem_reports htx hroom (.head _), x, State.mem_reports htx hroom (.tail _ (.head _))⟩
      · have hrel := z.release_pause (by rw [hz]; rfl) (by rw [hz]; exact hrest) (by rw [hz]; rfl) hgate hpause
        obtain ⟨t, ht, hcore, -⟩ := State.pressed hdue
          ((congrArg Core.settle (hact.trans (if_pos (hpass ⟨hf, hb, h6⟩)))).trans hrel)
        subst hz
        exact ⟨t, ht, hcore⟩
      · obtain ⟨t, ht, hcore, -⟩ := State.pressed_quiet hdue (hact.trans (if_neg (hfail h))) (by rw [hz]; rfl)
        subst hz
        exact ⟨t, ht, hcore⟩
    · intro stop retakes p hwork hcycle hslot hinst
      obtain ⟨z, hz, hact⟩ := Core.pressTurned_cycle ((s.found us).setPressed .turned) i v hm hv hlt hheld haw hq harm
        hup ha hw hc hr ht hwork hcycle
      obtain ⟨hpass, hfail⟩ := Core.turnedByHand_tests ((s.found us).setPressed .turned) i v hv (t := z)
        (by rw [hz]; rfl) (by rw [hz]; rfl) (by rw [hz])
      refine ⟨fun h => ?_, fun hf hb h6 hle hrest => ?_, fun hf hb h6 hstop hfresh hatt hmark hroom hready hfree => ?_⟩
      · obtain ⟨t, ht, hcore, -⟩ := State.pressed_quiet hdue (hact.trans (if_neg (hfail h))) (by rw [hz]; rfl)
        subst hz
        exact ⟨t, ht, hcore⟩
      · obtain ⟨os, hpassed⟩ := Core.pressTurned_passed ((s.found us).setPressed .turned) i v hm hv hlt hheld haw hq hop hp
          hstarted harm hup ha hw hc hr ht hwork hcycle hslot hinst hf hb h6 hle hrest
        obtain ⟨t, ht, hcore, -⟩ := State.pressed_quiet hdue hpassed rfl
        exact ⟨t, ht, hcore⟩
      · obtain ⟨os, hattempt⟩ := Core.pressTurned_attempt ((s.found us).setPressed .turned) i v hm hv hlt hheld haw hq hop hp
          hstarted harm hup ha hw hc hr ht hwork hcycle hslot hinst hf hb h6 hstop hfresh hatt hmark hroom
          (hready.congr rfl rfl) (hfree.congr rfl)
        obtain ⟨t, ht, hcore, -⟩ := State.pressed_quiet hdue hattempt rfl
        exact ⟨t, _, ht, hcore, rfl, rfl⟩
    · intro hdue hidle hq hnew hp hf hr hcaptured
      have hact := Core.pressAdvance_turn ((s.found us).setPressed .advance) hm hv hidle hcaptured hlt
      refine ⟨fun hb hi => ?_, fun hready hturn hwait href hfold => ?_⟩
      · obtain ⟨os, hz⟩ := Core.queueByPanel_interlock ((s.found us).setPressed .advance) .advance .turn rfl hidle hq hnew hp
          hf hr rfl rfl hb hi
        obtain ⟨t, ht, hcore, -⟩ := State.pressed hdue ((congrArg Core.settle hact).trans hz)
        exact ⟨t, ht, hcore⟩
      · have hask := Core.askTurn_ready
          { ((s.found us).setPressed .advance).panelQueued .advance .turn with
            seq := { (((s.found us).setPressed .advance).panelQueued .advance .turn).seq with
              started := true, op := some .turn } }
          hm hv hlt hf (hready.congr rfl rfl) hturn hwait href hfold
        have hz := Core.queueByPanel_begins ((s.found us).setPressed .advance) .advance .turn rfl hidle hq hnew hf hr rfl
          hready.curtain hask rfl
        obtain ⟨t, ht, hcore, hlink⟩ := State.pressed hdue ((congrArg Core.settle hact).trans hz)
        refine ⟨t, ht, hcore, fun htx hroom => ?_⟩
        rw [hlink]
        exact State.mem_reports htx hroom (.head _)
  · intro us i v c key retake s hm hv hk hdue hidle hq hnew hp hf hr hready hfree hatt hmark hroom hw
    have hk' : (key = .advance ∧ retake = false ∧ v.cursor ∉ v.captured) ∨ (key = .retake ∧ retake = true) :=
      hk.imp And.right And.right
    have hc : exec c s = .next (s.event us (Core.press key)) := by
      rcases hk with ⟨rfl, rfl, -⟩ | ⟨rfl, rfl, -⟩ <;> rfl
    obtain ⟨hact, hcap⟩ := Core.pressAction_capture ((s.found us).setPressed key) hm hv hk' hidle
    have hask := Core.askAttempt_ready
      { ((s.found us).setPressed key).panelQueued key (.capture .auto retake) with
        seq := { (((s.found us).setPressed key).panelQueued key (.capture .auto retake)).seq with
          started := true, op := some .attempt } }
      .auto hm hv hf (hready.congr rfl rfl) (hfree.congr rfl)
      hatt hmark hroom hw
    have hz := Core.queueByPanel_begins ((s.found us).setPressed key) key (.capture .auto retake) rfl hidle hq hnew hf hr
      hcap hready.curtain hask rfl
    obtain ⟨t, ht, hcore, hlink⟩ := State.pressed hdue (hact ▸ hz)
    refine ⟨t, _, hc.trans ht, hcore, rfl, rfl, rfl, rfl, rfl, rfl, fun htx hlt => ?_⟩
    rw [hlink]
    exact State.mem_reports htx hlt (.head _)

end Sys2Proof.Machine
end

section
/-! PROOF. The low-water check (O30) and the caps and accounts of an admission (O28). -/

namespace Sys2Proof.Machine

/-! ### The low-water check -/

section
variable (s : Core) (i : Fin 16) (v : Volume) (hv : s.vols.slots[i] = some v)
include hv

/-- A remaining budget below the line, with the flag clear: the flag is set and the BUDGET report LOW formed (R46). -/
theorem Core.checkLow_below (hr : v.r < v.w) (hlow : v.low = false) :
    s.checkLow i = { s with
      vols := { s.vols with slots := s.vols.slots.set i (some { v with low := true }) }
      out := s.out ++ [.report (.budgetLow i.val v.inst v.budget v.u v.w)] } := by
  simp only [Core.checkLow, hv, hr, hlow, and_self, if_true, s.editSlot_of i v _ hv]
  rfl

/-- Any other check leaves all as it stands (R46). -/
theorem Core.checkLow_stands (h : v.w ≤ v.r ∨ v.low = true) : s.checkLow i = s := by
  have hnot : ¬ (v.r < v.w ∧ v.low = false) := by
    rintro ⟨hr, hlow⟩
    rcases h with h | h
    · omega
    · simp [h] at hlow
  simp only [Core.checkLow, hv, hnot, if_false]

end

/-- Settles O30, by the two outcomes of a check. -/
theorem lowWaterIsWatched : Obligations.LowWaterIsWatched := by
  intro i v s hv
  refine ⟨rfl, s.checkLow_below i v hv, s.checkLow_stands i v hv, fun hsmall => ?_, fun hm => ?_⟩
  · have hw : v.w = 0 := Nat.div_eq_of_lt hsmall
    exact ⟨hw, s.checkLow_stands i v hv (.inl (by omega))⟩
  · simp only [Core.word, Core.budgetLow, s.volume_of i v hm hv]

/-! ### The arithmetic of an admission -/

/-- A figure at most n parts is rounded up to at most n (section 6.1). -/
theorem ceilDiv_le_of_le_mul {a b n : Nat} (hb : 0 < b) (h : a ≤ n * b) : ceilDiv a b ≤ n := by
  rw [ceilDiv, ← Nat.lt_succ_iff, Nat.div_lt_iff_lt_mul hb, Nat.succ_mul]
  omega

theorem le_ceilDiv_mul {b : Nat} (hb : 0 < b) (a : Nat) : a ≤ ceilDiv a b * b := by
  have hlt := Nat.lt_div_mul_add hb (a := a + b - 1)
  simp only [ceilDiv]
  omega

/-- Codes that are scaled by k / m and rounded down give at most that part of the light. -/
theorem lampSum_scaled (cal : LampCal) (a b c d k m : Nat) :
    lampSum cal (a * k / m) (b * k / m) (c * k / m) (d * k / m) * m ≤ lampSum cal a b c d * k := by
  have hbank (n c : Nat) : n * (c * k / m) * m ≤ n * c * k := by
    rw [Nat.mul_assoc, Nat.mul_assoc]
    exact Nat.mul_le_mul_left n (Nat.div_mul_le_self _ _)
  simp only [lampSum, Nat.add_mul]
  exact Nat.add_le_add (Nat.add_le_add (Nat.add_le_add (hbank _ a) (hbank _ b)) (hbank _ c)) (hbank _ d)

/-- The nominal illuminance of codes scaled from E_req to E_eff is at most E_eff (R35). -/
theorem nominalLux_scaled (cal : LampCal) (x : Setting) (eEff : Nat) (h : 0 < requested cal x) :
    nominalLux cal (x.cVU * eEff / requested cal x) (x.cVL * eEff / requested cal x) (x.cRU * eEff / requested cal x)
      (x.cRL * eEff / requested cal x) ≤ eEff := by
  refine ceilDiv_le_of_le_mul (by decide) (Nat.le_of_mul_le_mul_right ?_ h)
  calc _ ≤ lampSum cal x.cVU x.cVL x.cRU x.cRL * eEff := lampSum_scaled ..
    _ ≤ requested cal x * 4095 * eEff := Nat.mul_le_mul_right _ (le_ceilDiv_mul (by decide) _)
    _ = eEff * 4095 * requested cal x := by ring

/-- A code scaled down does not grow (R35). -/
theorem scaledCode_le {c eEff eReq : Nat} (h : eEff < eReq) : c * eEff / eReq ≤ c :=
  Nat.div_le_of_le_mul (by rw [Nat.mul_comm]; exact Nat.mul_le_mul_right _ h.le)

/-! ### Admissions -/

/-- What admission keeps of every flash (R31, R35): the light applied is at most E_eff, E_eff at most E_req, and no code
above the setting's. -/
structure Admission.Within (x : Setting) (a : Admission) : Prop where
  app : a.eApp ≤ a.eEff
  eff : a.eEff ≤ a.eReq
  vu : a.cVU ≤ x.cVU
  vl : a.cVL ≤ x.cVL
  ru : a.cRU ≤ x.cRU
  rl : a.cRL ≤ x.cRL

theorem darkAdmission_within (x : Setting) (t : Option Int) : (darkAdmission x t).Within x :=
  ⟨Nat.le_refl 0, Nat.le_refl 0, Nat.le_refl _, Nat.le_refl _, Nat.le_refl _, Nat.le_refl _⟩

theorem scaled_within (cal : LampCal) (x : Setting) (eEff : Nat) (cause : Cause) (t : Option Int)
    (h : eEff ≤ requested cal x) : (scaled cal x (requested cal x) eEff cause t).Within x := by
  by_cases hlt : eEff < requested cal x
  · have hcode (c : Nat) : c * eEff / requested cal x ≤ c := scaledCode_le hlt
    constructor <;> simp only [scaled, hlt, if_true]
    case app => exact nominalLux_scaled cal x eEff (by omega)
    case eff => exact h
    all_goals exact hcode _
  · have heq : eEff = requested cal x := by omega
    constructor <;> simp only [scaled, hlt, if_false]
    case app => rw [heq]; exact Nat.le_refl _
    case eff => exact h
    all_goals exact Nat.le_refl _

theorem capped_le (x : Nat) (k : Option Nat) : capped x k ≤ x ∧ ∀ c, k = some c → capped x k ≤ c := by
  cases k with
  | none => simp [capped]
  | some c => simp [capped]

/-- E_eff is under E_req and under every cap that takes part (R31). -/
theorem effective_le (eReq : Nat) (k : Caps) : effective eReq k ≤ eReq ∧ effective eReq k ≤ k.op
    ∧ (∀ c, k.th = some c → effective eReq k ≤ c) ∧ (∀ c, k.dose = some c → effective eReq k ≤ c)
    ∧ ∀ c, k.mat = some c → effective eReq k ≤ c := by
  obtain ⟨hreq, hth⟩ := capped_le eReq k.th
  obtain ⟨hprev, hdose⟩ := capped_le (capped eReq k.th) k.dose
  obtain ⟨hprev', hmat⟩ := capped_le (capped (capped eReq k.th) k.dose) k.mat
  have hle : effective eReq k ≤ capped (capped (capped eReq k.th) k.dose) k.mat := Nat.min_le_left _ _
  exact ⟨hle.trans (hprev'.trans (hprev.trans hreq)), Nat.min_le_right _ _,
    fun c h => hle.trans (hprev'.trans (hprev.trans (hth c h))), fun c h => hle.trans (hprev'.trans (hdose c h)),
    fun c h => hle.trans (hmat c h)⟩

/-- A flash admitted under its caps is scaled to an E_eff that is not 0 (R34, R35). -/
theorem admitUnder_ok {cal : LampCal} {x : Setting} {eReq : Nat} {k : Caps} {budget : Bool} {aOpen u : Option Nat}
    {t : Option Int} {a : Admission} (h : admitUnder cal x eReq k budget aOpen u t = .ok a) :
    effective eReq k ≠ 0
      ∧ a = scaled cal x eReq (effective eReq k) (limiting eReq (effective eReq k) k) t := by
  unfold admitUnder at h
  dsimp only at h
  split at h
  · cases h
  next hfloor =>
    cases h
    exact ⟨fun h0 => hfloor (.inr h0), rfl⟩

section
variable {c : ClassFields} {v : Volume} {aOpen : Nat} {x : Setting} {cal : LampCal} {eOp : Nat} {t : Option Int} {f : Bool}
  {unread : Option Nat} {a : Admission}

/-- The caps of a capture flash (R31, R32). -/
def captureCaps (c : ClassFields) (v : Volume) (aOpen : Nat) (x : Setting) (eReq eOp : Nat) (t : Option Int) (f : Bool)
    (unread : Option Nat) : Caps :=
  { th := thermalCap c eReq t f unread, dose := some (min (c.cOpen - aOpen) v.r * 1000 / x.d), mat := some c.eMat, op := eOp }

/-- A capture flash admitted is dark, or scaled under its caps (R28 to R35). -/
theorem admitCapture_ok (h : admitCapture c v aOpen x cal eOp t f unread = .ok a) :
    a = darkAdmission x t ∨ ∃ k cause, k = captureCaps c v aOpen x (requested cal x) eOp t f unread
      ∧ effective (requested cal x) k ≠ 0 ∧ a = scaled cal x (requested cal x) (effective (requested cal x) k) cause t := by
  unfold admitCapture at h
  dsimp only at h
  split at h
  · cases h
  split at h
  · cases h
  split at h
  · cases h
    exact .inl rfl
  · obtain ⟨hne, ha⟩ := admitUnder_ok h
    exact .inr ⟨_, _, rfl, hne, ha⟩

/-- A calibration flash admitted is dark, or scaled under its two caps (R36). -/
theorem admitCalibration_ok {eMat : Option Nat} (h : admitCalibration eMat x cal eOp t = .ok a) :
    a = darkAdmission x t ∨ ∃ k cause, k = ({ th := none, dose := none, mat := eMat, op := eOp } : Caps)
      ∧ a = scaled cal x (requested cal x) (effective (requested cal x) k) cause t := by
  unfold admitCalibration at h
  dsimp only at h
  split at h
  · cases h
    exact .inl rfl
  · obtain ⟨-, ha⟩ := admitUnder_ok h
    exact .inr ⟨_, _, rfl, ha⟩

/-- The planned dose of a flash under the dose cap is within what the cap was formed from (R31, R35). -/
theorem qPlan_le {eApp eEff d m : Nat} (happ : eApp ≤ eEff) (hcap : eEff ≤ m * 1000 / d) : ceilDiv (eApp * d) 1000 ≤ m := by
  refine ceilDiv_le_of_le_mul (by decide) ?_
  calc eApp * d ≤ m * 1000 / d * d := Nat.mul_le_mul_right _ (happ.trans hcap)
    _ ≤ m * 1000 := Nat.div_mul_le_self _ _

/-- The thermal cap falls from E_req at the warn temperature to 0 at the limit (R32). -/
theorem thermalCap_above {eReq : Nat} {y : Int} (hy : c.warn < y) :
    ∃ n : Nat, thermalCap c eReq (some y) false unread = some n ∧ (y < c.limit →
      (n : Int) * (c.limit - c.warn) ≤ (eReq : Int) * (c.limit - y)) ∧ (c.limit ≤ y → n = 0) := by
  simp only [thermalCap, Bool.false_eq_true, if_false, Int.not_le.2 hy]
  by_cases hlim : y < c.limit
  · refine ⟨_, if_pos hlim, fun _ => ?_, fun h => absurd hlim (Int.not_lt.2 h)⟩
    have hpos : 0 ≤ (eReq : Int) * (c.limit - y) / (c.limit - c.warn) :=
      Int.ediv_nonneg (Int.mul_nonneg (by omega) (by omega)) (by omega)
    rw [Int.toNat_of_nonneg hpos]
    exact Int.ediv_mul_le _ (by omega)
  · exact ⟨0, if_neg hlim, fun h => absurd h hlim, fun _ => rfl⟩

end

/-- The caps and the two accounts of a capture flash (R30, R31, R35). -/
theorem admitCapture_within {c : ClassFields} {v : Volume} {aOpen : Nat} {x : Setting} {cal : LampCal} {eOp : Nat}
    {t : Option Int} {f : Bool} {unread : Option Nat} {a : Admission}
    (h : admitCapture c v aOpen x cal eOp t f unread = .ok a) :
    a.Within x ∧ a.eEff ≤ c.eMat ∧ a.eEff ≤ eOp ∧ a.qPlan ≤ v.budget - v.u ∧ a.qPlan ≤ c.cOpen - aOpen := by
  rcases admitCapture_ok h with rfl | ⟨k, cause, rfl, -, rfl⟩
  · exact ⟨darkAdmission_within x t, Nat.zero_le _, Nat.zero_le _, Nat.zero_le _, Nat.zero_le _⟩
  · obtain ⟨hreq, hop, -, hdose, hmat⟩ := effective_le (requested cal x)
      (captureCaps c v aOpen x (requested cal x) eOp t f unread)
    have hwithin := scaled_within cal x _ cause t hreq
    have hplan := qPlan_le hwithin.app (hdose _ rfl)
    exact ⟨hwithin, hmat _ rfl, hop, hplan.trans (Nat.min_le_right _ _), hplan.trans (Nat.min_le_left _ _)⟩

/-- The thermal cap of a capture flash (R32; notes 6). -/
theorem admitCapture_thermal {c : ClassFields} {v : Volume} {aOpen : Nat} {x : Setting} {cal : LampCal} {eOp : Nat}
    {t : Option Int} {f : Bool} {unread : Option Nat} {a : Admission}
    (h : admitCapture c v aOpen x cal eOp t f unread = .ok a) :
    (∀ y : Int, f = false → t = some y → c.warn < y →
        (a.eEff : Int) * (c.limit - c.warn) ≤ (a.eReq : Int) * (c.limit - y) ∧ (c.limit ≤ y → a.eEff = 0))
      ∧ (f = true → a.eEff = 0) ∧ (∀ u : Nat, f = false → t = none → unread = some u → a.eEff ≤ u) := by
  rcases admitCapture_ok h with rfl | ⟨k, cause, rfl, hne, rfl⟩
  · simp [darkAdmission]
  · obtain ⟨-, -, hth, -⟩ := effective_le (requested cal x) (captureCaps c v aOpen x (requested cal x) eOp t f unread)
    refine ⟨?_, ?_, ?_⟩
    · rintro y rfl rfl hy
      obtain ⟨n, hcap, hbelow, habove⟩ := thermalCap_above (c := c) (unread := unread) (eReq := requested cal x) hy
      have hn := hth n hcap
      have hlim : y < c.limit := by
        by_contra hlim
        exact hne (by have := habove (by omega); omega)
      refine ⟨le_trans ?_ (hbelow hlim), fun hle => absurd hlim (by omega)⟩
      exact Int.mul_le_mul_of_nonneg_right (by exact_mod_cast hn) (by omega)
    · rintro rfl
      exact absurd (Nat.le_zero.1 (hth 0 rfl)) hne
    · rintro u rfl rfl rfl
      exact hth u rfl

/-- Settles O28, by the form that each admission has. -/
theorem admittedFlashKeepsToTheBudget : Obligations.AdmittedFlashKeepsToTheBudget := by
  refine ⟨fun c v aOpen x cal eOp t f unread a h => ?_,
    fun c v aOpen x cal eOp t f unread a h => admitCapture_thermal h, fun eMat x cal eOp t a h => ?_⟩
  · obtain ⟨⟨happ, heff, hvu, hvl, hru, hrl⟩, hmat, hop, hbudget, hroom⟩ := admitCapture_within h
    exact ⟨happ, heff, hmat, hop, hbudget, hroom, hvu, hvl, hru, hrl⟩
  · rcases admitCalibration_ok h with rfl | ⟨k, cause, rfl, rfl⟩
    · obtain ⟨happ, heff, hvu, hvl, hru, hrl⟩ := darkAdmission_within x t
      exact ⟨happ, heff, Nat.zero_le _, fun _ _ => Nat.zero_le _, hvu, hvl, hru, hrl⟩
    · obtain ⟨hreq, hop, -, -, hmat⟩ := effective_le (requested cal x) { th := none, dose := none, mat := eMat, op := eOp }
      obtain ⟨happ, heff, hvu, hvl, hru, hrl⟩ := scaled_within cal x _ cause t hreq
      exact ⟨happ, heff, hop, hmat, hvu, hvl, hru, hrl⟩

end Sys2Proof.Machine
end

section
/-! PROOF. The charge of a flash on its meter (O29). -/

namespace Sys2Proof.Machine

/-! ### The charge of a flash with no period of the view light -/

/-- What the checks of R45 leave of a record: they set its two flags and append to its exception list. -/
def Volume.Marked (v w : Volume) : Prop :=
  w = { v with low := w.low, exhausted := w.exhausted, exceptions := w.exceptions }

theorem Volume.Marked.trans {u v w : Volume} (h : Volume.Marked u v) (k : Volume.Marked v w) : Volume.Marked u w := by
  unfold Volume.Marked at *
  rw [k, h]

/-- From s to t the record v of slot i is no more than marked; the accumulator, the period and the mounting stand. -/
abbrev Core.Marks (s t : Core) (i : Fin 16) (v : Volume) : Prop :=
  t.dose = s.dose ∧ t.vols.mounted = s.vols.mounted ∧ ∃ w, t.vols.slots[i] = some w ∧ Volume.Marked v w

section
variable (s : Core) (i : Fin 16) (v : Volume) (seq : Option SeqNo)

/-- With no period running there is none to close at a force (R44). -/
theorem Core.forceView_still (f : ViewLight → ViewLight) (ha : s.dose.accrual = none) :
    s.forceView Core.closePeriod f = { s with illum := { s.illum with view := f s.illum.view } } :=
  Core.closePeriod_none _ ha

theorem Core.checkCeiling_still (ha : s.dose.accrual = none) :
    (s.checkCeiling Core.closePeriod).vols = s.vols ∧ (s.checkCeiling Core.closePeriod).dose = s.dose := by
  unfold Core.checkCeiling
  (repeat' split)
  · rw [Core.forceView_still s _ ha]
    exact ⟨rfl, rfl⟩
  all_goals exact ⟨rfl, rfl⟩

variable (hv : s.vols.slots[i] = some v)
include hv

theorem Core.checkLow_marks : Core.Marks s (s.checkLow i) i v := by
  by_cases h : v.r < v.w ∧ v.low = false
  · obtain ⟨hr, hlow⟩ := h
    rw [s.checkLow_below i v hv hr hlow]
    exact ⟨rfl, rfl, { v with low := true }, by simp, rfl⟩
  · rw [s.checkLow_stands i v hv (by simpa [or_iff_not_imp_left, Nat.not_le] using h)]
    exact ⟨rfl, rfl, v, hv, rfl⟩

theorem Core.appendException_marks (k : ExceptionKind) (opening detail : Nat) :
    Core.Marks s (s.appendException i k opening detail seq) i v := by
  unfold Core.appendException
  split
  · exact ⟨rfl, rfl, v, hv, rfl⟩
  · rw [s.editSlot_of i v _ hv]
    exact ⟨rfl, rfl, { v with exceptions := _ }, Core.setSlot_get _ _ _, rfl⟩

theorem Core.checkExhausted_marks (ha : s.dose.accrual = none) :
    Core.Marks s (s.checkExhausted Core.closePeriod i seq) i v := by
  simp only [Core.checkExhausted, hv]
  split
  · obtain ⟨hdose, hmounted, w, hw, hmark⟩ := Core.appendException_marks
      ((s.editSlot i fun v => { v with exhausted := true }).report (.budgetExhausted i.val v.inst v.budget v.u)) i
      { v with exhausted := true } seq (by rw [s.editSlot_of i v _ hv]; exact Core.setSlot_get _ _ _) .budgetExhausted v.cursor v.u
    rw [s.editSlot_of i v _ hv] at *
    have hmarked : Volume.Marked v w := Volume.Marked.trans (v := { v with exhausted := true }) rfl hmark
    split
    · rw [Core.forceView_still _ _ (by rw [hdose]; exact ha)]
      exact ⟨hdose, hmounted, w, hw, hmarked⟩
    · exact ⟨hdose, hmounted, w, hw, hmarked⟩
  · exact ⟨rfl, rfl, v, hv, rfl⟩

/-- The checks of R45 with no period running: the doses, the accumulator and the summary stand. -/
theorem Core.checks_marks (ha : s.dose.accrual = none) : Core.Marks s (s.checks i seq) i v := by
  unfold Core.checks Core.checksWith
  dsimp only
  have hceiling : ∃ t, (if s.vols.mounted = some i then s.checkCeiling Core.closePeriod else s) = t
      ∧ t.vols = s.vols ∧ t.dose = s.dose := by
    split
    · exact ⟨_, rfl, s.checkCeiling_still ha⟩
    · exact ⟨_, rfl, rfl, rfl⟩
  obtain ⟨t, ht, hvols, hdose⟩ := hceiling
  rw [ht]
  obtain ⟨hdose', hmounted', w, hw, hmark⟩ := t.checkLow_marks i v (by rw [hvols]; exact hv)
  obtain ⟨hdose'', hmounted'', x, hx, hmark'⟩ := (t.checkLow i).checkExhausted_marks i w seq hw (by rw [hdose', hdose, ha])
  exact ⟨by rw [hdose'', hdose', hdose], by rw [hmounted'', hmounted', hvols], x, hx, hmark.trans hmark'⟩

end

/-- The greatest figure of a summary after a flash (R186). -/
theorem Summary.addFlash_highestE (b : Bands) (rec_ : DoseRecord) (estimated : Bool) (m : Summary) :
    (m.addFlash b rec_ estimated).highestE = max m.highestE rec_.eUsed := by
  have hband : (m.addBand b rec_.eUsed).highestE = m.highestE := by
    unfold Summary.addBand
    (repeat' split) <;> rfl
  have hcause : ((m.addBand b rec_.eUsed).addCause rec_.cause).highestE = m.highestE := by
    rw [← hband]
    unfold Summary.addCause
    split <;> rfl
  simp only [Summary.addFlash, hcause]

section
variable (s : Core) (i : Fin 16) (v : Volume) (adm : Admission) (used : Nat × Source × Bool) (q : Nat) (seq : SeqNo)
  (hm : s.vols.mounted = some i) (hv : s.vols.slots[i] = some v)
include hm hv

/-- A dose added to the flash dose of the mounted record and to A_open (R26, R39). -/
theorem Core.addDose_flash : s.addDose q (fun v => { v with uF := satAdd max40 v.uF q }) =
    { s.setSlot i (some { v with uF := satAdd max40 v.uF q }) with
      dose := { s.dose with aOpen := s.dose.aOpen.map fun a => satAdd max32 a q } } := by
  rw [Core.addDose, Core.editMounted_of _ i v _ (by exact hm) (by exact hv)]
  rfl

/-- The dose record of a flash carries the figures it is charged on, and A_open after its charge (R39). -/
theorem Core.chargeFlash_record {ao : Nat} (ho : s.dose.aOpen = some ao) : (s.chargeFlash adm used q seq).2.eUsed = used.1
    ∧ (s.chargeFlash adm used q seq).2.source = used.2.1 ∧ (s.chargeFlash adm used q seq).2.q = q
    ∧ (s.chargeFlash adm used q seq).2.aOpenAfter = satAdd max32 ao q := by
  refine ⟨rfl, rfl, rfl, ?_⟩
  show (s.addDose q fun v => { v with uF := satAdd max40 v.uF q }).dose.aOpen.getD 0 = _
  simp only [s.addDose_flash i v q hm hv, ho, Option.map_some, Option.getD_some]

/-- The blocks once the dose of a metered flash has been added and checked: the summary and the counters come last. -/
theorem Core.chargeFlash_unestimated (hestimated : (used.2.1 == .nominal && !adm.dark) = false) :
    ∃ b os, (s.chargeFlash adm used q seq).1 =
      { (((s.addDose q fun v => { v with uF := satAdd max40 v.uF q }).checks i (some seq)).editMounted fun v =>
          { v with summary := v.summary.addFlash b (s.chargeFlash adm used q seq).2 false }) with out := os } := by
  have hmounted : (s.addDose q fun v => { v with uF := satAdd max40 v.uF q }).vols.mounted = some i := by
    rw [s.addDose_flash i v q hm hv]
    exact hm
  unfold Core.chargeFlash
  simp only [hmounted, hestimated, Bool.false_eq_true, if_false]
  obtain ⟨os, hos, -⟩ := Core.tellFlash_of (Core.editMounted _ _) used.1 adm.dimmed adm.cause
  exact ⟨_, _, hos⟩

/-- A flash charged on its meter with no period of the view light running: Q goes to the flash dose and to A_open, and
nothing else of the record but its flags, its exceptions and its summary changes (R26, R39, R45, R186). -/
theorem Core.chargeFlash_metered (hsource : used.2.1 = .meter) (ha : s.dose.accrual = none) :
    (s.chargeFlash adm used q seq).1.dose.aOpen = s.dose.aOpen.map (fun a => satAdd max32 a q)
      ∧ ∃ w, (s.chargeFlash adm used q seq).1.vols.slots[i] = some w
        ∧ w = { v with
            uF := satAdd max40 v.uF q, low := w.low, exhausted := w.exhausted, exceptions := w.exceptions
            summary := w.summary }
        ∧ w.summary.highestE = max v.summary.highestE used.1 := by
  obtain ⟨b, os, hcharge⟩ := s.chargeFlash_unestimated i v adm used q seq hm hv (by rw [hsource]; rfl)
  have hdosed := s.addDose_flash i v q hm hv
  obtain ⟨hdose, hmounted, w, hw, hmark⟩ := Core.checks_marks (s.addDose q fun v => { v with uF := satAdd max40 v.uF q })
    i { v with uF := satAdd max40 v.uF q } (some seq) (by rw [hdosed]; exact Core.setSlot_get _ _ _)
    (by rw [hdosed]; exact ha)
  rw [Core.editMounted_of _ i w _ (by rw [hmounted, hdosed]; exact hm) hw] at hcharge
  rw [hcharge]
  refine ⟨?_, _, Core.setSlot_get _ _ _, ?_, ?_⟩
  · rw [Core.setSlot_dose, hdose, hdosed]
  · rw [hmark]
  · rw [Summary.addFlash_highestE, hmark]
    rfl

end

/-- The figure of a window that is neither faulted nor full (R37, R38). -/
theorem usedLux_metered (eApp : Nat) (cal : CalPair) {r : Result} (hflag : r.flag ≠ some .fault) (hcode : r.code ≠ fullCode) :
    usedLux eApp (some cal) (some r) = (meterLux r.code cal, .meter, false) := by
  have hfault : r.faulted = false := by simpa [Result.faulted] using hflag
  simp only [usedLux, hfault, Bool.false_eq_true, if_false, hcode]

/-- Settles O29, by the meter's figure and the charge of a flash with no period running. -/
theorem flashIsChargedOnItsMeter : Obligations.FlashIsChargedOnItsMeter := by
  intro adm r cal seq i v ao e qq s hdark hflag hcode hcal hm hv hdose he hqq
  have hfull : r.code ≠ fullCode := by simpa [fullCode] using hcode
  obtain rfl : e = meterLux r.code cal := by
    simp only [he, meterLux, ceilDiv, clampInt, fullCode, Nat.cast_ofNat]
  obtain rfl : qq = ceilDiv (meterLux r.code cal * adm.d) 1000 := hqq
  have hwindow : s.chargeWindow adm (some r) seq =
      s.chargeFlash adm (meterLux r.code cal, .meter, false) (ceilDiv (meterLux r.code cal * adm.d) 1000) seq := by
    simp only [Core.chargeWindow, hdark, Bool.false_eq_true, if_false, hcal, usedLux_metered adm.eApp cal hflag hfull]
  have hopen : s.dose.aOpen = some ao := by rw [hdose]
  obtain ⟨hused, hsource, hq, hafter⟩ := s.chargeFlash_record i v adm (meterLux r.code cal, .meter, false)
    (ceilDiv (meterLux r.code cal * adm.d) 1000) seq hm hv hopen
  obtain ⟨hdoseAfter, w, hw, hsame, hhigh⟩ := s.chargeFlash_metered i v adm (meterLux r.code cal, .meter, false)
    (ceilDiv (meterLux r.code cal * adm.d) 1000) seq hm hv rfl (by rw [hdose])
  rw [hopen, Option.map_some] at hdoseAfter
  rw [satAdd, max32] at hafter hdoseAfter
  rw [satAdd, max40] at hsame
  rw [hwindow]
  refine ⟨hused, hsource, hq, hafter, hdoseAfter, w, hw, ?_, ?_, ?_, ?_, ?_, ?_, hhigh⟩ <;> rw [hsame]

end Sys2Proof.Machine
end

section
/-! PROOF. The view light switched and charged (O27). -/

namespace Sys2Proof.Machine

/-! ### A charge that meets no line -/

/-- The doses of a record and its accumulator stay clear of the lines of R46 to R48 after a charge of q. -/
structure Volume.ClearOfLines (c : ClassFields) (ao q : Nat) (v : Volume) : Prop where
  ceiling : ao + q < c.cOpen
  ceilingMax : c.cOpen ≤ 1000000000
  exhausted : v.u + q < v.budget
  low : v.u + q + v.budget * v.p / 100 ≤ v.budget
  budgetMax : v.budget ≤ 1000000000000

section
variable (s : Core) (i : Fin 16) (v : Volume) (c : ClassFields) (hm : s.vols.mounted = some i)
  (hv : s.vols.slots[i] = some v) (hc : s.vols.classes[v.cls] = some c)

include hm hv hc in
/-- The checks of a record that stands clear of the three lines leave all as it is (R46 to R48). -/
theorem Core.checksStill_clear {ao : Nat} (ho : s.dose.aOpen = some ao) (h : v.ClearOfLines c ao 0) (seq : Option SeqNo) :
    s.checksStill seq = s := by
  obtain ⟨hceiling, -, hexhausted, hlow, -⟩ := h
  have hceil : s.checkCeiling id = s := by
    simp only [Core.checkCeiling, s.cls_of i v c hm hv hc, ho]
    exact if_neg (by omega)
  have hwater : s.checkLow i = s := s.checkLow_stands i v hv (.inl (by simp only [Volume.w, Volume.r]; omega))
  have hleft : ¬ (v.r = 0 ∧ v.exhausted = false) := fun ⟨hr, _⟩ => by
    simp only [Volume.r] at hr
    omega
  simp only [Core.checksStill, Core.checksWith, hm, if_true, hceil, hwater, Core.checkExhausted, hv, hleft, if_false]

/-- A record charged for view light below its bounds (R43, R187). -/
def Volume.lit (eV ms : Nat) (v : Volume) : Volume :=
  { v with uV := v.uV + eV * ms, summary := { v.summary with viewMs := v.summary.viewMs + ms } }

theorem Volume.viewed_of_lt {eV ms : Nat} (hdose : v.uV + eV * ms ≤ max40) (hms : v.summary.viewMs + ms ≤ max32) :
    v.viewed eV ms = v.lit eV ms := by
  simp only [Volume.viewed, Volume.lit, satAdd, Nat.min_eq_right hdose, Nat.min_eq_right hms]

include hm hv hc in
/-- A period charged to the mounted record, with no line met: the charge and nothing else (R26, R43, R44, R187). -/
theorem Core.chargeView_clear {ao eV ms : Nat} (ho : s.dose.aOpen = some ao) (h : v.ClearOfLines c ao (eV * ms))
    (hms : v.summary.viewMs + ms ≤ 4294967295) :
    (s.chargeView eV ms).checksStill none = { s.setSlot i (some (v.lit eV ms)) with
      dose := { s.dose with aOpen := some (ao + eV * ms) } } := by
  obtain ⟨hceiling, hceilingMax, hexhausted, hlow, hbudgetMax⟩ := h
  have hopen : satAdd max32 ao (eV * ms) = ao + eV * ms := Nat.min_eq_right (by simp only [max32]; omega)
  have hcharge : s.chargeView eV ms = { s.setSlot i (some (v.lit eV ms)) with
      dose := { s.dose with aOpen := some (ao + eV * ms) } } := by
    rw [Core.chargeView_of s i v eV ms hm hv, ho, Option.map_some, hopen,
      v.viewed_of_lt (by simp only [max40, Volume.u] at *; omega) hms]
  rw [hcharge]
  refine Core.checksStill_clear { s.setSlot i (some (v.lit eV ms)) with dose := { s.dose with aOpen := some (ao + eV * ms) } }
    i (v.lit eV ms) c hm (Core.setSlot_get _ _ _) hc rfl ⟨hceiling, hceilingMax, ?_, ?_, hbudgetMax⟩ none
  · simpa only [Volume.u, Volume.lit, Nat.add_zero, Nat.add_assoc] using hexhausted
  · simpa only [Volume.u, Volume.lit, Nat.add_zero, Nat.add_assoc] using hlow

end

/-! ### VIEW ON -/

/-- E_v of the mounted class (R42). -/
theorem Core.viewLux_of (s : Core) {cal : LampCal} {c : ClassFields} (hcal : s.illum.lampCal = some cal)
    (hc : s.cls = some c) :
    s.viewLux = min (min ((cal.nView * s.illum.staged.cV + 4095 - 1) / 4095) c.eMat) s.illum.eOp := by
  simp only [Core.viewLux, hc, Core.viewNominal, hcal, ceilDiv]

/-- A view light switched on that no force and no suppression keeps dark begins a period at the present E_v (R43, R85). -/
theorem Core.withView_on (s : Core) (hw : s.illum.view.wanted = false) (hs : s.illum.view.suppressed = false)
    (ht : s.illum.view.thermal = false) (hc : s.illum.view.ceiling = false) :
    s.withView (fun w => { w with wanted := true, budget := false }) = { s with
      illum := { s.illum with
        view := { wanted := true, suppressed := false, thermal := false, budget := false, ceiling := false } }
      dose := { s.dose with accrual := some { since := s.now, eV := s.viewLux } } } := by
  have hdark : s.illum.view.state ≠ .lit := by simp [ViewLight.state, hw]
  simp only [Core.withView, hdark, if_false, hs, ht, hc]
  rfl

/-- VIEW ON of a volume that may be lit (R86). -/
theorem Core.viewOn_of (s : Core) (id : Nat) {v : Volume} (hv : s.volume = some v) (hcal : s.illum.lampCal ≠ none)
    (hx : v.exhausted = false) :
    s.viewOn id = (s.withView fun w => { w with wanted := true, budget := false }).reply id .done
      (.view (s.withView fun w => { w with wanted := true, budget := false }).illum.view.state) := by
  have hsome : s.illum.lampCal.isNone = false := by simpa [Option.isSome_iff_ne_none] using hcal
  simp only [Core.viewOn, hv, hsome, hx, Bool.false_eq_true, if_false]

section
variable {q : Req} {s : State} (hq : Taken q s)
include hq

/-- The refusals of VIEW ON (R86). -/
theorem viewOn_refused : (s.core.volume = none →
      exec (.viewOn q) s = .next (s.answered q 0x24 (.refused .noVolume) .empty (s.found q.us)))
    ∧ (∀ v, s.core.volume = some v → s.core.illum.lampCal = none →
      exec (.viewOn q) s = .next (s.answered q 0x24 (.refused .notCalibrated) .empty (s.found q.us)))
    ∧ ∀ v, s.core.volume = some v → s.core.illum.lampCal ≠ none → v.exhausted = true →
      exec (.viewOn q) s = .next (s.answered q 0x24 (.refused .state) .empty (s.found q.us)) := by
  refine ⟨fun hv => ?_, fun v hv hcal => ?_, fun v hv hcal hx => ?_⟩ <;>
    refine congrArg _ (State.ask_replies hq ?_ rfl rfl)
  · simp only [Core.viewOn, State.found_volume, hv]
  · simp only [Core.viewOn, State.found_volume, hv, State.found_illum, hcal, Option.isNone_none, if_true]
  · have hsome : s.core.illum.lampCal.isNone = false := by simpa [Option.isSome_iff_ne_none] using hcal
    simp only [Core.viewOn, State.found_volume, hv, State.found_illum, hsome, hx, Bool.false_eq_true, if_false, if_true]

/-- VIEW ON lights the view light (R42, R43, R86). -/
theorem viewOn_lights (v : Volume) (cal : LampCal) (c : ClassFields) (hv : s.core.volume = some v)
    (hcal : s.core.illum.lampCal = some cal) (hc : s.core.cls = some c) (hx : v.exhausted = false)
    (hw : s.core.illum.view.wanted = false) (hs : s.core.illum.view.suppressed = false)
    (ht : s.core.illum.view.thermal = false) (hceiling : s.core.illum.view.ceiling = false) :
    exec (.viewOn q) s = .next (s.answered q 0x24 .done (.view .lit) { s.found q.us with
      illum := { s.core.illum with
        view := { wanted := true, suppressed := false, thermal := false, budget := false, ceiling := false } }
      dose := { s.core.dose with
        accrual := some
          { since := (s.found q.us).now
            eV := min (min ((cal.nView * s.core.illum.staged.cV + 4095 - 1) / 4095) c.eMat) s.core.illum.eOp } } }) := by
  refine congrArg _ (State.ask_replies hq ?_ rfl rfl)
  rw [Core.viewOn_of _ _ (by exact hv) (by simp [hcal]) hx,
    Core.withView_on (s.found q.us) (by exact hw) (by exact hs) (by exact ht) (by exact hceiling),
    Core.viewLux_of (s.found q.us) (by exact hcal) (by exact hc)]
  rfl

/-- VIEW OFF of a light that is not lit clears the wanted flag (R86). -/
theorem viewOff_dark (h : s.core.illum.view.state ≠ .lit) :
    exec (.viewOff q) s = .next (s.answered q 0x24 .done (.view .off) { s.found q.us with
      illum := { s.core.illum with view := { s.core.illum.view with wanted := false } } }) := by
  refine congrArg _ (State.ask_replies hq ?_ rfl rfl)
  rw [Core.viewOff, Core.withView_dark (s.found q.us) _ (by exact h) (by simp [ViewLight.state])]
  rfl

/-- VIEW OFF of a lit light ends its period, whose charge meets no line (R44, R86). -/
theorem viewOff_lit (i : Fin 16) (v : Volume) (c : ClassFields) (a : Accrual) (ao : Nat)
    (hm : s.core.vols.mounted = some i) (hv : s.core.vols.slots[i] = some v) (hc : s.core.vols.classes[v.cls] = some c)
    (hdose : s.core.dose = { aOpen := some ao, accrual := some a }) (hlit : s.core.illum.view.state = .lit)
    (hclear : v.ClearOfLines c ao (a.eV * (s.found q.us).elapsedMs a.since))
    (hms : v.summary.viewMs + (s.found q.us).elapsedMs a.since ≤ 4294967295) :
    exec (.viewOff q) s = .next (s.answered q 0x24 .done (.view .off) { s.found q.us with
      illum := { s.core.illum with view := { s.core.illum.view with wanted := false } }
      dose := { aOpen := some (ao + a.eV * (s.found q.us).elapsedMs a.since), accrual := none }
      vols := { s.core.vols with
        slots := s.core.vols.slots.set i (some (v.lit a.eV ((s.found q.us).elapsedMs a.since))) } }) := by
  have hcharge := Core.chargeView_clear { (s.found q.us).switchedOff with dose := { s.core.dose with accrual := none } }
    i v c hm hv hc (by rw [hdose]) hclear hms
  refine congrArg _ (State.ask_replies hq ?_ rfl rfl)
  rw [Core.viewOff, (s.found q.us).withView_off_lit a (by exact hlit) (by simp [hdose]), State.found_dose, hcharge]
  rfl

end

/-! ### Full periods -/

/-- A full period charged while the view light stays lit: the next begins where it ended (R43). -/
theorem Core.fullPeriod_of {s t : Core} {a : Accrual}
    (h : ({ s with dose := { s.dose with accrual := none } }.chargeView a.eV 100).checksStill none = t)
    (hlit : t.illum.view.state = .lit) :
    s.fullPeriod a = { t with dose := { t.dose with accrual := some { since := a.since + 100000, eV := a.eV } } } := by
  subst h
  exact if_pos hlit

/-- The end of a full period whose charge meets no line: the next begins where it ended, at the same E_v (R43). -/
theorem viewPeriodEnd_lit (us : Nat) (i : Fin 16) (v : Volume) (c : ClassFields) (a : Accrual) (ao : Nat) (s : State)
    (hm : s.core.vols.mounted = some i) (hv : s.core.vols.slots[i] = some v) (hc : s.core.vols.classes[v.cls] = some c)
    (hdose : s.core.dose = { aOpen := some ao, accrual := some a }) (hlit : s.core.illum.view.state = .lit)
    (hdue : a.since + 100000 ≤ (s.found us).now) (hclear : v.ClearOfLines c ao (a.eV * 100))
    (hms : v.summary.viewMs + 100 ≤ 4294967295) :
    exec (.viewPeriodEnd us) s = .next (s.quietly { s.found us with
      dose := { aOpen := some (ao + a.eV * 100), accrual := some { since := a.since + 100000, eV := a.eV } }
      vols := { s.core.vols with slots := s.core.vols.slots.set i (some (v.lit a.eV 100)) } }) := by
  have hcharge := Core.chargeView_clear { s.found us with dose := { s.core.dose with accrual := none } }
    i v c hm hv hc (by rw [hdose]) hclear hms
  have hover : (s.found us).due a.since 100 = true := by simp [Core.due, hdue]
  refine congrArg _ (State.event_quietly us _ s _ ?_ rfl rfl)
  rw [Core.periodOver, State.found_dose, hdose]
  exact (if_pos hover).trans (Core.fullPeriod_of hcharge hlit)

/-- Settles O27, by VIEW ON, VIEW OFF and the end of a full period. -/
theorem viewLightIsSwitchedAndCharged : Obligations.ViewLightIsSwitchedAndCharged := by
  refine ⟨⟨fun q s hq => ?_, fun us i v c a ao s hm hv hc hdose hlit hdue hceiling hmax hleft hlow hbudget hms => ?_⟩,
    fun q i v c a ao ms s hq hm hv hc hdose hlit hms => ?_⟩
  · obtain ⟨hnone, hcal, hexhausted⟩ := viewOn_refused hq
    exact ⟨hnone, hcal, hexhausted, viewOn_lights hq, viewOff_dark hq⟩
  · exact viewPeriodEnd_lit us i v c a ao s hm hv hc hdose hlit hdue ⟨hceiling, hmax, hleft, hlow, hbudget⟩ hms
  · obtain rfl : ms = (s.found q.us).elapsedMs a.since := hms
    exact fun hceiling hmax hleft hlow hbudget => viewOff_lit hq i v c a ao hm hv hc hdose hlit
      ⟨hceiling, hmax, hleft, hlow, hbudget⟩

end Sys2Proof.Machine
end

section
/-! PROOF. The beginning of a calibration flash (O26). -/

namespace Sys2Proof.Machine

/-! ### From the request to the reading -/

/-- The station is ready for a calibration flash (R75, R76, R81): no volume mounted, no flash in hand, both calibrations
present, the curtain CLEAR, no hold and the recovery over. -/
structure Core.CalibrationReady (s : Core) : Prop where
  mounted : s.vols.mounted = none
  life : s.illum.life = .idle
  lamps : s.illum.lampCal ≠ none
  channelT : s.meas.cal.t ≠ none
  curtain : s.panel.broken = false
  hold : s.illum.hold = false
  recovered : ∀ t0, s.illum.lampOffAt = some t0 → t0 + 150000 ≤ s.now

/-- A flash in ADMITTING whose waits are met takes a fresh T latch, and asks for a T reading over an old one (R66, R76). -/
theorem Core.advance_of {s : Core} {f : Flash} {r : Result} (hlife : s.illum.life = .admitting)
    (hf : s.illum.flash = some f) (hasked : f.tAsked = false) (hwaits : s.waitsMet f = true)
    (hr : s.meas.latch.t = some r) :
    s.advance = if s.fresh r then (s.testHold r.faulted r.value).useReading r
      else (s.setFlash .admitting (some { f with tAsked := true })).post .T .spot .admission := by
  simp only [Core.advance, hlife, hf, hasked, hwaits, hr, Bool.not_false, Bool.and_self, if_true]

/-- A reading taken while the waits are met is admitted on (R76). -/
theorem Core.useReading_of {s : Core} {f : Flash} (r : Result) (hlife : s.illum.life = .admitting)
    (hf : s.illum.flash = some f) (hwaits : s.waitsMet f = true) : s.useReading r = s.admitFlash f r := by
  simp only [Core.useReading, hlife, hf, hwaits, if_true]

/-- The blocks as a calibration flash enters ADMITTING (R75). -/
def Core.calibrating (id : Nat) (s : Core) : Core := s.setFlash .admitting (some (newFlash (.calibration id) s.now))

section
variable {s : Core} (h : s.CalibrationReady) (id : Nat)
include h

/-- A calibration flash that is taken enters ADMITTING (R75, R81). -/
theorem Core.CalibrationReady.enters : s.calibrationFlash id =
    (s.calibrating id).advance := by
  obtain ⟨hm, hlife, hlamps, hT, hcurtain, hold, -⟩ := h
  have hlamps' : s.illum.lampCal.isNone = false := by simpa [Option.isSome_iff_ne_none] using hlamps
  have hT' : s.meas.cal.t.isNone = false := by simpa [Option.isSome_iff_ne_none] using hT
  have hcal : ¬ (s.illum.lampCal = none ∨ s.meas.cal.t = none) := not_or.2 ⟨hlamps, hT⟩
  simp only [Core.calibrationFlash, hm, Option.isSome_none, Bool.false_eq_true, if_false, hlife, Lifecycle.taken, hlamps', hT',
    Bool.or_false, hcurtain, reduceCtorEq, Core.enterAdmitting, Core.calibrating, newFlash, Flash.isCapture, false_and, hcal, hold]

/-- It need not wait for the curtain, the hold or the recovery (R76). -/
theorem Core.CalibrationReady.waitsMet : (s.calibrating id).waitsMet (newFlash (.calibration id) s.now) = true := by
  obtain ⟨-, -, -, -, hcurtain, hold, hrecovered⟩ := h
  have hover : (match s.illum.lampOffAt with
      | some t => s.due t 150
      | none => true) = true := by
    split
    next t0 ht => simpa [Core.due] using hrecovered t0 ht
    next => rfl
  simp only [Core.waitsMet, newFlash, Flash.isCapture, Core.calibrating, Bool.false_and, Core.setFlash_illum, Core.setFlash_panel, hcurtain, hold,
    Bool.not_false, Bool.true_and]
  exact hover

/-- A T latch older than 1,000 ms makes it ask for a reading (R66). -/
theorem Core.CalibrationReady.asks {r : Result} (hr : s.meas.latch.t = some r) (hold : 1000 < (s.stamp - r.stamp).toNat) :
    s.calibrationFlash id =
      (s.setFlash .admitting (some { newFlash (.calibration id) s.now with tAsked := true })).post .T .spot .admission := by
  have hstale : (s.calibrating id).fresh r = false :=
    decide_eq_false (Nat.not_le.2 hold)
  rw [h.enters id, Core.advance_of (s := s.calibrating id) rfl rfl rfl (h.waitsMet id) hr, if_neg (by simp [hstale])]
  rfl

/-- A T latch of at most 1,000 ms, not faulted, is taken at once: with no volume mounted it tests no limit (R66, R82). -/
theorem Core.CalibrationReady.admits {r : Result} {x : Int} (hr : s.meas.latch.t = some r)
    (hfresh : (s.stamp - r.stamp).toNat ≤ 1000) (hflag : r.flag ≠ some .fault) (hx : r.value = some x) :
    s.calibrationFlash id = (s.calibrating id).admitFlash
      (newFlash (.calibration id) s.now) r := by
  have hfresh' : (s.calibrating id).fresh r = true := decide_eq_true hfresh
  have hfault : r.faulted = false := by simpa [Result.faulted] using hflag
  have hcls : (s.calibrating id).cls = none := by
    simp only [Core.cls, Core.volume, Core.mounted, Core.calibrating, Core.setFlash_vols, h.mounted, Option.map_none]
  have htest : (s.calibrating id).testHold r.faulted r.value =
      s.calibrating id := by
    simp only [Core.testHold, Core.holdVerdict, hfault, hx, hcls, Bool.false_eq_true, if_false, Option.some.injEq, false_and]
  rw [h.enters id, Core.advance_of (s := s.calibrating id) rfl rfl rfl (h.waitsMet id) hr, if_pos hfresh', htest,
    Core.useReading_of (s := s.calibrating id) r rfl rfl (h.waitsMet id)]

end

/-! ### The admission of a setting under its caps -/

/-- A setting that asks for light under both caps is admitted as it stands (R33 to R36). -/
theorem admitCalibration_full {eMat : Option Nat} {x : Setting} {cal : LampCal} {eOp : Nat} {t : Option Int}
    (hpos : 0 < requested cal x) (hop : requested cal x ≤ eOp) (hmat : ∀ m, eMat = some m → requested cal x ≤ m) :
    admitCalibration eMat x cal eOp t = .ok
      { cVU := x.cVU, cVL := x.cVL, cRU := x.cRU, cRL := x.cRL, eReq := requested cal x, eEff := requested cal x
        eApp := requested cal x, cause := .none, dimmed := false, qPlan := ceilDiv (requested cal x * x.d) 1000
        d := x.d, t := t, dark := false } := by
  have hcapped : capped (requested cal x) eMat = requested cal x := by
    cases eMat with
    | none => rfl
    | some m => exact Nat.min_eq_left (hmat m rfl)
  have heff : effective (requested cal x) { th := none, dose := none, mat := eMat, op := eOp } = requested cal x := by
    simp only [effective, capped] at hcapped ⊢
    rw [hcapped, Nat.min_eq_left hop]
  have hnominal : nominalLux cal x.cVU x.cVL x.cRU x.cRL = requested cal x := rfl
  have hfloor : ¬ requested cal x < min x.eFloor (requested cal x) := by omega
  simp only [admitCalibration, Nat.ne_of_gt hpos, if_false, admitUnder, heff, limiting, if_true, scaled, Nat.lt_irrefl,
    decide_false, hnominal, hfloor, or_false]

/-! ### The window -/

section
variable {s : Core} {f : Flash} {r : Result} {cal : LampCal} {x : Int} {adm : Admission} {id : Nat}
  (hcal : s.illum.lampCal = some cal) (hx : r.value = some x)
  (hadmit : ({ s with illum := { s.illum with active := s.illum.staged } } : Core).admission f cal (some x) r.faulted = .ok adm)
include hcal hx hadmit

/-- An admitted flash copies the staged setting and posts its window (R71, R77). -/
theorem Core.admitFlash_ok : s.admitFlash f r =
    (({ s with illum := { s.illum with active := s.illum.staged } } : Core).setFlash .meterWait
      (some { f with adm := some adm, tAsked := false })).post .P .window .window := by
  unfold Core.admitFlash
  split
  next cal' hcal' =>
    obtain rfl : cal = cal' := Option.some.inj (hcal.symm.trans hcal')
    dsimp only
    rw [hx, hadmit, if_neg (by simp)]
  next hnone => exact absurd (hcal.symm.trans hnone) (by simp)

end

section
variable {s : Core} (hp : s.meas.pending = ⟨none, none, none, none⟩)
include hp

/-- A window posted to a free converter begins, and lights its flash (R52, R55, R77). -/
theorem Core.post_window_free {f : Flash} {id : Nat} (hconv : s.meas.conv = none) (hlife : s.illum.life = .meterWait)
    (hf : s.illum.flash = some f) (hby : f.by_ = .calibration id) :
    s.post .P .window .window = { s with
      illum := { s.illum with life := .lit, flash := some { f with litAt := s.now } }
      meas := { s.meas with
        conv := some { channel := .P, kind := .window, requesters := [.window], since := s.now,
                       limit := s.illum.active.d + 12000 } } } := by
  have hnext : s.meas.next = none := by
    simp only [Measure.next, hp]
    decide
  simp only [Core.post, hconv, hnext, if_true, Core.grant, Core.convLimit, Core.lampOn, hlife, hf, hby]

/-- A window posted while a conversion is in progress waits, and is counted (R52, R181). -/
theorem Core.post_window_busy {c : Conversion} (hconv : s.meas.conv = some c) :
    s.post .P .window .window = { s with
      meas := { s.meas with pending := ⟨some { kind := .window, requesters := [.window] }, none, none, none⟩ }
      out := s.out ++ [.count .converterWaits 0] } := by
  simp only [Core.post, hconv, Core.tell_meas, hp]
  rw [← hconv]
  rfl

end

/-! ### The request -/

/-- A request whose owner forms no reply waits for one, with the messages of its owner handed over (R190). -/
theorem State.ask_waits {q : Req} {kind : Byte} {f : Nat → Core → Core} {s : State} {c : Core} (h : Taken q s)
    (hf : f s.link.nextEntry (s.found q.us) = c) (hs : c.sig = []) (ho : ∀ o ∈ c.out, o.isReply = false) :
    Waits q kind s (s.ask q kind f) ∧ (s.ask q kind f).core = { c with out := [], sig := [] }
      ∧ (s.ask q kind f).counters = c.out.foldl takeCounts s.counters := by
  have hrun := State.run_of_sig_nil (f s.link.nextEntry) _ _
    (show f s.link.nextEntry { (s.entered q kind).core with out := [], sig := [] } = _ from hf) hs
  have hask : s.ask q kind f = (s.entered q kind).run (f s.link.nextEntry) := State.request_taken q kind _ s h
  rw [hask, hrun]
  refine ⟨?_, rfl, rfl⟩
  simp only [Waits, Link.pump_pending, Link.foldl_take_pending _ _ ho]
  rfl

section
variable {q : Req} {s : State} (hq : Taken q s)
include hq

/-- CALIBRATION_FLASH is refused with a volume mounted (R81). -/
theorem calibrationFlash_mounted (hm : s.core.vols.mounted.isSome) :
    exec (.calibrationFlash q) s = .next (s.answered q 0x23 (.refused .state) .empty (s.found q.us)) := by
  refine congrArg _ (State.ask_replies hq ?_ rfl rfl)
  simp only [Core.calibrationFlash, State.found_vols, hm, if_true]

/-- CALIBRATION_FLASH is refused while the curtain is BROKEN (R81). -/
theorem calibrationFlash_broken (hm : s.core.vols.mounted = none) (hlife : s.core.illum.life = .idle)
    (hlamps : s.core.illum.lampCal ≠ none) (hT : s.core.meas.cal.t ≠ none) (hb : s.core.panel.broken = true) :
    exec (.calibrationFlash q) s = .next (s.answered q 0x23 (.refused .interlock) .empty (s.found q.us)) := by
  have hlamps' : s.core.illum.lampCal.isNone = false := by simpa [Option.isSome_iff_ne_none] using hlamps
  have hT' : s.core.meas.cal.t.isNone = false := by simpa [Option.isSome_iff_ne_none] using hT
  refine congrArg _ (State.ask_replies hq ?_ rfl rfl)
  simp only [Core.calibrationFlash, State.found_vols, hm, Option.isSome_none, Bool.false_eq_true, if_false, State.found_illum,
    hlife, Lifecycle.taken, hlamps', State.found_meas, hT', Bool.or_false, State.found_panel, hb, if_true]

variable (hready : (s.found q.us).CalibrationReady) (hp : s.core.meas.pending = ⟨none, none, none, none⟩)
  {r : Result} (hr : s.core.meas.latch.t = some r)
include hready hp hr

/-- Over an old T latch it asks for a T reading (R66). -/
theorem calibrationFlash_stale (hold : 1000 < ((s.found q.us).stamp - r.stamp).toNat) (hconv : s.core.meas.conv = none) :
    ∃ t, exec (.calibrationFlash q) s = .next t ∧ Waits q 0x23 s t
      ∧ t.core = { s.found q.us with
          illum := { s.core.illum with
            life := .admitting
            flash := some { by_ := .calibration s.link.nextEntry, asked := (s.found q.us).now, metHold := none,
                            needLeave := false, tAsked := true, adm := none, litAt := 0 } }
          meas := { s.core.meas with
            conv := some { channel := .T, kind := .spot, requesters := [.admission],
                           since := (s.found q.us).now, limit := 12000 } } } := by
  have hasks := hready.asks s.link.nextEntry hr hold
  rw [Core.post_free _ _ _ (by exact hconv) (by exact hp)] at hasks
  obtain ⟨hwaits, hcore, -⟩ := State.ask_waits (kind := 0x23) (f := fun id c => c.calibrationFlash id) hq hasks rfl
    (by simp)
  exact ⟨_, rfl, hwaits, hcore⟩

variable {x : Int} {cal : LampCal} (hfresh : ((s.found q.us).stamp - r.stamp).toNat ≤ 1000) (hflag : r.flag ≠ some .fault)
  (hx : r.value = some x) (hcal : s.core.illum.lampCal = some cal) (hpos : 0 < requested cal s.core.illum.staged)
  (hop : requested cal s.core.illum.staged ≤ s.core.illum.eOp)
  (hmat : ∀ k, s.core.vols.classes[(0 : Fin 8)] = some k → requested cal s.core.illum.staged ≤ k.eMat)
include hfresh hflag hx hcal hpos hop hmat

omit hq hp in
/-- Over a fresh T latch the staged setting is admitted as it stands, and its window posted (R36, R66, R71, R77). -/
theorem calibrationFlash_admitted {adm : Admission}
    (hadm : adm = { cVU := s.core.illum.staged.cVU, cVL := s.core.illum.staged.cVL, cRU := s.core.illum.staged.cRU
                    cRL := s.core.illum.staged.cRL, eReq := requested cal s.core.illum.staged
                    eEff := requested cal s.core.illum.staged, eApp := requested cal s.core.illum.staged, cause := .none
                    dimmed := false, qPlan := ceilDiv (requested cal s.core.illum.staged * s.core.illum.staged.d) 1000
                    d := s.core.illum.staged.d, t := some x, dark := false }) :
    (s.found q.us).calibrationFlash s.link.nextEntry = Core.post .P .window .window { s.found q.us with
      illum := { s.core.illum with
        life := .meterWait
        active := s.core.illum.staged
        flash := some { newFlash (.calibration s.link.nextEntry) (s.found q.us).now with adm := some adm } } } := by
  have hadmit := admitCalibration_full (eMat := (s.core.vols.classes[0]).map (·.eMat)) (t := some x) hpos hop (by
    intro m hm
    obtain ⟨k, hk, rfl⟩ := Option.map_eq_some_iff.1 hm
    exact hmat k hk)
  rw [← hadm] at hadmit
  rw [hready.admits s.link.nextEntry hr hfresh hflag hx]
  exact Core.admitFlash_ok hcal hx hadmit

end

/-- Settles O26, by the refusals, the wait for a reading and the admission of the staged setting. -/
theorem calibrationFlashBegins : Obligations.CalibrationFlashBegins := by
  intro q s hq
  refine ⟨calibrationFlash_mounted hq, calibrationFlash_broken hq, ?_⟩
  intro r cal hm hlife hcal hT hb hhold hover hr hp
  have hready : (s.found q.us).CalibrationReady := ⟨hm, hlife, by simp [hcal], hT, hb, hhold, hover⟩
  refine ⟨calibrationFlash_stale hq hready hp hr, ?_⟩
  intro x e adm hfresh hflag hx he hpos hop hmat hadm
  obtain rfl : e = requested cal s.core.illum.staged := he
  have hadmitted := calibrationFlash_admitted hready hr hfresh hflag hx hcal hpos hop hmat hadm
  refine ⟨fun hconv => ?_, fun c hconv => ?_⟩
  · rw [Core.post_window_free (by exact hp) (by exact hconv) rfl rfl rfl] at hadmitted
    obtain ⟨hwaits, hcore, -⟩ := State.ask_waits (kind := 0x23) (f := fun id c => c.calibrationFlash id) hq hadmitted rfl
      (by simp)
    refine ⟨_, rfl, hwaits, hcore, ?_⟩
    rw [hcore, hadm]
    rfl
  · rw [Core.post_window_busy (by exact hp) (by exact hconv)] at hadmitted
    obtain ⟨hwaits, hcore, hcounters⟩ := State.ask_waits (kind := 0x23) (f := fun id c => c.calibrationFlash id) hq hadmitted
      rfl (by simp [Out.isReply])
    refine ⟨_, rfl, hwaits, hcore, fun i => ?_⟩
    rw [hcounters]
    exact (takeCounts_get s.counters .converterWaits 0 i).trans
      ((s.counters[i]).take_plain _ (by decide) (by decide) (by decide))

end Sys2Proof.Machine
end

section
/-! PROOF. ABORT over a homing that waits for its reference while an arm stands stopped at its own (O54). -/

namespace Sys2Proof.Machine

/-- A homing in its reference phase, its G request pending behind a spot of T, with the curtain CLEAR and the arm of a turn
STOPPED by the curtain at PARK, before its open reference. The rules keep the two apart (HOME is refused while an axis is
STOPPED, R93, and a break ends a homing, R95); the hypotheses of O54 do not. -/
def homingBesideStoppedArm : State :=
  { State.reset with
    core := { Core.powerOn with
      panel := { Panel.powerOn with broken := false }
      meas := { Measure.powerOn with
        conv := some { channel := .T, kind := .spot, requesters := [.timer], since := 0, limit := 12000 }
        pending := ⟨none, some { kind := .spot, requesters := [.homingRef] }, none, none⟩ }
      motion := { Motion.powerOn with
        homing := some { entry := 0, phase := .reference, since := 0 }
        turn := some (Turn.first 0), arm := .stopped .returning .curtain, stage := .reference } }
    link := { Link.powerOn with nextEntry := 1 } }

/-- An ABORT frame. -/
def abortRequest : Req := { us := 0, tag := 0, lengthOk := true }

theorem homingBesideStoppedArm_taken : Taken abortRequest homingBesideStoppedArm :=
  ⟨rfl, by decide, rfl, by decide⟩

theorem homingBesideStoppedArm_issued : homingBesideStoppedArm.NumbersIssued := by
  refine ⟨fun f e hf => ?_, fun f e hf => ?_, fun h hh => ?_, fun e he => ?_⟩
  · cases hf
  · cases hf
  · cases hh
    decide
  · simp [homingBesideStoppedArm, Measure.allWaiting, waiters] at he

/-- ABORT withdraws the homing's request (R95); the arm, released by the CLEAR curtain (R111, notes 45), then asks for its
open reference, which waits in the same entry. -/
theorem abort_posts_openRef : ∃ t, exec (.abort abortRequest) homingBesideStoppedArm = .next t
    ∧ t.core.meas.pending.g = some { kind := .spot, requesters := [.openRef] } := ⟨_, rfl, rfl⟩

/-- Refutes O54, in its clause on a homing in the reference phase: the homing's request leaves G, as the clause says, but
the arm of a turn in hand beside it then asks for its own open reference, so that G has an entry pending. -/
theorem not_abortEndsWhatIsInHand : ¬ Obligations.AbortEndsWhatIsInHand := by
  intro h
  obtain ⟨t, ht, -, -, -, -, -, -, -, -, -, -, -, -, -, -, -, hhoming, -⟩ :=
    h abortRequest homingBesideStoppedArm homingBesideStoppedArm_taken homingBesideStoppedArm_issued
  obtain ⟨-, -, -, -, hreference⟩ := hhoming { entry := 0, phase := .reference, since := 0 } rfl
  obtain ⟨u, hu, hpending⟩ := abort_posts_openRef
  obtain rfl : t = u := Host.Outcome.next.inj (ht.symm.trans hu)
  have hnone := hreference rfl rfl
  rw [hpending] at hnone
  cases hnone

end Sys2Proof.Machine
end

section
/-! PROOF. CALIBRATE of the measurement unit (O32). -/

namespace Sys2Proof.Machine

/-! ### The fields and their clamps -/

/-- The mask that marks every calibration field of a channel (section 3.3). -/
def calMask : Channel → Mask
  | .G => 0x2#16
  | _ => 0x6#16

/-- The status that names the changed ones of two fields, numbered 2 and 3 (R191). -/
def clampStatus (first second : Bool) : Status :=
  if first then (if second then .doneClamped 0x0006#16 else .doneClamped 0x0002#16)
  else (if second then .doneClamped 0x0004#16 else .done)

theorem doneStatus_maskOf_pair (a b : Bool) : doneStatus (maskOf [(2, a), (3, b)]) = clampStatus a b := by
  cases a <;> cases b <;> rfl

/-- The clamp mask of a CALIBRATE that presents every field has a bit for each field that its clamp changes (R60). -/
theorem doneStatus_calClampMask (ch : Channel) (x : CalPair) : doneStatus (calClampMask ch (calMask ch) x) =
    clampStatus (x.x != (calClamp ch x).x) (ch != .G && x.y != (calClamp ch x).y) := by
  rw [calClampMask, doneStatus_maskOf_pair]
  cases ch <;> rfl

theorem clampInt_of_mem {lo hi x : Int} (hlo : lo ≤ x) (hhi : x ≤ hi) : clampInt lo hi x = x := by
  unfold clampInt
  omega

/-! ### The calibration set -/

/-- CALIBRATE with every field of its channel sets them as they are clamped; G, which has one field, is taken from
uncalibrated (R60). -/
theorem Core.calibrate_full (s : Core) (id : Nat) {n : Nat} {ch : Channel} (x : CalPair)
    (hn : channelCodes[n]? = some ch) (hG : ch = .G → s.meas.cal.g = none) :
    s.calibrate id n (calMask ch) x =
      (({ s with meas := { s.meas with cal := s.meas.cal.set ch (some (calClamp ch x)) } } : Core).reply id
        (clampStatus (x.x != (calClamp ch x).x) (ch != .G && x.y != (calClamp ch x).y))
        (.channelCal ch (some (calClamp ch x)))).startTimer (s.meas.cal.get ch) ch := by
  have hstray : strayField (calMask ch) (lastCalField ch) = none := by cases ch <;> decide
  have habsent : firstAbsent (calMask ch) (calFields ch) = none := by cases ch <;> decide
  have hx (o : CalPair) : pick (calMask ch) 2 (calClamp ch x).x o.x = (calClamp ch x).x := by cases ch <;> rfl
  have hy : pick (calMask ch) 3 (calClamp ch x).y ((s.meas.cal.get ch).getD (calClamp ch x)).y = (calClamp ch x).y := by
    cases ch with
    | G => simp only [PerChannel.get, hG rfl, Option.getD_none, pick, ite_self]
    | _ => rfl
  simp only [Core.calibrate, hn, hstray, habsent, ite_self, hx, hy, doneStatus_calClampMask]

/-- The periodic timer is started for T alone, and once (R65). -/
theorem Core.startTimer_off (s : Core) {ch : Channel} {was : Option CalPair} (h : ch = .T → was ≠ none) :
    s.startTimer was ch = s :=
  if_neg fun ⟨hT, hnone⟩ => h hT hnone

section
variable {q : Req} {s : State} (hq : Taken q s)
include hq

/-- CALIBRATE of P, G or F, or of a T already calibrated. -/
theorem calibrate_answered {n : Nat} {ch : Channel} (x y : Int) {c : CalPair} {st : Status}
    (hn : channelCodes[n]? = some ch) (hG : ch = .G → s.core.meas.cal.g = none)
    (hT : ch = .T → s.core.meas.cal.t ≠ none) (hc : calClamp ch { x := x, y := y } = c)
    (hst : clampStatus (x != c.x) (ch != .G && y != c.y) = st) :
    exec (.calibrate q n (calMask ch) x y) s = .next (s.answered q 0x28 st (.channelCal ch (some c)) { s.found q.us with
      meas := { s.core.meas with cal := s.core.meas.cal.set ch (some c) } }) := by
  subst hc hst
  refine congrArg _ (State.ask_replies hq ?_ rfl rfl)
  rw [Core.calibrate_full _ _ _ hn (by exact hG), Core.startTimer_off]
  · rfl
  · rintro rfl
    exact hT rfl

/-- CALIBRATE of an uncalibrated T starts the periodic timer, whose first request a free converter takes (R60, R65). -/
theorem calibrate_starts_timer {x y : Int} (hT : s.core.meas.cal.t = none) (hx : -400 ≤ x) (hx' : x ≤ 2000) (hy : 1 ≤ y)
    (hy' : y ≤ 3000) (hconv : s.core.meas.conv = none) (hp : s.core.meas.pending = ⟨none, none, none, none⟩) :
    exec (.calibrate q 3 0x6#16 x y) s = .next (s.answered q 0x28 .done (.channelCal .T (some { x := x, y := y }))
      { s.found q.us with
        meas := { s.core.meas with
          cal := { s.core.meas.cal with t := some { x := x, y := y } }
          timer := some (s.found q.us).now
          conv := some { channel := .T, kind := .spot, requesters := [.timer], since := (s.found q.us).now,
                         limit := 12000 } } }) := by
  have hclamp : calClamp .T { x := x, y := y } = { x := x, y := y } := by
    simp only [calClamp, clampInt_of_mem hx hx', clampInt_of_mem hy hy']
  have hfull := (s.found q.us).calibrate_full s.link.nextEntry (n := 3) (ch := .T) { x := x, y := y } rfl (by simp)
  refine congrArg _ (State.ask_replies hq (hfull.trans ?_) rfl rfl)
  rw [hclamp, Core.startTimer, if_pos ⟨rfl, hT⟩, Core.post_free _ _ _ (by exact hconv) (by exact hp)]
  simp only [bne_self_eq_false, Bool.and_false]
  rfl

/-- A channel code other than the four is refused (R60, notes 11). -/
theorem calibrate_noChannel {n : Nat} (m : Mask) (x y : Int) (hn : 4 ≤ n) :
    exec (.calibrate q n m x y) s = .next (s.answered q 0x28 (.badField 1) .empty (s.found q.us)) := by
  have hnone : channelCodes[n]? = none := List.getElem?_eq_none hn
  refine congrArg _ (State.ask_replies hq ?_ rfl rfl)
  simp only [Core.calibrate, hnone]

end

/-- Settles O32, from what CALIBRATE of one channel answers: no bit of its reply for a field inside its range, and a bit
for each field that its clamp changes. -/
theorem channelsAreCalibrated : Obligations.ChannelsAreCalibrated := by
  refine ⟨fun q x y s hq => ⟨fun _ hx hx' hy hy' => ?_, fun hG hx hx' => ?_, fun _ hx hx' hy => ?_,
    fun hT hx hx' hy hy' hconv hp => calibrate_starts_timer hq hT hx hx' hy hy' hconv hp,
    fun n m hn => calibrate_noChannel hq m x y hn⟩, fun q x y x' y' st s hq hst => ?_⟩
  · exact calibrate_answered hq (ch := .P) x y rfl (by simp) (by simp)
      (by simp only [calClamp, clampInt_of_mem hx hx', clampInt_of_mem hy hy']) (by simp [clampStatus])
  · exact calibrate_answered hq (ch := .G) x y rfl (fun _ => hG) (by simp)
      (by simp only [calClamp, clampInt_of_mem hx hx']) (by simp [clampStatus])
  · have hhigh : clampInt 1 5000 y = 5000 := by
      unfold clampInt
      omega
    have hne : y ≠ 5000 := by omega
    exact calibrate_answered hq (ch := .F) x y rfl (by simp) (by simp)
      (by simp only [calClamp, clampInt_of_mem hx hx', hhigh]) (by simp [clampStatus, hne])
  · have hboth : clampStatus (x != x') (y != y') = st := by
      rw [hst]
      by_cases hx : x = x' <;> by_cases hy : y = y' <;> simp [clampStatus, hx, hy]
    refine ⟨fun hx hy => ?_, fun hG hx => ?_, fun hx hy => ?_, fun hT hx hy => ?_⟩
    · exact calibrate_answered hq (ch := .P) x y rfl (by simp) (by simp) (by simp only [calClamp, clampInt, hx, hy]) hboth
    · refine calibrate_answered hq (ch := .G) x y rfl (fun _ => hG) (by simp) (by simp only [calClamp, clampInt, hx]) ?_
      by_cases hx : x = x' <;> simp [clampStatus, hx]
    · exact calibrate_answered hq (ch := .F) x y rfl (by simp) (by simp) (by simp only [calClamp, clampInt, hx, hy]) hboth
    · exact calibrate_answered hq (ch := .T) x y rfl (by simp) (fun _ => hT) (by simp only [calClamp, clampInt, hx, hy])
        hboth

end Sys2Proof.Machine
end

section
/-! PROOF. MEASURE, the fault of a conversion and the periodic timer (O33). -/

namespace Sys2Proof.Machine

/-! ### A result of one channel -/

section
variable (s : Core)

/-- A request that finds a conversion in progress, and no entry of its channel, waits in one and is counted (R52, R181). -/
theorem Core.post_busy {ch : Channel} (kind : ConvKind) (who : Requester) {c : Conversion} (hconv : s.meas.conv = some c)
    (hp : s.meas.pending.get ch = none) :
    s.post ch kind who = { s with
      meas := { s.meas with pending := s.meas.pending.set ch (some { kind := kind, requesters := [who] }) }
      out := s.out ++ [.count .converterWaits 0] } := by
  simp only [Core.post, hconv, hp, joinEntry, Core.tell_meas]
  rw [← hconv]
  rfl

/-- With an empty fault set a latched result changes the measurement unit alone (R57). -/
theorem Core.latchResult_nil (ch : Channel) (r : Result) (hf : s.faults = []) : s.latchResult ch r =
    { s with meas := { s.meas with conv := none, latch := s.meas.latch.set ch (some r) } } :=
  Core.judgeFaults_nil _ hf

/-- A result other than T's, handed to the MEASURE that alone waits for it, answers it (R57, R67). -/
theorem Core.handAll_measure {c : Conversion} {entry : Nat} (r : Result) (hch : c.channel ≠ .T)
    (hreq : c.requesters = [.measure entry]) (hp : s.meas.pending = ⟨none, none, none, none⟩) :
    s.handAll c r = s.reply entry .done (.measured c.channel r) := by
  simp only [Core.handAll, if_neg hch, hreq, List.foldl_cons, List.foldl_nil, Core.handTo]
  exact Core.grantNext_idle _ hp

/-- The fault of such a conversion (R58): its latch, the METER_FAULT and the answer. -/
theorem Core.declareFault_measure {c : Conversion} {entry : Nat} (hf : s.faults = []) (hch : c.channel ≠ .T)
    (hreq : c.requesters = [.measure entry]) (hp : s.meas.pending = ⟨none, none, none, none⟩) :
    s.declareFault c = (({ s with meas := { s.meas with
        conv := none, latch := s.meas.latch.set c.channel (some (s.faultResult c.kind)) } } : Core).raiseFault
          .meterFault (.channels [c.channel])).reply entry .done (.measured c.channel (s.faultResult c.kind)) := by
  rw [Core.declareFault, Core.latchResult_nil _ _ _ hf, Core.handAll_measure _ _ hch hreq]
  obtain ⟨-, -, -, -, -, -, -, -, -, -, -, -, -, hmeas, -⟩ := Core.raiseFault_keeps { s with meas := { s.meas with
    conv := none, latch := s.meas.latch.set c.channel (some (s.faultResult c.kind)) } } .meterFault (.channels [c.channel])
  rw [hmeas]
  exact hp

end

/-! ### MEASURE -/

section
variable {q : Req} {s : State} (hq : Taken q s)
include hq

/-- MEASURE of a channel that may be measured begins on a free converter (R52, R67). -/
theorem measure_begins {n : Nat} {ch : Channel} (hn : channelCodes[n]? = some ch)
    (hG : ch = .G → s.core.motion.cRef ≠ none) (hconv : s.core.meas.conv = none)
    (hp : s.core.meas.pending = ⟨none, none, none, none⟩) :
    ∃ t, exec (.measure q n) s = .next t ∧ Waits q 0x29 s t ∧ t.counters = s.counters
      ∧ t.core = { s.found q.us with
          meas := { s.core.meas with
            conv := some { channel := ch, kind := .spot, requesters := [.measure s.link.nextEntry],
                           since := (s.found q.us).now, limit := 12000 } } } := by
  have hposts : (s.found q.us).measureChannel s.link.nextEntry n =
      (s.found q.us).post ch .spot (.measure s.link.nextEntry) := by
    simp only [Core.measureChannel, hn]
    exact if_neg fun ⟨hch, hnone⟩ => hG hch hnone
  rw [Core.post_free _ _ _ (by exact hconv) (by exact hp)] at hposts
  obtain ⟨hwaits, hcore, hcounters⟩ := State.ask_waits (kind := 0x29) (f := fun id c => c.measureChannel id n) hq hposts rfl
    (by simp)
  exact ⟨_, rfl, hwaits, hcounters, hcore⟩

/-- MEASURE of P while any conversion is in progress waits in the set (R52, R53). -/
theorem measure_waits {c : Conversion} (hconv : s.core.meas.conv = some c)
    (hp : s.core.meas.pending = ⟨none, none, none, none⟩) :
    ∃ t, exec (.measure q 0) s = .next t ∧ Waits q 0x29 s t
      ∧ t.core = { s.found q.us with
          meas := { s.core.meas with
            pending := ⟨some { kind := .spot, requesters := [.measure s.link.nextEntry] }, none, none, none⟩ } }
      ∧ ∀ i : Fin 4, t.counters[i] =
          if (s.counters[i]).enable && (s.counters[i]).event == .converterWaits then (s.counters[i]).add 1
          else s.counters[i] := by
  have hposts : (s.found q.us).measureChannel s.link.nextEntry 0 =
      (s.found q.us).post .P .spot (.measure s.link.nextEntry) := rfl
  rw [Core.post_busy _ _ _ (by exact hconv) (by simp only [State.found_meas, hp, PerChannel.get])] at hposts
  simp only [State.found_meas, hp, PerChannel.set] at hposts
  obtain ⟨hwaits, hcore, hcounters⟩ := State.ask_waits (kind := 0x29) (f := fun id c => c.measureChannel id 0) hq hposts rfl
    (by simp [Out.isReply])
  refine ⟨_, rfl, hwaits, hcore, fun i => ?_⟩
  rw [hcounters]
  exact (takeCounts_get s.counters .converterWaits 0 i).trans
    ((s.counters[i]).take_plain _ (by decide) (by decide) (by decide))

/-- MEASURE of G without an open reference is refused (R67). -/
theorem measure_refused (hnone : s.core.motion.cRef = none) :
    exec (.measure q 1) s = .next (s.answered q 0x29 (.refused .notCalibrated) .empty (s.found q.us)) :=
  congrArg _ (State.ask_replies hq (if_pos ⟨rfl, hnone⟩) rfl rfl)

end

/-! ### The limit of a conversion and the timer -/

section
variable {us : Nat} {s : State} (hp : s.core.meas.pending = ⟨none, none, none, none⟩)
include hp

/-- A spot that MEASURE alone waits for passes its limit (R58, R149, R168, R170). -/
theorem conversionFault_declared {c : Conversion} {entry : Nat} (hconv : s.core.meas.conv = some c) (hkind : c.kind = .spot)
    (hch : c.channel ≠ .T) (hreq : c.requesters = [.measure entry]) (hover : c.since + c.limit ≤ (s.found us).now)
    (hf : s.core.faults = []) :
    ∃ t, exec (.conversionFault us) s = .next t
      ∧ t.core.meas = { s.core.meas with
          conv := none
          latch := s.core.meas.latch.set c.channel (some
            { code := 0, stamp := (s.found us).stamp, flag := some .fault, value := none, kind := .spot }) }
      ∧ t.core.faults = [{ kind := .meterFault, detail := .channels [c.channel], stamp := (s.found us).stamp, count := 1,
                           acked := false }]
      ∧ t.core.first = some { kind := .meterFault, detail := .channels [c.channel], stamp := (s.found us).stamp }
      ∧ t.core.seq.state = .held ∧ t.core.seq.reason = some .fault ∧ t.core.seq.queue = s.core.seq.queue
      ∧ t.core.vols = s.core.vols ∧ t.core.motion = s.core.motion ∧ t.core.illum = s.core.illum
      ∧ t.core.cap = s.core.cap ∧ t.core.dose = s.core.dose := by
  have hpasses : (s.found us).conversionPasses = (s.found us).declareFault c := by
    simp [Core.conversionPasses, hconv, Core.convOver, hover, hkind]
  rw [Core.declareFault_measure _ (by exact hf) hch hreq (by exact hp), hkind] at hpasses
  obtain ⟨hfaults, hfirst, hstate, hreason, hqueue, -, -, -, -, -, -, hvols, hdose, hmeas, hillum, hmotion, hcap, -, -, hsig⟩ :=
    Core.raiseFault_keeps { s.found us with meas := { s.core.meas with
      conv := none, latch := s.core.meas.latch.set c.channel (some ((s.found us).faultResult .spot)) } }
      .meterFault (.channels [c.channel])
  refine ⟨_, State.event_next hpasses hsig, hmeas, hfaults.trans ?_, hfirst.trans ?_, hstate, hreason, hqueue, hvols, hmotion,
    hillum, hcap, hdose⟩
  · simp only [State.found_faults, hf]
    rfl
  · simp only [State.found_faults, hf]
    rfl

/-- An expiry of the periodic timer posts a T request, which a free converter takes (R65). -/
theorem tempTimer_posts {t0 : Nat} (htimer : s.core.meas.timer = some t0) (hdue : t0 + 500000 ≤ (s.found us).now)
    (hconv : s.core.meas.conv = none) :
    exec (.tempTimer us) s = .next (s.quietly { s.found us with
      meas := { s.core.meas with
        timer := some (t0 + 500000)
        conv := some { channel := .T, kind := .spot, requesters := [.timer], since := (s.found us).now, limit := 12000 } } }) := by
  have hticks : (s.found us).tempTick = ({ s.found us with meas := { s.core.meas with timer := some (t0 + 500000) } } : Core).post
      .T .spot .timer := by
    simp [Core.tempTick, htimer, Core.due, hdue]
  rw [Core.post_free _ _ _ (by exact hconv) (by exact hp)] at hticks
  exact congrArg _ (State.event_quietly us _ s _ hticks rfl rfl)

end

/-- Settles O33, by the posting of the request, the fault of its conversion, and the timer's own request. -/
theorem measurePostsARequest : Obligations.MeasurePostsARequest := by
  refine ⟨fun q s hq => ⟨fun n ch hn hG hconv hp => measure_begins hq hn hG hconv hp,
      fun c hconv hp => measure_waits hq hconv hp, measure_refused hq⟩,
    fun us s => ⟨fun c entry hconv hkind hch hreq hover hp hf =>
        conversionFault_declared hp hconv hkind hch hreq hover hf,
      fun _ => congrArg Host.Outcome.next (State.event_quietly us id s _ rfl rfl rfl),
      fun t0 htimer hdue hconv hp => tempTimer_posts hp htimer hdue hconv⟩⟩

end Sys2Proof.Machine
end

section
/-! PROOF. A spot result: its formulas, its latch, the MEASURE it answers, and what a T result makes of the hold (O34). -/

namespace Sys2Proof.Machine

/-! ### The conversion formulas -/

theorem ceilDiv_mul_lt {b : Nat} (hb : 0 < b) (a : Nat) : ceilDiv a b * b < a + b := by
  have h : ceilDiv a b * b ≤ a + b - 1 := Nat.div_mul_le_self _ _
  omega

section
variable (code : Int) {cal : CalPair} {s : Core}

/-- P is rounded up (R62). -/
theorem Core.convert_P (h : s.meas.cal.p = some cal) : ∃ e : Nat, s.convert .P code = some (e : Int)
    ∧ (max 0 (min 8388607 (code - cal.x))).toNat * cal.y.toNat ≤ e * 8388607
    ∧ e * 8388607 < (max 0 (min 8388607 (code - cal.x))).toNat * cal.y.toNat + 8388607 :=
  ⟨meterLux code cal, by simp only [Core.convert, h, Option.map_some], le_ceilDiv_mul (by decide) _,
    ceilDiv_mul_lt (by decide) _⟩

/-- F is rounded down (R62). -/
theorem Core.convert_F (h : s.meas.cal.f = some cal) : ∃ f : Int, s.convert .F code = some f
    ∧ f * 8388607 ≤ max 0 (min 8388607 (code - cal.x)) * cal.y
    ∧ max 0 (min 8388607 (code - cal.x)) * cal.y < (f + 1) * 8388607 :=
  ⟨forceOf code cal, by simp only [Core.convert, h, Option.map_some], Int.ediv_mul_le _ (by decide),
    Int.lt_ediv_add_one_mul_self _ (by decide)⟩

/-- T is the base and the rounded-down part of the span, limited (R63). -/
theorem Core.convert_T (h : s.meas.cal.t = some cal) : ∃ k : Int,
    s.convert .T code = some (max (-400) (min 2000 (cal.x + k)))
      ∧ k * 8388607 ≤ code * cal.y ∧ code * cal.y < (k + 1) * 8388607 :=
  ⟨code * cal.y / 8388607, by simp only [Core.convert, h, Option.map_some]; rfl, Int.ediv_mul_le _ (by decide),
    Int.lt_ediv_add_one_mul_self _ (by decide)⟩

/-- T_g is the rounded-down per-mille of the open reference, limited (R64). -/
theorem Core.convert_G {r : Int} (hr : s.motion.cRef = some r) (h : s.meas.cal.g = some cal) : ∃ k : Int,
    s.convert .G code = some (max 0 (min 1000 k)) ∧ k * max (r - cal.x) 1 ≤ 1000 * max (code - cal.x) 0
      ∧ 1000 * max (code - cal.x) 0 < (k + 1) * max (r - cal.x) 1 := by
  have hpos : 0 < max (r - cal.x) 1 := by omega
  exact ⟨1000 * max (code - cal.x) 0 / max (r - cal.x) 1, by simp only [Core.convert, hr, h, Option.map_some]; rfl,
    Int.ediv_mul_le _ hpos.ne', Int.lt_ediv_add_one_mul_self _ hpos⟩

end

/-! ### A spot delivered -/

section
variable {s : Core} {c : Conversion} (hconv : s.meas.conv = some c) (hkind : c.kind = .spot)
  (hready : c.since + 4000 ≤ s.now) (hlimit : s.now ≤ c.since + c.limit)
include hconv hkind hready hlimit

/-- From 4 ms after its grant to its limit a spot is delivered (R51, R58). -/
theorem Core.spotArrives_of (code : Int) : s.spotArrives code = s.deliver c code := by
  simp [Core.spotArrives, hconv, Core.mayDeliver, hkind, hready, hlimit]

variable (hf : s.faults = []) (hp : s.meas.pending = ⟨none, none, none, none⟩)
include hf hp

/-- A spot of P, G or F that MEASURE alone waits for: its latch, and the answer (R57, R67). -/
theorem Core.spotArrives_measure {entry : Nat} (code : Int) (hch : c.channel ≠ .T) (hreq : c.requesters = [.measure entry]) :
    s.spotArrives code = ({ s with meas := { s.meas with
        conv := none, latch := s.meas.latch.set c.channel (some (s.resultOf c.channel .spot code)) } } : Core).reply entry .done
          (.measured c.channel (s.resultOf c.channel .spot code)) := by
  rw [Core.spotArrives_of hconv hkind hready hlimit, Core.deliver, Core.latchResult_nil _ _ _ hf,
    Core.handAll_measure _ _ hch hreq (by exact hp), hkind]

/-- A spot of T that the timer alone waits for, its value x: its latch, the test of the hold on x, and the sample
counted (R57, R82, R181). -/
theorem Core.spotArrives_timer {r : Result} {x : Int} {z : Core} (code : Int) (hch : c.channel = .T)
    (hreq : c.requesters = [.timer]) (hr : s.resultOf .T .spot code = r) (hflag : r.flag = none) (hx : r.value = some x)
    (hz : ({ s with meas := { s.meas with conv := none, latch := s.meas.latch.set .T (some r) } } : Core).thermalTest false
      (some x) = z) (hzp : z.meas.pending = s.meas.pending) : s.spotArrives code = z.tell .tempSamples x := by
  have hfault : r.faulted = false := by simp [Result.faulted, hflag]
  rw [Core.spotArrives_of hconv hkind hready hlimit, Core.deliver, Core.latchResult_nil _ _ _ hf, hch, hkind, hr]
  simp only [Core.handAll, hch, if_true, hreq, List.foldl_cons, List.foldl_nil, Core.handTo, Core.handT, hfault, hx, hz]
  exact Core.grantNext_idle _ (hzp.trans hp)

end

/-! ### The thermal hold with no flash in hand -/

section
variable {s : Core} {k : ClassFields} {x : Int} (hcls : s.cls = some k)
include hcls

/-- A reading above the warn temperature and below the limit, or one that finds the hold as it asks for, leaves it (R82). -/
theorem Core.thermalTest_stands (h : (k.limit ≤ x ∧ s.illum.hold = true) ∨ (k.warn < x ∧ x < k.limit)
    ∨ (x < k.limit ∧ s.illum.hold = false)) : s.thermalTest false (some x) = s := by
  simp only [Core.thermalTest, Core.testHold, Core.holdVerdict, hcls, Bool.false_eq_true, if_false]
  rcases h with ⟨hlimit, hhold⟩ | ⟨hwarn, hlimit⟩ | ⟨hlimit, hhold⟩
  · simp [hlimit, hhold]
  · simp [Int.not_le.2 hlimit, Int.not_le.2 hwarn]
  · simp [Int.not_le.2 hlimit, hhold]

variable (hwanted : s.illum.view.wanted = false)
include hwanted

/-- A reading at the limit puts the hold in force over an idle lifecycle (R82, R88). -/
theorem Core.thermalTest_enters (hlimit : k.limit ≤ x) (hhold : s.illum.hold = false) (hlife : s.illum.life = .idle) :
    s.thermalTest false (some x) = ({ s with illum := { s.illum with
      hold := true, life := .thermalHold, view := { s.illum.view with thermal := true } } } : Core).report
        (.thermal true (some x) (some (k.warn, k.limit))) := by
  have hlimits : s.thermalLimits = some (k.warn, k.limit) := by simp only [Core.thermalLimits, hcls, Option.map_some]
  have henters : s.thermalTest false (some x) = s.enterThermal (some x) := by
    simp [Core.thermalTest, Core.testHold, Core.holdVerdict, hcls, hlimit, hhold]
  rw [henters, Core.enterThermal, hlimits, Core.withView_dark _ _ (by simp [ViewLight.state, hwanted])
    (by simp [ViewLight.state, hwanted])]
  simp only [Core.report_illum, hlife]
  rfl

/-- A reading at the warn temperature or below ends the hold, with no flash that waits in it (R82, R88). -/
theorem Core.thermalTest_leaves (hflash : s.illum.flash = none) (hlimit : x < k.limit) (hwarn : x ≤ k.warn)
    (hhold : s.illum.hold = true) (hlife : s.illum.life = .thermalHold) :
    s.thermalTest false (some x) = ({ s with illum := { s.illum with
      hold := false, life := .idle, view := { s.illum.view with thermal := false } } } : Core).report
        (.thermal false (some x) (some (k.warn, k.limit))) := by
  have hlimits : s.thermalLimits = some (k.warn, k.limit) := by simp only [Core.thermalLimits, hcls, Option.map_some]
  have hleaves : s.thermalTest false (some x) = s.leaveThermal (some x) := by
    simp [Core.thermalTest, Core.holdVerdict, hcls, Int.not_le.2 hlimit, hwarn, hhold]
  rw [hleaves, Core.leaveThermal, hlimits, Core.withView_dark _ _ (by simp [ViewLight.state, hwanted])
    (by simp [ViewLight.state, hwanted])]
  simp only [Core.report_illum, hlife, hflash]
  rfl

end

/-! ### The two kinds of spot result -/

/-- An event that hands nothing between the units leaves its blocks, and its messages at the link port. -/
theorem State.event_of {us : Nat} {f : Core → Core} {s : State} {c : Core} (hf : f (s.found us) = c) (hs : c.sig = []) :
    (s.event us f).core = { c with out := [], sig := [] } ∧ (s.event us f).link = (c.out.foldl Link.take s.link).pump := by
  rw [State.event, State.run_of_sig_nil _ s c hf hs]
  exact ⟨rfl, rfl⟩

/-- The spot result of P, G or F. -/
theorem spotResult_answers (us entry : Nat) (code : Int) (ch : Channel) (c : Conversion) (s : State)
    (hconv : s.core.meas.conv = some c) (hc : c.channel = ch) (hch : ch ≠ .T) (hkind : c.kind = .spot)
    (hreq : c.requesters = [.measure entry]) (hready : c.since + 4000 ≤ (s.found us).now)
    (hlimit : (s.found us).now ≤ c.since + c.limit) (hp : s.core.meas.pending = ⟨none, none, none, none⟩)
    (hf : s.core.faults = []) :
    ∃ t r, exec (.spotResult us code) s = .next t
      ∧ r.code = max (-8388608) (min 8388607 code) ∧ r.stamp = (s.found us).stamp ∧ r.kind = .spot
      ∧ r.flag = (if 8388607 ≤ code then some .highSat else if code ≤ -8388608 then some .lowSat else none)
      ∧ r.value = (s.found us).convert ch r.code
      ∧ t.core = { s.found us with
          meas := { s.core.meas with conv := none, latch := s.core.meas.latch.set ch (some r) } }
      ∧ t.counters = s.counters
      ∧ ∀ p ∈ s.link.pending, p.id = entry →
          { p with reply := some { status := .done, body := .measured ch r } } ∈ t.link.pending := by
  subst hc
  have harrives := Core.spotArrives_measure (s := s.found us) hconv hkind hready hlimit hf hp code hch hreq
  refine ⟨_, (s.found us).resultOf c.channel .spot code, State.event_next harrives rfl, rfl, rfl, rfl, rfl, rfl, rfl, rfl,
    fun p hpend hid => ?_⟩
  rw [Link.pump_pending]
  exact List.mem_map.2 ⟨p, hpend, if_pos hid⟩

section
variable {us : Nat} {code x : Int} {c : Conversion} {i : Fin 16} {v : Volume} {k : ClassFields} {s : State}
  (hconv : s.core.meas.conv = some c) (hch : c.channel = .T) (hkind : c.kind = .spot) (hreq : c.requesters = [.timer])
  (hready : c.since + 4000 ≤ (s.found us).now) (hlimit : (s.found us).now ≤ c.since + c.limit)
  (hp : s.core.meas.pending = ⟨none, none, none, none⟩) (hf : s.core.faults = [])
  (hlow : -8388608 < code) (hhigh : code < 8388607) (hx : (s.found us).convert .T code = some x)
  {r : Result} (hr : r = { code := code, stamp := (s.found us).stamp, flag := none, value := some x, kind := .spot })
include hconv hch hkind hreq hready hlimit hp hf hlow hhigh hx hr

/-- A T result of the timer: the blocks are those that the test of the hold leaves, and the reports are the test's. -/
theorem spotResult_tests {z : Core}
    (hz : ({ s.found us with meas := { s.core.meas with
        conv := none, latch := s.core.meas.latch.set .T (some r) } } : Core).thermalTest false (some x) = z)
    (hzp : z.meas.pending = s.core.meas.pending) (hzs : z.sig = []) :
    (s.event us (Core.spotArrives code)).core = { z with out := [], sig := [] }
      ∧ (s.event us (Core.spotArrives code)).link =
        ((z.out ++ [Out.count .tempSamples x]).foldl Link.take s.link).pump := by
  obtain ⟨hcode, hflag⟩ := (s.found us).resultOf_inRange .T .spot hlow hhigh
  have hresult : (s.found us).resultOf .T .spot code = r := by
    simp only [Core.resultOf] at hcode hflag ⊢
    rw [hcode, hflag, hx, hr]
  exact State.event_of (Core.spotArrives_timer (s := s.found us) hconv hkind hready hlimit hf hp code hch hreq hresult
    (by rw [hr]) (by rw [hr]) hz hzp) hzs

end

/-- A THERMAL report of a T result, with room in the queue (R82, R194). -/
theorem Link.reports_thermal {l : Link} (r : Report) (x : Int) (htx : l.tx ≠ none) (hroom : l.reports.length < 32) :
    (([Out.report r, .count .tempSamples x].foldl Link.take l).pump).reports = l.reports ++ [r] :=
  State.reports_of_busy (os := [.report r, .count .tempSamples x]) htx hroom

/-- Settles O34, by the delivery of a spot, the conversion formulas, and the test of the hold on a T result. -/
theorem spotResultWritesTheLatch : Obligations.SpotResultWritesTheLatch := by
  refine ⟨spotResult_answers, fun code r cal s => ⟨Core.convert_P code, Core.convert_F code, Core.convert_T code,
    Core.convert_G code⟩, ?_⟩
  intro us code x c i v k s hconv hch hkind hreq hready hlimit hp hf hm hv hk hflash hwanted hlow hhigh hx
  have htests {z : Core} := spotResult_tests (z := z) hconv hch hkind hreq hready hlimit hp hf hlow hhigh hx rfl
  have hcls (m : Measure) : ({ s.found us with meas := m } : Core).cls = some k := Core.cls_of _ i v k hm hv hk
  refine ⟨_, _, rfl, rfl, fun hx hhold hlife => ?_, fun hx hx' hhold hlife => ?_, fun h => ?_⟩
  · obtain ⟨hcore, hlink⟩ := htests (Core.thermalTest_enters (hcls _) hwanted hx hhold hlife) rfl rfl
    refine ⟨hcore, fun htx hroom => ?_⟩
    exact (congrArg Link.reports hlink).trans (Link.reports_thermal _ x htx hroom)
  · obtain ⟨hcore, hlink⟩ := htests (Core.thermalTest_leaves (hcls _) hwanted hflash hx hx' hhold hlife) rfl rfl
    refine ⟨hcore, fun htx hroom => ?_⟩
    exact (congrArg Link.reports hlink).trans (Link.reports_thermal _ x htx hroom)
  · obtain ⟨hcore, hlink⟩ := htests (Core.thermalTest_stands (hcls _) h) rfl rfl
    exact ⟨hcore, hlink⟩

end Sys2Proof.Machine
end

section
/-! PROOF. The power-on state keeps every invariant (O3). -/

namespace Sys2Proof.Machine

/-- The link port at power-on holds no entry and no report, and has counted nothing (R195). -/
theorem Link.powerOn_bounded : Link.powerOn.Bounded where
  entries := Nat.zero_le _
  order := .nil
  fresh := by simp [Link.powerOn]
  reports := Nat.zero_le _
  fragments := Nat.zero_le _
  checkErrors := Nat.zero_le _
  droppedReports := Nat.zero_le _
  droppedRequests := Nat.zero_le _

theorem Setting.powerOn_legal : Setting.powerOn.Legal := by
  unfold Setting.Legal
  decide

/-- Nothing is calibrated and no class is defined at power-on, so the settings with a value are the six others (R5, R68,
R91). -/
theorem Core.powerOn_settingsLegal : Core.powerOn.SettingsLegal where
  debounce := by decide
  bands := by decide
  cap := by decide
  frameTimeout := by decide
  staged := Setting.powerOn_legal
  active := Setting.powerOn_legal
  lamps := by simp [Core.powerOn, Illum.powerOn]
  channels := by
    intro ch x h
    cases ch <;> simp [Core.powerOn, Measure.powerOn, PerChannel.get] at h
  classes := by simp [Core.powerOn, VolumeTable.powerOn]

/-- No record is registered at power-on, so both pools are free and no cursor stands anywhere (R6). -/
theorem Core.powerOn_withinCapacities : Core.powerOn.WithinCapacities where
  ring := by decide
  queue := by decide
  idle := fun _ => rfl
  exceptions := by decide
  segments := by decide
  cursors := by simp [Core.powerOn, VolumeTable.powerOn]
  carried := by simp [Core.powerOn, Motion.powerOn]

/-- No work is in hand at power-on. -/
theorem State.reset_numbersIssued : State.reset.NumbersIssued where
  flash := by simp [State.reset, Core.powerOn, Illum.powerOn]
  closing := by simp [State.reset, Core.powerOn, Illum.powerOn]
  homing := by simp [State.reset, Core.powerOn, Motion.powerOn]
  measures := by
    intro e h
    have hnone : State.reset.core.meas.allWaiting = [] := rfl
    simp [hnone] at h

/-- Settles O3, by the power-on state of each block; the cradle stands still because no axis has a reference (R114). -/
theorem resetKeepsTheInvariants : Obligations.ResetKeepsTheInvariants := by
  refine ⟨⟨Link.powerOn_bounded, fun i => ?_⟩, fun _ => ⟨rfl, by decide, rfl, rfl⟩, Core.powerOn_settingsLegal,
    Core.powerOn_withinCapacities, State.reset_numbersIssued⟩
  simp [State.reset, Counter.powerOn]

end Sys2Proof.Machine
end

section
/-! PROOF. The settings of the illumination unit (O24, O25): the masks of their requests, and the three commands in the
dark. -/

namespace Sys2Proof.Machine

/-! ### Masks -/

/-- A mask clear in every bit above its last field has no stray field (R192). -/
theorem strayField_eq_none {m stray : Mask} {last : Nat} (hclear : m &&& stray = 0#16)
    (hstray : ∀ n < 17, last < n → stray.getLsbD (n - 1) = true) : strayField m last = none := by
  refine List.find?_eq_none.mpr fun n hn h => ?_
  obtain ⟨hlast, hbit⟩ : last < n ∧ hasField m n = true := by simpa using h
  have hand := congrArg (fun x : Mask => x.getLsbD (n - 1)) hclear
  simp only [BitVec.getLsbD_and, hstray n (List.mem_range.mp hn) hlast, Bool.and_true, BitVec.getLsbD_zero] at hand
  exact absurd (hbit.symm.trans hand) (by decide)

/-- A mask that marks the fields before number n + 1 and not that one first leaves that one absent (R192). -/
theorem firstAbsent_range {m : Mask} {n last : Nat} (hn : n < last) (habsent : m.getLsbD n = false)
    (hbefore : ∀ k, k < n → m.getLsbD k = true) :
    firstAbsent m ((List.range last).map (· + 1)) = some (n + 1) := by
  have hfind : (List.range last).find? (fun k => !m.getLsbD k) = some n := by
    rw [List.find?_range_eq_some]
    exact ⟨by simp [habsent], List.mem_range.mpr hn, fun k hk => by simp [hbefore k hk]⟩
  rw [firstAbsent, List.find?_map]
  exact congrArg (Option.map (· + 1)) hfind

/-- A bit of a clamp mask is set by a listed field of its number and by nothing else (R191). -/
theorem getLsbD_foldl_mask (fields : List (Nat × Bool)) (m : Mask) {i : Nat} (hi : i < 16) :
    (fields.foldl (fun m f => if f.2 then m ||| (1#16 <<< (f.1 - 1)) else m) m).getLsbD i = true ↔
      m.getLsbD i = true ∨ ∃ f ∈ fields, f.1 - 1 = i ∧ f.2 = true := by
  induction fields generalizing m with
  | nil => simp
  | cons f fs ih =>
    rw [List.foldl_cons, ih]
    cases hb : f.2 with
    | false => simp [hb]
    | true =>
      have hone : (1#16 <<< (f.1 - 1)).getLsbD i = true ↔ f.1 - 1 = i := by
        simp only [BitVec.getLsbD_shiftLeft, BitVec.getLsbD_one, Bool.and_eq_true, decide_eq_true_eq, Bool.not_eq_true',
          decide_eq_false_iff_not]
        omega
      simp only [if_true, BitVec.getLsbD_or, Bool.or_eq_true, hone, or_assoc, List.mem_cons, exists_eq_or_imp, hb, and_true]

theorem getLsbD_maskOf (fields : List (Nat × Bool)) {i : Nat} (hi : i < 16) :
    (maskOf fields).getLsbD i = true ↔ ∃ f ∈ fields, f.1 - 1 = i ∧ f.2 = true := by
  rw [maskOf, getLsbD_foldl_mask fields 0#16 hi]
  simp

/-- A clamp mask has no bit outside the numbers of its fields (R191). -/
theorem maskOf_and_eq_zero {fields : List (Nat × Bool)} {other : Mask}
    (h : ∀ f ∈ fields, other.getLsbD (f.1 - 1) = false) : maskOf fields &&& other = 0#16 := by
  refine BitVec.eq_of_getLsbD_eq fun i hi => ?_
  rw [BitVec.getLsbD_and, BitVec.getLsbD_zero, Bool.and_eq_false_iff, or_iff_not_imp_left, Bool.not_eq_false]
  intro hbit
  obtain ⟨f, hf, rfl, -⟩ := (getLsbD_maskOf fields hi).mp hbit
  exact h f hf

/-! ### LIGHT_STAGE and LIMITS_SET -/

/-- A setting within its ranges meets no clamp (R70). -/
theorem settingClamp_of_legal {x : Setting} (h : x.Legal) : settingClamp x = x := by
  obtain ⟨hVU, hVL, hRU, hRL, hlow, hhigh, hfloor, hV⟩ := h
  simp only [settingClamp, clamp, Nat.min_eq_left hVU, Nat.min_eq_left hVL, Nat.min_eq_left hRU, Nat.min_eq_left hRL,
    Nat.min_eq_right hhigh, Nat.max_eq_right hlow, Nat.min_eq_left hfloor, Nat.min_eq_left hV]

theorem settingClampMask_of_legal (m : Mask) {x : Setting} (h : x.Legal) : settingClampMask m x = 0#16 := by
  simp only [settingClampMask, settingClamp_of_legal h, bne_self_eq_false, Bool.and_false]
  rfl

/-- The masked fields staged with no period of the view light running (R70). -/
theorem Core.stage_dark (s : Core) (m : Mask) (x : Setting) (h : s.dose.accrual = none) :
    s.stage m x =
      { s with illum := { s.illum with staged := settingMerge m (settingClamp x) s.illum.staged } } :=
  Core.reviseView_none _ h

/-- A change of the illumination unit's settings revises nothing while no period of the view light is running (R89). -/
theorem Core.reviseView_illum (s : Core) (x : Illum) (h : s.dose.accrual = none) :
    ({ s with illum := x } : Core).reviseView = { s with illum := x } :=
  Core.reviseView_none _ h

section
variable {q : Req} {s : State} (hq : Taken q s) (ha : s.core.dose.accrual = none)
include hq ha

theorem lightStage_dark {m : Mask} (x : Setting) (hm : m &&& 0xFF80#16 = 0#16) :
    exec (.lightStage q m x) s = .next (s.answered q 0x20 (doneStatus (settingClampMask m x))
      (.setting (settingMerge m (settingClamp x) s.core.illum.staged))
      { s.found q.us with
        illum := { s.core.illum with staged := settingMerge m (settingClamp x) s.core.illum.staged } }) := by
  have hstray : strayField m 7 = none := strayField_eq_none hm (by decide)
  refine congrArg _ (State.ask_replies hq ?_ rfl rfl)
  simp only [Core.lightStage, hstray]
  rw [Core.stage_dark (s.found q.us) m x ha]
  rfl

/-- LIMITS_SET names its one field when it is above 200,000 (R72). -/
theorem limitsSet_dark (e : Nat) : exec (.limitsSet q e) s = .next (s.answered q 0x21
    (if e ≤ 200000 then .done else .doneClamped 1#16) (.cap (min e 200000))
    { s.found q.us with illum := { s.core.illum with eOp := min e 200000 } }) := by
  have hstatus : doneStatus (maskOf [(1, e != min e 200000)]) = if e ≤ 200000 then .done else .doneClamped 1#16 := by
    split
    next h => rw [Nat.min_eq_left h, bne_self_eq_false]; rfl
    next h =>
      have hne : (e != min e 200000) = true := by
        rw [bne_iff_ne]
        omega
      rw [hne]
      rfl
  refine congrArg _ (State.ask_replies hq ?_ rfl rfl)
  rw [← hstatus, Core.limitsSet, Core.reviseView_illum (s.found q.us) _ ha]
  rfl

end

/-- Settles O24: a masked field is the clamped one of the request, and a setting within its ranges meets no clamp. -/
theorem lightIsStaged : Obligations.LightIsStaged := by
  intro q s hq ha
  refine ⟨fun m x y hm hy => ?_, limitsSet_dark hq ha⟩
  have hmerge : settingMerge m (settingClamp x) s.core.illum.staged = y := by
    rw [hy]
    simp only [settingMerge, settingClamp, pick, hasField, clamp, Nat.min_comm]
  rw [← hmerge]
  exact ⟨_, lightStage_dark hq ha x hm, fun h => by rw [settingClampMask_of_legal m h]; rfl⟩

/-! ### LAMPS_CALIBRATE -/

theorem lampClampMask_and_high (m : Mask) (x : LampCal) : lampClampMask m x &&& 0xFFE0#16 = 0#16 :=
  maskOf_and_eq_zero (by simp)

/-- The clamp mask names the present fields above their upper limits (R73). -/
theorem getLsbD_lampClampMask (m : Mask) (x : LampCal) :
    ((lampClampMask m x).getLsbD 0 = true ↔ m.getLsbD 0 = true ∧ 100000 < x.nVU)
      ∧ ((lampClampMask m x).getLsbD 1 = true ↔ m.getLsbD 1 = true ∧ 100000 < x.nVL)
      ∧ ((lampClampMask m x).getLsbD 2 = true ↔ m.getLsbD 2 = true ∧ 100000 < x.nRU)
      ∧ ((lampClampMask m x).getLsbD 3 = true ↔ m.getLsbD 3 = true ∧ 100000 < x.nRL)
      ∧ ((lampClampMask m x).getLsbD 4 = true ↔ m.getLsbD 4 = true ∧ 5000 < x.nView) := by
  have hne (a b : Nat) : (a != min a b) = true ↔ b < a := by
    rw [bne_iff_ne]
    omega
  refine ⟨?_, ?_, ?_, ?_, ?_⟩ <;>
    rw [lampClampMask, getLsbD_maskOf _ (by decide)] <;> simp [lampClamp, hasField, hne]

/-- With every field present, the clamp mask is 0 exactly when no value is above its limit (R73). -/
theorem lampClampMask_full_eq_zero_iff (x : LampCal) : lampClampMask 0x1F#16 x = 0#16 ↔ lampClamp x = x := by
  obtain ⟨nVU, nVL, nRU, nRL, nView⟩ := x
  rw [lampClampMask, maskOf_eq_zero_iff _ (by simp)]
  simp [hasField, lampClamp]

section
variable {q : Req} {s : State} (hq : Taken q s)
include hq

/-- LAMPS_CALIBRATE that presents every field the calibration needs (R73). -/
theorem lampsCalibrate_dark (ha : s.core.dose.accrual = none) {m : Mask} (x : LampCal)
    (hpresent : s.core.illum.lampCal = none → firstAbsent m [1, 2, 3, 4, 5] = none) (hm : m &&& 0xFFE0#16 = 0#16)
    {z : LampCal} (hz : lampMerge m (lampClamp x) (s.core.illum.lampCal.getD (lampClamp x)) = z) :
    exec (.lampsCalibrate q m x) s = .next (s.answered q 0x22 (doneStatus (lampClampMask m x)) (.lampCal z)
      { s.found q.us with illum := { s.core.illum with lampCal := some z } }) := by
  have habsent : (if (s.found q.us).illum.lampCal.isNone then firstAbsent m [1, 2, 3, 4, 5] else none) = none := by
    split
    next h => exact hpresent (Option.isNone_iff_eq_none.mp h)
    next => rfl
  have hstray : strayField m 5 = none := strayField_eq_none hm (by decide)
  subst hz
  refine congrArg _ (State.ask_replies hq ?_ rfl rfl)
  simp only [Core.lampsCalibrate, habsent, hstray]
  rw [Core.reviseView_illum (s.found q.us) _ ha]
  rfl

/-- LAMPS_CALIBRATE of an absent calibration names the first field left out (R73, R192). -/
theorem lampsCalibrate_absent {m : Mask} (x : LampCal) {n : Nat} (hnone : s.core.illum.lampCal = none) (hn : n < 5)
    (habsent : m.getLsbD n = false) (hbefore : ∀ k, k < n → m.getLsbD k = true) :
    exec (.lampsCalibrate q m x) s = .next (s.answered q 0x22 (.badField (n + 1)) .empty (s.found q.us)) := by
  have hfirst : firstAbsent m [1, 2, 3, 4, 5] = some (n + 1) := firstAbsent_range hn habsent hbefore
  refine congrArg _ (State.ask_replies hq ?_ rfl rfl)
  simp only [Core.lampsCalibrate, State.found_illum, hnone, Option.isNone_none, if_true, hfirst]

end

/-- Settles O25: the clamped fields of the request are taken where present, and the clamp mask names those above their
limits. -/
theorem lampsAreCalibrated : Obligations.LampsAreCalibrated := by
  intro q x y s hq ha hy
  have hclamp : lampClamp x = y := hy.symm
  refine ⟨⟨_, lampsCalibrate_dark hq ha x (fun _ => by decide) (by decide) hclamp, fun h => ?_, fun h => ?_⟩,
    fun m n hnone _ hn habsent hbefore => lampsCalibrate_absent hq x hnone hn habsent hbefore,
    fun m o z ho hm hz => ?_⟩
  · rw [(lampClampMask_full_eq_zero_iff x).mpr (hclamp.trans h), doneStatus_zero]
  · have hmask : lampClampMask 0x1F#16 x ≠ 0#16 := fun h0 =>
      h (hclamp.symm.trans ((lampClampMask_full_eq_zero_iff x).mp h0))
    exact ⟨_, hmask, if_neg hmask⟩
  · have hmerge : lampMerge m (lampClamp x) (s.core.illum.lampCal.getD (lampClamp x)) = z := by
      rw [hz, ho, hclamp]
      rfl
    obtain ⟨hVU, hVL, hRU, hRL, hView⟩ := getLsbD_lampClampMask m x
    exact ⟨_, lampsCalibrate_dark hq ha x (by simp [ho]) hm hmerge, hVU, hVL, hRU, hRL, hView,
      lampClampMask_and_high m x⟩

end Sys2Proof.Machine
end

section
/-! PROOF. A step queued in IDLE on an empty queue (O51): the reply before the start, the tests of the start, and what each
kind of work makes of the blocks. -/

namespace Sys2Proof.Machine

/-! ### A request answered before its answers are taken up -/

/-- A request whose owner replies first and then hands answers between the units, reports and counts (R190). -/
theorem State.ask_settles {q : Req} {kind : Byte} {f : Nat → Core → Core} {s : State} {st : Status} {b : Body} {z : Core}
    {os : List Out} (h : Taken q s) (hz : (f s.link.nextEntry (s.found q.us)).settle = z)
    (hout : z.out = .reply s.link.nextEntry { status := st, body := b } :: os) (hos : ∀ o ∈ os, o.isReply = false) :
    ∃ t, (.next (s.ask q kind f) : Result') = .next t ∧ Replied q kind st b s t
      ∧ t.core = { z with out := [], sig := [] }
      ∧ (s.link.tx ≠ none → s.link.reports.length + (os.filterMap Out.asReport).length ≤ 32 →
        t.link.reports = s.link.reports ++ os.filterMap Out.asReport) := by
  have hask : s.ask q kind f = (s.entered q kind).run (f s.link.nextEntry) := State.request_taken q kind _ s h
  have hcore : ((s.entered q kind).run (f s.link.nextEntry)).core = { z with out := [], sig := [] } := by
    rw [← hz]
    rfl
  have hlink : ((s.entered q kind).run (f s.link.nextEntry)).link =
      (os.foldl Link.take ((s.entered q kind).link.form s.link.nextEntry { status := st, body := b })).pump := by
    show (((f s.link.nextEntry (s.found q.us)).settle.out.foldl Link.take (s.entered q kind).link).pump) = _
    rw [hz, hout]
    rfl
  refine ⟨_, rfl, ?_, hask ▸ hcore, fun htx hroom => ?_⟩
  · rw [Replied, hask, hlink, Link.pump_pending, Link.foldl_take_pending _ _ hos]
    exact Link.form_own s.link kind q.tag _ _ h.fresh
  · rw [hask, hlink]
    exact State.reports_of_busy (by exact htx) (by exact hroom)

/-- A request whose owner replies first, and whose answers between the units send nothing more. -/
theorem State.ask_settles_answered {q : Req} {kind : Byte} {f : Nat → Core → Core} {s : State} {st : Status} {b : Body}
    {z : Core} (h : Taken q s) (hz : (f s.link.nextEntry (s.found q.us)).settle = z)
    (hout : z.out = [.reply s.link.nextEntry { status := st, body := b }]) :
    (.next (s.ask q kind f) : Result') = .next (s.answered q kind st b z) := by
  have hask : s.ask q kind f = (s.entered q kind).run (f s.link.nextEntry) := State.request_taken q kind _ s h
  have hrun : (s.entered q kind).run (f s.link.nextEntry) = { s.entered q kind with
      core := { z with out := [], sig := [] }
      link := ((s.entered q kind).link.form s.link.nextEntry { status := st, body := b }).pump } := by
    show ({ s.entered q kind with core := (f s.link.nextEntry (s.found q.us)).settle } : State).commit = _
    rw [hz, State.commit, hout]
    rfl
  rw [hask, hrun, Link.form]
  simp only [State.answered, Link.after, State.entered, Parser.hunt, Link.form_own s.link kind q.tag _ _ h.fresh]

/-! ### The step appended -/

/-- The blocks with a step of the link answered, appended and about to start (R135, R136). -/
def Core.linkQueued (id : Nat) (w : StepWork) (gate : Option Guard) (m : Mask) (s : Core) : Core :=
  { s with
    seq := { s.seq with
      queue := [{ id := s.seq.nextId, origin := .link, work := w, gate := gate }]
      nextId := stepIdAfter s.seq.nextId, state := .running, reason := none }
    out := s.out ++ [.reply id { status := .queued s.seq.nextId, body := .stepClamps m }] }

/-- STEP_QUEUE in IDLE on an empty queue answers, appends its step and has the head started (R135, R136). -/
theorem Core.stepQueue_idle {w : StepSpec} {work : StepWork} {m : Mask} {g : Option GuardSpec} {gate : Option Guard}
    (id : Nat) (s : Core) (hs : s.sig = []) (hw : stepWork w = .ok (work, m)) (hg : stepGuard g = .ok gate)
    (hidle : s.seq.state = .idle) (hq : s.seq.queue = []) :
    s.stepQueue id w g = { s.linkQueued id work gate m with sig := [.startHead] } := by
  have hknown : StepSpec.isUnknown w = false := by
    cases w with
    | unknown code => simp [stepWork] at hw
    | _ => rfl
  simp [Core.stepQueue, hknown, hg, hw, hq, Core.reply, Core.emit, Core.appendStep, Core.startIfIdle, hidle, Core.setSeq,
    Core.signal, hs, nextStepId_eq, Core.linkQueued]

/-- The start of the head step is taken up first, and then what it hands on. -/
theorem Core.stepQueue_settle {w : StepSpec} {work : StepWork} {m : Mask} {g : Option GuardSpec} {gate : Option Guard}
    (id : Nat) (s : Core) (hs : s.sig = []) (hw : stepWork w = .ok (work, m)) (hg : stepGuard g = .ok gate)
    (hidle : s.seq.state = .idle) (hq : s.seq.queue = []) :
    (s.stepQueue id w g).settle = (s.linkQueued id work gate m).startHead.settleWithin 255 := by
  have hdrop : { s.linkQueued id work gate m with sig := [] } = s.linkQueued id work gate m := by rw [← hs]; rfl
  rw [Core.stepQueue_idle id s hs hw hg hidle hq, Core.settle, Core.settleWithin_cons 255 _ .startHead [] rfl]
  change Core.settleWithin 255 (Core.startHead { s.linkQueued id work gate m with sig := [] }) = _
  rw [hdrop]

/-! ### The tests of the start -/

section
variable (s : Core) {st : Step} {rest : List Step} (hq : s.seq.queue = st :: rest) (hrun : s.seq.state = .running)
  (hnew : s.seq.started = false)
include hq hrun hnew

/-- The first test (R141): the guard. -/
theorem Core.startHead_guarded (h : s.guardFails st.gate = true) : s.startHead = s.endPlain .skipped .guard := by
  simp [Core.startHead, hq, hrun, hnew, h]

variable (hgate : s.guardFails st.gate = false)
include hgate

/-- The second test (R141): an opening captured already. -/
theorem Core.startHead_captured (h : s.alreadyCaptured st.work = true) :
    s.startHead = s.endPlain .skipped .alreadyCaptured := by
  simp [Core.startHead, hq, hrun, hnew, hgate, h]

variable (hcap : s.alreadyCaptured st.work = false)
include hcap

/-- The third test (R141): the start check. -/
theorem Core.startHead_stopped {r : HoldReason} (hchecked : st.work.checked = true) (h : s.startCheck = some r) :
    s.startHead = s.holdAtStart r := by
  simp [Core.startHead, hq, hrun, hnew, hgate, hcap, hchecked, h]

/-- The three tests passed (R141). -/
theorem Core.startHead_passed (h : st.work.checked = false ∨ s.startCheck = none) : s.startHead = s.beginWork st.work := by
  rcases h with h | h
  · simp [Core.startHead, hq, hrun, hnew, hgate, hcap, h]
  · simp [Core.startHead, hq, hrun, hnew, hgate, hcap, h]

end

/-! ### The ends of a step -/

/-- The only step ends in RUNNING, DONE or SKIPPED, with its STEP_DONE report and, when SKIPPED, a count (R148, R181). -/
theorem Core.endStep_only (s : Core) {st : Step} {result : StepResult} (reason : Option StepReason) (extra : StepExtra)
    (hq : s.seq.queue = [st]) (hrun : s.seq.state = .running) (hresult : result = .done ∨ result = .skipped) :
    ∃ x, s.endStep result reason extra = { s with
      seq := s.seq.ended (result == .skipped)
      out := s.out ++ .report (.stepDone st.id st.work.kind st.origin result reason x extra) ::
        if result = .skipped then [.count .stepsSkipped 0] else [] } := by
  rcases hresult with rfl | rfl <;>
    simp [Core.endStep, hq, hrun, Sequencer.noProgress, Core.reportStep, Core.report, Core.tell, Core.emit, Core.setSeq,
      Sequencer.ended]

/-- A hold of the start check, with no PAUSE running: HELD, and the interlock hold with INTERLOCK (R139, R141, R178). -/
theorem Core.holdAtStart_still (s : Core) (r : HoldReason) (hp : s.seq.pause = none) :
    ∃ os, s.holdAtStart r = { s with
        seq := { s.seq with
          state := .held, reason := some r, interlock := if r = .interlock then true else s.seq.interlock }
        out := s.out ++ os }
      ∧ ∀ o ∈ os, o.isReply = false := by
  obtain ⟨os, hold, hos, -⟩ := s.enterHold_still r hp
  have hquiet : ∀ o ∈ os, o.isReply = false := fun o ho => by
    obtain ⟨x, rfl⟩ := hos o ho
    rfl
  unfold Core.holdAtStart
  split
  next hr =>
    subst hr
    unfold Core.holdInterlock
    dsimp only
    rw [hold]
    split
    next hi => exact ⟨os, by rw [← hi], hquiet⟩
    next =>
      refine ⟨os ++ [_], by rw [← List.append_assoc]; rfl, fun o ho => ?_⟩
      rcases List.mem_append.1 ho with h | h
      · exact hquiet o h
      · rw [List.mem_singleton.1 h]
        rfl
  next => exact ⟨os, hold, hquiet⟩

/-! ### The work that begins -/

/-- The blocks with the head step started and its operation in hand (R139, R142 to R144). -/
def Core.atWork (op : Operation) (s : Core) : Core := { s with seq := { s.seq with started := true, op := some op } }

/-- An attempt asked for with the ring full waits for its place, with its opening and side taken (R116, R117). -/
theorem Core.askAttempt_full (s : Core) (ask : SideAsked) {i : Fin 16} {v : Volume} (hm : s.vols.mounted = some i)
    (hv : s.vols.slots[i] = some v) (ha : s.cap.attempt = none) (hk : s.cap.mark = none)
    (hfull : 64 ≤ s.cap.ring.length) :
    s.askAttempt ask = s.setAttempt { Attempt.placed ask v with phase := .ringWait } := by
  have hroom : s.cap.hasRoom = false := by simpa [Capture.hasRoom, Capture.reserved, ha] using hfull
  have hfix : s.fixAttempt (newAttempt ask) = { Attempt.placed ask v with phase := .ringWait } := by
    simp only [Core.fixAttempt, Core.volume_of s i v hm hv]
    rfl
  rw [Core.askAttempt, if_neg (by simp [ha, hk]), if_neg (by simp [Core.mounted_of s i v hm hv])]
  dsimp only
  rw [hroom, hfix]
  rfl

/-- A mark asked for with the ring full waits (R126). -/
theorem Core.askMark_full (s : Core) (note : Nat) (ha : s.cap.attempt = none) (hk : s.cap.mark = none)
    (hfull : 64 ≤ s.cap.ring.length) : s.askMark note = { s with cap := { s.cap with mark := some note } } := by
  have hroom : s.cap.hasRoom = false := by simpa [Capture.hasRoom, Capture.reserved, ha] using hfull
  rw [Core.askMark, if_neg (by simp [ha, hk]), hroom]
  rfl

/-- The blocks with a MARK record written at the newest end of the ring (R126, R127). -/
def Core.marked (note : Nat) (s : Core) : Core :=
  { s with cap := { s.cap with
      ring := s.cap.ring ++
        [.mark { seq := s.cap.nextSeq, stamp := s.stamp, place := s.mounted.map fun m => (m.1.val, m.2.cursor)
                 note := note }]
      nextSeq := s.cap.nextSeq + 1 } }

/-- A mark asked for with room in the ring is written at once, and its end is handed to the sequencer (R126). -/
theorem Core.askMark_room (s : Core) (note : Nat) (hs : s.sig = []) (ha : s.cap.attempt = none) (hk : s.cap.mark = none)
    (hroom : s.cap.ring.length < 64) :
    ∃ os, s.askMark note = { s.marked note with out := s.out ++ os, sig := [.markEnded (some s.cap.nextSeq)] }
      ∧ ∀ o ∈ os, o.isReply = false := by
  have hroom' : s.cap.hasRoom = true := by simpa [Capture.hasRoom, Capture.reserved, ha] using hroom
  have hcap : { s.cap with nextSeq := s.cap.nextSeq + 1, mark := none } = { s.cap with nextSeq := s.cap.nextSeq + 1 } := by
    rw [← hk]
  have hask : s.askMark note = (Core.writeRecord
      (.mark { seq := s.cap.nextSeq, stamp := s.stamp, place := s.mounted.map fun m => (m.1.val, m.2.cursor), note := note })
      { s with cap := { s.cap with nextSeq := s.cap.nextSeq + 1 } }).signal (.markEnded (some s.cap.nextSeq)) := by
    rw [← hcap, Core.askMark, if_neg (by simp [ha, hk]), if_pos hroom']
    rfl
  obtain ⟨os, hwrite, hos⟩ := Core.writeRecord_of { s with cap := { s.cap with nextSeq := s.cap.nextSeq + 1 } }
    (.mark { seq := s.cap.nextSeq, stamp := s.stamp, place := s.mounted.map fun m => (m.1.val, m.2.cursor), note := note })
  refine ⟨os, (hask.trans (congrArg (Core.signal _) hwrite)).trans ?_, hos⟩
  exact congrArg (fun g : List Signal =>
    { s.marked note with out := s.out ++ os, sig := g ++ [Signal.markEnded (some s.cap.nextSeq)] }) hs

section
variable (s : Core) {st : Step} (hq : s.seq.queue = [st]) (hrun : s.seq.state = .running)
include hq hrun

/-- A LIGHT stages its fields and ends DONE at once (R70, R144). -/
theorem Core.beginWork_light (m : Mask) (x : Setting) (ha : s.dose.accrual = none) :
    ∃ r, s.beginWork (.light m x) = { s with
      illum := { s.illum with staged := settingMerge m (settingClamp x) s.illum.staged }
      seq := s.seq.ended false
      out := s.out ++ [.report r] } := by
  have hstage := Core.stage_dark { s with seq := { s.seq with started := true } } m x ha
  obtain ⟨w, hend⟩ := Core.endStep_only
    { s with
      illum := { s.illum with staged := settingMerge m (settingClamp x) s.illum.staged }
      seq := { s.seq with started := true } }
    none (.light (settingClampMask m x <<< 4)) hq hrun (.inl rfl)
  exact ⟨_, (congrArg (Core.endStep .done none _) hstage).trans hend⟩

/-- A MARK with room in the ring is written, and its end ends the step (R126, R144). -/
theorem Core.beginWork_mark (note : Nat) (hs : s.sig = []) (ha : s.cap.attempt = none) (hk : s.cap.mark = none)
    (hroom : s.cap.ring.length < 64) :
    ∃ os, (s.beginWork (.mark note)).settleWithin 255 = { s.marked note with
        seq := s.seq.ended false, out := s.out ++ os, sig := [] }
      ∧ ∀ o ∈ os, o.isReply = false := by
  obtain ⟨os, hask, hos⟩ := Core.askMark_room (s.atWork .mark) note hs ha hk hroom
  obtain ⟨w, hend⟩ := Core.endStep_only
    { s.marked note with seq := { s.seq with started := true, op := none }, out := s.out ++ os, sig := [] }
    none (.mark (some s.cap.nextSeq)) hq hrun (.inl rfl)
  have hsettle : (s.beginWork (.mark note)).settleWithin 255 = Core.settleWithin 254 (Core.stepMark (some s.cap.nextSeq)
      { s.marked note with seq := { s.seq with started := true, op := some .mark }, out := s.out ++ os, sig := [] }) :=
    (congrArg (Core.settleWithin 255) hask).trans (Core.settleWithin_cons 254 _ (.markEnded (some s.cap.nextSeq)) [] rfl)
  have hstep : Core.stepMark (some s.cap.nextSeq)
      { s.marked note with seq := { s.seq with started := true, op := some .mark }, out := s.out ++ os, sig := [] } = _ :=
    (if_pos rfl).trans hend
  refine ⟨os ++ [.report (.stepDone st.id st.work.kind st.origin .done none w (.mark (some s.cap.nextSeq)))], ?_, ?_⟩
  · rw [hsettle, hstep, Core.settleWithin_of_sig_nil _ _ rfl, ← List.append_assoc]
    rfl
  · intro o ho
    rcases List.mem_append.1 ho with h | h
    · exact hos o h
    · rw [List.mem_singleton.1 h]
      rfl

end

/-! ### STEP_QUEUE in IDLE -/

/-- The blocks as the start of a queued step finds them (R135, R136, R141). -/
def State.stepQueued (q : Req) (work : StepWork) (gate : Option Guard) (m : Mask) (s : State) : Core :=
  (s.found q.us).linkQueued s.link.nextEntry work gate m

/-- Neither the answer nor the appended step bears on the tests of the start (R141). -/
theorem State.stepQueued_tests (q : Req) (work : StepWork) (gate : Option Guard) (m : Mask) (s : State) :
    (s.stepQueued q work gate m).guardFails gate = s.core.guardFails gate
      ∧ (s.stepQueued q work gate m).alreadyCaptured work = s.core.alreadyCaptured work
      ∧ (s.stepQueued q work gate m).startCheck = s.core.startCheck := by
  refine ⟨?_, ?_, rfl⟩
  · cases gate <;> rfl
  · cases work <;> rfl

theorem Core.guardFails_eq_false (s : Core) {gate : Option Guard}
    (h : ∀ c : Guard, gate = some c → s.word.get c.cond = c.want) : s.guardFails gate = false := by
  cases gate with
  | none => rfl
  | some c => simp [Core.guardFails, h c rfl]

section
variable {q : Req} {g : Option GuardSpec} {gate : Option Guard} {s : State} (hq : Taken q s) (hg : stepGuard g = .ok gate)
  (hidle : s.core.seq.state = .idle) (hqueue : s.core.seq.queue = []) {w : StepSpec} {work : StepWork} {m : Mask}
  (hw : stepWork w = .ok (work, m))
include hq hg hidle hqueue hw

theorem stepQueue_starts {z : Core} {os : List Out} (hz : (s.stepQueued q work gate m).startHead.settleWithin 255 = z)
    (hout : z.out = .reply s.link.nextEntry { status := .queued s.core.seq.nextId, body := .stepClamps m } :: os)
    (hos : ∀ o ∈ os, o.isReply = false) :
    ∃ t, exec (.stepQueue q w g) s = .next t ∧ Replied q 0x40 (.queued s.core.seq.nextId) (.stepClamps m) s t
      ∧ t.core = { z with out := [], sig := [] }
      ∧ (s.link.tx ≠ none → s.link.reports.length + (os.filterMap Out.asReport).length ≤ 32 →
        t.link.reports = s.link.reports ++ os.filterMap Out.asReport) :=
  State.ask_settles hq ((Core.stepQueue_settle _ (s.found q.us) rfl hw hg hidle hqueue).trans hz) hout hos

/-- A start that hands nothing on and sends nothing. -/
theorem stepQueue_starts_silently {c : Core} (hstart : (s.stepQueued q work gate m).startHead = { c with
      out := [.reply s.link.nextEntry { status := .queued s.core.seq.nextId, body := .stepClamps m }], sig := [] }) :
    exec (.stepQueue q w g) s = .next (s.answered q 0x40 (.queued s.core.seq.nextId) (.stepClamps m) c) := by
  have hsettle := (Core.stepQueue_settle s.link.nextEntry (s.found q.us) rfl hw hg hidle hqueue).trans
    ((congrArg (Core.settleWithin 255) hstart).trans (Core.settleWithin_of_sig_nil _ _ rfl))
  have hanswered := State.ask_settles_answered (kind := 0x40) (f := fun id c => c.stepQueue id w g) hq hsettle rfl
  exact hanswered

/-- A step that its start skips (R141, R148). -/
theorem stepQueue_skipped {reason : StepReason}
    (hskip : (s.stepQueued q work gate m).startHead = (s.stepQueued q work gate m).endPlain .skipped reason) :
    ∃ t, exec (.stepQueue q w g) s = .next t
      ∧ Replied q 0x40 (.queued s.core.seq.nextId) (.stepClamps m) s t
      ∧ t.core = { s.found q.us with
          seq := { s.core.seq.ended true with nextId := stepIdAfter s.core.seq.nextId } }
      ∧ (s.link.tx ≠ none → s.link.reports.length < 32 → ∃ x e,
          .stepDone s.core.seq.nextId work.kind .link .skipped (some reason) x e ∈ t.link.reports) := by
  obtain ⟨x, hend⟩ := Core.endStep_only (s.stepQueued q work gate m) (some reason)
    (work.extra (s.stepQueued q work gate m).cycleCount) rfl rfl (.inr rfl)
  obtain ⟨t, ht, hreplied, hcore, hreports⟩ := stepQueue_starts hq hg hidle hqueue hw
    ((congrArg (Core.settleWithin 255) (hskip.trans hend)).trans (Core.settleWithin_of_sig_nil _ _ rfl)) rfl
    (by simp [Out.isReply])
  refine ⟨t, ht, hreplied, hcore, fun htx hroom =>
    ⟨x, work.extra (s.stepQueued q work gate m).cycleCount, ?_⟩⟩
  rw [hreports htx hroom]
  exact List.mem_append_right _ (.head _)

/-- A step that the start check holds (R141, R149, R178). -/
theorem stepQueue_held (hnew : s.core.seq.started = false) (hp : s.core.seq.pause = none) {why : HoldReason}
    (hheld : (s.stepQueued q work gate m).startHead = (s.stepQueued q work gate m).holdAtStart why) :
    ∃ t, exec (.stepQueue q w g) s = .next t
      ∧ Replied q 0x40 (.queued s.core.seq.nextId) (.stepClamps m) s t
      ∧ t.core = { s.found q.us with
          seq := { s.core.seq.begun work gate with
            started := false, state := .held, reason := some why
            interlock := if why = .interlock then true else s.core.seq.interlock } } := by
  obtain ⟨os, hhold, hos⟩ := Core.holdAtStart_still (s.stepQueued q work gate m) why hp
  obtain ⟨t, ht, hreplied, hcore, -⟩ := stepQueue_starts hq hg hidle hqueue hw
    ((congrArg (Core.settleWithin 255) (hheld.trans hhold)).trans (Core.settleWithin_of_sig_nil _ _ rfl)) rfl hos
  refine ⟨t, ht, hreplied, hcore.trans ?_⟩
  rw [← hnew]
  rfl

end

/-! ### The grounds of the start check -/

/-- The three grounds of the start check, in their order (R141). -/
theorem Core.startCheck_eq_some (s : Core) {why : HoldReason}
    (h : (s.faults ≠ [] ∧ why = .fault)
      ∨ (s.faults = [] ∧ s.freeExceptions < 5 ∧ why = .exceptionsFull)
      ∨ (s.faults = [] ∧ 5 ≤ s.freeExceptions ∧ s.panel.broken = true ∧ why = .interlock)) :
    s.startCheck = some why := by
  rcases h with ⟨hf, rfl⟩ | ⟨hf, hr, rfl⟩ | ⟨hf, hr, hb, rfl⟩
  · exact if_pos hf
  · rw [Core.startCheck, if_neg (by simpa using hf), if_pos hr]
  · exact s.startCheck_interlock hf hr hb

theorem StepWork.checked_of_kind {work : StepWork} (h : work.kind = .capture ∨ work.kind = .turn ∨ work.kind = .cycle) :
    work.checked = true := by
  cases work <;> simp_all [StepWork.kind, StepWork.checked]

theorem Core.alreadyCaptured_eq_false (s : Core) {work : StepWork}
    (h : ∀ ask, work = .capture ask false → s.openingCaptured = false) : s.alreadyCaptured work = false := by
  cases work with
  | capture ask retake =>
    cases retake with
    | true => rfl
    | false => exact h ask rfl
  | _ => rfl

/-! ### The fields of a LIGHT -/

/-- The fields of a LIGHT are numbered from 5, after the kind and the guard (notes 12). -/
theorem stepWork_light {m : Mask} (x : Setting) (hsome : (m >>> 4) &&& 0x7F#16 ≠ 0#16) (hm : m &&& 0xF800#16 = 0#16) :
    stepWork (.light m x) = .ok (.light ((m >>> 4) &&& 0x7F#16) x, 0#16) := by
  have hstray : strayField m 11 = none := strayField_eq_none hm (by decide)
  simp only [stepWork, hstray]
  exact if_neg hsome

theorem hasField_light (m : Mask) {n : Nat} (h1 : 1 ≤ n) (h7 : n ≤ 7) :
    hasField ((m >>> 4) &&& 0x7F#16) n = m.getLsbD (n + 3) := by
  have hlow : (0x7F#16).getLsbD (n - 1) = true := by
    interval_cases n <;> rfl
  have hplace : 4 + (n - 1) = n + 3 := by omega
  rw [hasField, BitVec.getLsbD_and, hlow, BitVec.getLsbD_ushiftRight, hplace, Bool.and_true]

/-! ### What starts -/

theorem resolveSide_eq (ask : SideAsked) (opening leaves : Nat) :
    resolveSide ask opening leaves = ask.resolved opening leaves := by
  cases ask <;> rfl

section
variable {q : Req} {g : Option GuardSpec} {gate : Option Guard} {s : State} (hq : Taken q s) (hg : stepGuard g = .ok gate)
  (hidle : s.core.seq.state = .idle) (hqueue : s.core.seq.queue = []) (hnew : s.core.seq.started = false)
  (hgate : s.core.guardFails gate = false)

include hnew hgate in
/-- The tests of the start passed, the work begins (R141). -/
theorem State.stepQueued_begins {work : StepWork} (m : Mask) (hcap : s.core.alreadyCaptured work = false)
    (h : work.checked = false ∨ s.core.startCheck = none) :
    (s.stepQueued q work gate m).startHead = (s.stepQueued q work gate m).beginWork work := by
  obtain ⟨hguard, hcaptured, hcheck⟩ := State.stepQueued_tests q work gate m s
  refine Core.startHead_passed (s.stepQueued q work gate m) rfl rfl hnew (hguard.trans hgate) (hcaptured.trans hcap) ?_
  exact h.imp_right hcheck.trans

include hnew hgate in
/-- A CAPTURE that passes the tests asks for its attempt (R142). -/
theorem State.stepQueued_attempt (m : Mask) (ask : SideAsked) {retake : Bool}
    (hnot : retake = false → s.core.openingCaptured = false) (h : s.core.startCheck = none) :
    (s.stepQueued q (.capture ask retake) gate m).startHead =
      ((s.stepQueued q (.capture ask retake) gate m).atWork .attempt).askAttempt ask :=
  State.stepQueued_begins hnew hgate m
    (s.core.alreadyCaptured_eq_false fun _ h => hnot (StepWork.capture.inj h).2) (.inr h)

include hq hg hidle hqueue hnew hgate

/-- A TURN sends the cup down (R101, R143). -/
theorem stepQueue_turn {i : Fin 16} {v : Volume} (hf : s.core.faults = []) (hr : 5 ≤ s.core.freeExceptions)
    (hready : s.core.CradleReady) (hm : s.core.vols.mounted = some i) (hv : s.core.vols.slots[i] = some v)
    (hturn : s.core.motion.turn = none) (hwait : s.core.motion.turnWait = none) (href : s.core.motion.cRef ≠ none)
    (hlt : v.cursor < v.leaves) (hfold : isFoldout v.segs (v.cursor + 1) = false) :
    exec (.stepQueue q .turn g) s = .next (s.answered q 0x40 (.queued s.core.seq.nextId) (.stepClamps 0)
      { s.found q.us with
        motion := { s.core.motion with
          turn := some (Turn.first v.cursor), turnWait := none, arm := .moving .lifting, stage := .descend
          armSince := (s.found q.us).now }
        seq := { s.core.seq.begun .turn gate with op := some .turn } }) := by
  have hbegins := State.stepQueued_begins (q := q) hnew hgate (work := .turn) 0#16 rfl
    (.inr (Core.startCheck_pass _ hf hr hready.curtain))
  have hask := Core.askTurn_ready ((s.stepQueued q .turn gate 0#16).atWork .turn) hm hv hlt hf (hready.congr rfl rfl)
    hturn hwait href hfold
  exact stepQueue_starts_silently hq hg hidle hqueue rfl (hbegins.trans hask)

section
variable {w : StepSpec} {ask : SideAsked} {retake : Bool} {m : Mask} {i : Fin 16} {v : Volume} {a : Attempt}
  (hw : stepWork w = .ok (.capture ask retake, m)) (hnot : retake = false → s.core.openingCaptured = false)
  (hf : s.core.faults = []) (hr : 5 ≤ s.core.freeExceptions) (hready : s.core.CradleReady)
  (hm : s.core.vols.mounted = some i) (hv : s.core.vols.slots[i] = some v) (hatt : s.core.cap.attempt = none)
  (hmark : s.core.cap.mark = none)
include hw hnot hf hr hready hm hv hatt hmark

/-- A CAPTURE with the ring full waits in RING_WAIT (R117). -/
theorem stepQueue_capture_waits (hfull : 64 ≤ s.core.cap.ring.length)
    (ha : { Attempt.placed ask v with phase := .ringWait } = a) :
    exec (.stepQueue q w g) s = .next (s.answered q 0x40 (.queued s.core.seq.nextId) (.stepClamps m)
      { s.found q.us with
        cap := { s.core.cap with attempt := some a }
        seq := { s.core.seq.begun (.capture ask retake) gate with op := some .attempt } }) := by
  have hbegins := State.stepQueued_attempt (q := q) hnew hgate m ask hnot (Core.startCheck_pass _ hf hr hready.curtain)
  have hask := Core.askAttempt_full ((s.stepQueued q (.capture ask retake) gate m).atWork .attempt) ask hm hv hatt hmark
    hfull
  subst ha
  exact stepQueue_starts_silently hq hg hidle hqueue hw (hbegins.trans hask)

/-- A CAPTURE with room in the ring begins to lower the platen (R116 to R118). -/
theorem stepQueue_capture_lowers (hroom : s.core.cap.ring.length < 64) (hfree : s.core.ConverterFree)
    (hdark : s.core.illum.view.wanted = false) (ha : Attempt.placed ask v = a) :
    exec (.stepQueue q w g) s = .next (s.answered q 0x40 (.queued s.core.seq.nextId) (.stepClamps m)
      { (s.found q.us).lowered with
        cap := { s.core.cap with attempt := some a }
        seq := { s.core.seq.begun (.capture ask retake) gate with op := some .attempt } }) := by
  have hbegins := State.stepQueued_attempt (q := q) hnew hgate m ask hnot (Core.startCheck_pass _ hf hr hready.curtain)
  have hask := Core.askAttempt_ready ((s.stepQueued q (.capture ask retake) gate m).atWork .attempt) ask hm hv hf
    (hready.congr rfl rfl) (hfree.congr rfl) hatt hmark hroom hdark
  subst ha
  exact stepQueue_starts_silently hq hg hidle hqueue hw (hbegins.trans hask)

end

/-- A LIGHT sets its fields and ends DONE (R70, R144). -/
theorem stepQueue_light {m : Mask} (x : Setting) (hsome : (m >>> 4) &&& 0x7F#16 ≠ 0#16) (hm : m &&& 0xF800#16 = 0#16)
    (ha : s.core.dose.accrual = none) :
    ∃ t, exec (.stepQueue q (.light m x) g) s = .next t
      ∧ Replied q 0x40 (.queued s.core.seq.nextId) (.stepClamps 0) s t
      ∧ t.core = { s.found q.us with
          illum := { s.core.illum with
            staged := settingMerge ((m >>> 4) &&& 0x7F#16) (settingClamp x) s.core.illum.staged }
          seq := { s.core.seq.ended false with nextId := stepIdAfter s.core.seq.nextId } } := by
  have hbegins := State.stepQueued_begins (q := q) hnew hgate (work := .light ((m >>> 4) &&& 0x7F#16) x) 0#16 rfl (.inl rfl)
  obtain ⟨r, hlight⟩ := Core.beginWork_light (s.stepQueued q (.light ((m >>> 4) &&& 0x7F#16) x) gate 0#16) rfl rfl
    ((m >>> 4) &&& 0x7F#16) x ha
  obtain ⟨t, ht, hreplied, hcore, -⟩ := stepQueue_starts hq hg hidle hqueue (stepWork_light x hsome hm)
    ((congrArg (Core.settleWithin 255) (hbegins.trans hlight)).trans (Core.settleWithin_of_sig_nil _ _ rfl)) rfl
    (by simp [Out.isReply])
  exact ⟨t, ht, hreplied, hcore⟩

/-- A MARK with the ring full waits (R126). -/
theorem stepQueue_mark_waits (note : Nat) (hatt : s.core.cap.attempt = none) (hmark : s.core.cap.mark = none)
    (hfull : 64 ≤ s.core.cap.ring.length) :
    exec (.stepQueue q (.mark note) g) s = .next
      (s.answered q 0x40 (.queued s.core.seq.nextId) (.stepClamps 0)
        { s.found q.us with
          cap := { s.core.cap with mark := some note }
          seq := { s.core.seq.begun (.mark note) gate with op := some .mark } }) := by
  have hbegins := State.stepQueued_begins (q := q) hnew hgate (work := .mark note) 0#16 rfl (.inl rfl)
  have hask := Core.askMark_full ((s.stepQueued q (.mark note) gate 0#16).atWork .mark) note hatt hmark hfull
  exact stepQueue_starts_silently hq hg hidle hqueue rfl (hbegins.trans hask)

/-- A MARK with room in the ring is written (R126, R144). -/
theorem stepQueue_mark_writes (note : Nat) {place : Option (Nat × Nat)} (hatt : s.core.cap.attempt = none)
    (hmark : s.core.cap.mark = none) (hplace : (s.core.mounted.map fun m => (m.1.val, m.2.cursor)) = place)
    (hroom : s.core.cap.ring.length < 64) :
    ∃ t, exec (.stepQueue q (.mark note) g) s = .next t
      ∧ Replied q 0x40 (.queued s.core.seq.nextId) (.stepClamps 0) s t
      ∧ t.core = { s.found q.us with
          cap := { s.core.cap with
            ring := s.core.cap.ring ++
              [.mark { seq := s.core.cap.nextSeq, stamp := (s.found q.us).stamp, place := place
                       note := note }]
            nextSeq := s.core.cap.nextSeq + 1 }
          seq := { s.core.seq.ended false with nextId := stepIdAfter s.core.seq.nextId } } := by
  have hbegins := State.stepQueued_begins (q := q) hnew hgate (work := .mark note) 0#16 rfl (.inl rfl)
  obtain ⟨os, hwrites, hos⟩ := Core.beginWork_mark (s.stepQueued q (.mark note) gate 0#16) rfl rfl note rfl hatt hmark
    hroom
  obtain ⟨t, ht, hreplied, hcore, -⟩ := stepQueue_starts hq hg hidle hqueue (w := .mark note) rfl
    ((congrArg (Core.settleWithin 255) hbegins).trans hwrites) rfl hos
  subst hplace
  exact ⟨t, ht, hreplied, hcore⟩

end

/-- Settles O51: the tests of the start in their order, and then the operation that the work asks for. -/
theorem stepsStart : Obligations.StepsStart := by
  intro q g gate s hq hg hidle hqueue hnew hp
  refine ⟨fun w work m c hw hc hne => ?_, fun hpass => ?_⟩
  · obtain ⟨hguard, -, -⟩ := State.stepQueued_tests q work gate m s
    have hfails : s.core.guardFails gate = true := by simp [hc, Core.guardFails, hne]
    exact stepQueue_skipped hq hg hidle hqueue hw
      (Core.startHead_guarded (s.stepQueued q work gate m) rfl rfl hnew (hguard.trans hfails))
  have hgate := s.core.guardFails_eq_false hpass
  refine ⟨fun w ask m hw hcaptured => ?_, fun w work m why hw hkind hfresh hwhy => ?_,
    fun i v hf hr hready hm hv => ⟨stepQueue_turn hq hg hidle hqueue hnew hgate hf hr hready hm hv, ?_⟩,
    fun m x hsome hm ha => ?_, fun note place hatt hmark hplace =>
      ⟨stepQueue_mark_waits hq hg hidle hqueue hnew hgate note hatt hmark,
        stepQueue_mark_writes hq hg hidle hqueue hnew hgate note hatt hmark ?_⟩⟩
  · obtain ⟨hguard, halready, -⟩ := State.stepQueued_tests q (.capture ask false) gate m s
    exact stepQueue_skipped hq hg hidle hqueue hw (Core.startHead_captured (s.stepQueued q (.capture ask false) gate m)
      rfl rfl hnew (hguard.trans hgate) (halready.trans hcaptured))
  · obtain ⟨hguard, halready, hcheck⟩ := State.stepQueued_tests q work gate m s
    exact stepQueue_held hq hg hidle hqueue hw hnew hp (Core.startHead_stopped (s.stepQueued q work gate m) rfl rfl hnew
      (hguard.trans hgate) (halready.trans (s.core.alreadyCaptured_eq_false hfresh)) (StepWork.checked_of_kind hkind)
      (hcheck.trans (s.core.startCheck_eq_some hwhy)))
  · intro w ask retake m a hw hnot hatt hmark hdark ha
    have hplaced : { Attempt.placed ask v with phase := .ringWait } = a := by
      rw [ha, Attempt.placed, resolveSide_eq]
      rfl
    refine ⟨fun hfull => ?_, fun hroom hfree => ?_⟩
    · exact stepQueue_capture_waits hq hg hidle hqueue hnew hgate hw hnot hf hr hready hm hv hatt hmark hfull hplaced
    · exact stepQueue_capture_lowers hq hg hidle hqueue hnew hgate hw hnot hf hr hready hm hv hatt hmark hroom hfree hdark
        (by rw [← hplaced]; rfl)
  · obtain ⟨t, ht, hreplied, hcore⟩ := stepQueue_light hq hg hidle hqueue hnew hgate x hsome hm ha
    refine ⟨t, ht, hreplied, hcore.trans ?_⟩
    simp only [settingMerge, settingClamp, pick, hasField_light, clamp, Nat.reduceLeDiff, Nat.reduceAdd]
  · rcases hplace with ⟨hnone, rfl⟩ | ⟨i, v, hm, hv, rfl⟩
    · simp [Core.mounted, hnone]
    · rw [Core.mounted_of s.core i v hm hv]
      rfl

end Sys2Proof.Machine
end

section
/-! PROOF. What the units' operations make of the cradle: most leave it, and the others change the fields named here.
The layer under the statements on the cradle. -/

namespace Sys2Proof.Machine

/-! ### Operations that leave the cradle -/

section
variable (s : Core)

@[simp] theorem Core.withView_motion (f : ViewLight → ViewLight) : (s.withView f).motion = s.motion := by
  simp [s.withView_chargeKept f]

@[simp] theorem Core.stopPause_motion : s.stopPause.motion = s.motion := by
  unfold Core.stopPause
  (repeat' split) <;> simp_all

@[simp] theorem Core.runPause_motion : s.runPause.motion = s.motion := by
  unfold Core.runPause
  (repeat' split) <;> simp_all

@[simp] theorem Core.reportHold_motion (reason : HoldReason) : (s.reportHold reason).motion = s.motion := by
  simp [Core.reportHold]

@[simp] theorem Core.setHold_motion (reason : HoldReason) : (s.setHold reason).motion = s.motion := by
  simp [Core.setHold]

@[simp] theorem Core.enterHold_motion (reason : HoldReason) : (s.enterHold reason).motion = s.motion := by
  simp [s.enterHold_keeps]

@[simp] theorem Core.raiseFault_motion (k : FaultKind) (d : FaultDetail) : (s.raiseFault k d).motion = s.motion := by
  simp [s.raiseFault_keeps]

@[simp] theorem Core.reportAssist_motion (k : AssistKind) (opening : Option Nat) :
    (s.reportAssist k opening).motion = s.motion := by
  simp [Core.reportAssist]

@[simp] theorem Core.holdInterlock_motion : s.holdInterlock.motion = s.motion := by
  unfold Core.holdInterlock
  dsimp only
  (repeat' split) <;> simp_all

@[simp] theorem Core.endFaults_motion (es : List FaultEntry) : (s.endFaults es).motion = s.motion := by
  induction es generalizing s with
  | nil => rfl
  | cons e es ih =>
    unfold Core.endFaults
    split <;> simp [ih]

@[simp] theorem Core.judgeFaults_motion : s.judgeFaults.motion = s.motion := by
  simp [Core.judgeFaults]

@[simp] theorem Core.reviseView_motion : s.reviseView.motion = s.motion := by
  unfold Core.reviseView
  (repeat' split) <;> simp [Core.beginPeriod]

@[simp] theorem Core.fullPeriod_motion (a : Accrual) : (s.fullPeriod a).motion = s.motion := by
  unfold Core.fullPeriod
  dsimp only
  (repeat' split) <;> simp_all

@[simp] theorem Core.moveCursor_motion (k : Nat) : (s.moveCursor k).motion = s.motion := by
  unfold Core.moveCursor
  dsimp only
  (repeat' split) <;> simp_all

@[simp] theorem Core.captureLampOn_motion (qPlan : Nat) : (s.captureLampOn qPlan).motion = s.motion := by
  unfold Core.captureLampOn
  dsimp only
  (repeat' split) <;> simp_all

@[simp] theorem Core.lampOn_motion : s.lampOn.motion = s.motion := by
  unfold Core.lampOn
  dsimp only
  (repeat' split) <;> simp_all

@[simp] theorem Core.grant_motion (ch : Channel) (e : PendingConv) : (s.grant ch e).motion = s.motion := by
  unfold Core.grant
  dsimp only
  (repeat' split) <;> simp_all

@[simp] theorem Core.grantNext_motion : s.grantNext.motion = s.motion := by
  unfold Core.grantNext
  (repeat' split) <;> simp_all

@[simp] theorem Core.post_motion (ch : Channel) (kind : ConvKind) (who : Requester) :
    (s.post ch kind who).motion = s.motion := by
  unfold Core.post
  dsimp only
  (repeat' split) <;> simp_all

@[simp] theorem Core.withdraw_motion (ch : Channel) (gone : Requester → Bool) :
    (s.withdraw ch gone).motion = s.motion := rfl

@[simp] theorem Core.abandonWindow_motion : s.abandonWindow.motion = s.motion := by
  unfold Core.abandonWindow
  dsimp only
  (repeat' split) <;> simp_all

@[simp] theorem Core.writeRecord_motion (r : Record) : (s.writeRecord r).motion = s.motion := by
  unfold Core.writeRecord
  dsimp only
  (repeat' split) <;> simp_all

@[simp] theorem Core.tellOutcome_motion (opening : Nat) (seq : SeqNo) (outcome : CaptureOutcome) :
    (s.tellOutcome opening seq outcome).motion = s.motion := by
  unfold Core.tellOutcome
  dsimp only
  (repeat' split) <;> simp_all

@[simp] theorem Core.restoreView_motion : s.restoreView.motion = s.motion := by
  simp [Core.restoreView]

@[simp] theorem Core.recordAttempt_motion (a : Attempt) (outcome : CaptureOutcome) (dose : DoseRecord) :
    (s.recordAttempt a outcome dose).motion = s.motion := by
  unfold Core.recordAttempt
  dsimp only
  (repeat' split) <;> simp_all

@[simp] theorem Core.latchCapture_motion (ok dimmed : Bool) : (s.latchCapture ok dimmed).motion = s.motion := by
  simp [Core.latchCapture]

@[simp] theorem Core.finishAttempt_motion (a : Attempt) (outcome : CaptureOutcome) (dose : DoseRecord) :
    (s.finishAttempt a outcome dose).motion = s.motion := by
  unfold Core.finishAttempt
  dsimp only
  (repeat' split) <;> simp_all

@[simp] theorem Core.tryFinish_motion : s.tryFinish.motion = s.motion := by
  unfold Core.tryFinish
  (repeat' split) <;> simp_all

@[simp] theorem Core.captureDose_motion (rec_ : DoseRecord) : (s.captureDose rec_).motion = s.motion := by
  unfold Core.captureDose
  (repeat' split) <;> simp_all

@[simp] theorem Core.captureLampOff_motion : s.captureLampOff.motion = s.motion := by
  unfold Core.captureLampOff
  dsimp only
  (repeat' split) <;> simp_all

@[simp] theorem Core.endUnlit_motion : s.endUnlit.motion = s.motion := by
  simp [Core.endUnlit]

@[simp] theorem Core.endUnlitWith_motion (e : AttemptEnding) : (s.endUnlitWith e).motion = s.motion := by
  simp [Core.endUnlitWith]

@[simp] theorem Core.dropFlash_motion : s.dropFlash.motion = s.motion := by
  simp [Core.dropFlash]

@[simp] theorem Core.refuseFlash_motion (f : Flash) (r : FlashRefusal) : (s.refuseFlash f r).motion = s.motion := by
  unfold Core.refuseFlash
  dsimp only
  (repeat' split) <;> simp_all

@[simp] theorem Core.meetHold_motion (f : Flash) : (s.meetHold f).motion = s.motion := by
  unfold Core.meetHold
  (repeat' split) <;> simp_all

@[simp] theorem Core.enterThermal_motion (value : Option Int) : (s.enterThermal value).motion = s.motion := by
  unfold Core.enterThermal
  dsimp only
  (repeat' split) <;> simp_all

@[simp] theorem Core.admitFlash_motion (f : Flash) (r : Result) : (s.admitFlash f r).motion = s.motion := by
  unfold Core.admitFlash
  dsimp only
  (repeat' split) <;> simp_all

@[simp] theorem Core.testHold_motion (faulted : Bool) (value : Option Int) :
    (s.testHold faulted value).motion = s.motion := by
  unfold Core.testHold
  (repeat' split) <;> simp_all

@[simp] theorem Core.useReading_motion (r : Result) : (s.useReading r).motion = s.motion := by
  unfold Core.useReading
  (repeat' split) <;> simp_all

@[simp] theorem Core.advance_motion : s.advance.motion = s.motion := by
  unfold Core.advance
  (repeat' split) <;> simp_all

@[simp] theorem Core.enterAdmitting_motion (f : Flash) : (s.enterAdmitting f).motion = s.motion := by
  unfold Core.enterAdmitting
  dsimp only
  (repeat' split) <;> simp_all

@[simp] theorem Core.leaveThermal_motion (value : Option Int) : (s.leaveThermal value).motion = s.motion := by
  unfold Core.leaveThermal
  dsimp only
  (repeat' split) <;> simp_all

@[simp] theorem Core.thermalTest_motion (faulted : Bool) (value : Option Int) :
    (s.thermalTest faulted value).motion = s.motion := by
  unfold Core.thermalTest
  (repeat' split) <;> simp_all

@[simp] theorem Core.thermalAtMount_motion : s.thermalAtMount.motion = s.motion := by
  unfold Core.thermalAtMount
  (repeat' split) <;> simp_all

@[simp] theorem Core.askFlash_motion (side : Side) : (s.askFlash side).motion = s.motion := by
  unfold Core.askFlash
  dsimp only
  (repeat' split) <;> simp_all

@[simp] theorem Core.giveLeave_motion : s.giveLeave.motion = s.motion := by
  unfold Core.giveLeave
  (repeat' split) <;> simp_all

@[simp] theorem Core.handWindow_motion (r : Option Result) : (s.handWindow r).motion = s.motion := by
  unfold Core.handWindow
  dsimp only
  (repeat' split) <;> simp_all

@[simp] theorem Core.lampsOff_motion (f : Flash) : (s.lampsOff f).motion = s.motion := by
  unfold Core.lampsOff
  dsimp only
  (repeat' split) <;> simp_all

@[simp] theorem Core.illumBreak_motion : s.illumBreak.motion = s.motion := by
  unfold Core.illumBreak
  dsimp only
  (repeat' split) <;> simp_all

@[simp] theorem Core.abortLit_motion (f : Flash) : (s.abortLit f).motion = s.motion := by
  unfold Core.abortLit
  dsimp only
  (repeat' split) <;> simp_all

@[simp] theorem Core.illumAbort_motion : s.illumAbort.motion = s.motion := by
  unfold Core.illumAbort
  dsimp only
  (repeat' split) <;> simp_all

@[simp] theorem Core.dropForce_motion : s.dropForce.motion = s.motion := by
  simp [Core.dropForce]

@[simp] theorem Core.dropGauge_motion : s.dropGauge.motion = s.motion := by
  simp [Core.dropGauge]

@[simp] theorem Core.enterAdmission_motion (a : Attempt) : (s.enterAdmission a).motion = s.motion := by
  simp [Core.enterAdmission]

@[simp] theorem Core.awaitCameras_motion (a : Attempt) : (s.awaitCameras a).motion = s.motion := by
  simp [Core.awaitCameras]

@[simp] theorem Core.startCameraWait_motion (a : Attempt) : (s.startCameraWait a).motion = s.motion := by
  unfold Core.startCameraWait
  dsimp only
  (repeat' split) <;> simp_all

@[simp] theorem Core.attemptPlatenDown_motion : s.attemptPlatenDown.motion = s.motion := by
  unfold Core.attemptPlatenDown
  (repeat' split) <;> simp_all

@[simp] theorem Core.attemptPlatenFailed_motion (r : PlatenReason) : (s.attemptPlatenFailed r).motion = s.motion := by
  unfold Core.attemptPlatenFailed
  (repeat' split) <;> simp_all

@[simp] theorem Core.attemptRefused_motion (r : FlashRefusal) : (s.attemptRefused r).motion = s.motion := by
  unfold Core.attemptRefused
  dsimp only
  (repeat' split) <;> simp_all

@[simp] theorem Core.writeMark_motion (note : Nat) : (s.writeMark note).motion = s.motion := by
  simp [Core.writeMark]

@[simp] theorem Core.askMark_motion (note : Nat) : (s.askMark note).motion = s.motion := by
  unfold Core.askMark
  (repeat' split) <;> simp_all

@[simp] theorem Core.captureBreak_motion : s.captureBreak.motion = s.motion := by
  unfold Core.captureBreak
  (repeat' split) <;> simp_all

@[simp] theorem Core.markAborting_motion : s.markAborting.motion = s.motion := by
  unfold Core.markAborting
  (repeat' split) <;> simp_all

@[simp] theorem Core.captureAbort_motion : s.captureAbort.motion = s.motion := by
  unfold Core.captureAbort
  (repeat' split) <;> simp_all

@[simp] theorem Core.handT_motion (r : Result) : (s.handT r).motion = s.motion := by
  unfold Core.handT
  dsimp only
  (repeat' split) <;> simp_all

@[simp] theorem Core.latchResult_motion (ch : Channel) (r : Result) : (s.latchResult ch r).motion = s.motion := by
  simp [Core.latchResult]

@[simp] theorem Core.setAwaiting_motion (k : Option Awaited) : (s.setAwaiting k).motion = s.motion := by
  simp [Core.setAwaiting]

@[simp] theorem Core.setHeadWork_motion (w : StepWork) : (s.setHeadWork w).motion = s.motion := by
  unfold Core.setHeadWork
  (repeat' split) <;> simp_all

@[simp] theorem Core.reportStep_motion (st : Step) (result : StepResult) (reason : Option StepReason)
    (extra : StepExtra) : (s.reportStep st result reason extra).motion = s.motion := by
  simp [Core.reportStep]

@[simp] theorem Core.endStep_motion (result : StepResult) (reason : Option StepReason) (extra : StepExtra) :
    (s.endStep result reason extra).motion = s.motion := by
  unfold Core.endStep
  dsimp only
  (repeat' split) <;> simp_all

@[simp] theorem Core.endPlain_motion (result : StepResult) (reason : StepReason) :
    (s.endPlain result reason).motion = s.motion := by
  unfold Core.endPlain
  (repeat' split) <;> simp_all

@[simp] theorem Core.awaitAssist_motion (k : Awaited) : (s.awaitAssist k).motion = s.motion := by
  unfold Core.awaitAssist
  dsimp only
  (repeat' split) <;> simp_all

@[simp] theorem Core.holdAtStart_motion (r : HoldReason) : (s.holdAtStart r).motion = s.motion := by
  unfold Core.holdAtStart
  (repeat' split) <;> simp_all

@[simp] theorem Core.setCycle_motion (c : CycleProgress) : (s.setCycle c).motion = s.motion := by
  simp [Core.setCycle]

@[simp] theorem Core.endCycle_motion (result : StepResult) (reason : StepReason) (c : CycleProgress) (stop : Nat) :
    (s.endCycle result reason c stop).motion = s.motion := by
  simp [Core.endCycle]

@[simp] theorem Core.stage_motion (m : Mask) (x : Setting) : (s.stage m x).motion = s.motion := by
  simp [Core.stage]

@[simp] theorem Core.stepMark_motion (seq : Option SeqNo) : (s.stepMark seq).motion = s.motion := by
  unfold Core.stepMark
  dsimp only
  (repeat' split) <;> simp_all

@[simp] theorem Core.stepRaised_motion : s.stepRaised.motion = s.motion := by
  unfold Core.stepRaised
  dsimp only
  (repeat' split) <;> simp_all

@[simp] theorem Core.halt_motion : s.halt.motion = s.motion := by
  unfold Core.halt
  (repeat' split) <;> simp_all

@[simp] theorem Core.seqBreak_motion : s.seqBreak.motion = s.motion := by
  unfold Core.seqBreak
  (repeat' split) <;> simp_all

@[simp] theorem Core.reportCancelled_motion (reason : StepReason) (count : Nat) (steps : List Step) :
    (s.reportCancelled reason count steps).motion = s.motion := by
  induction steps generalizing s count with
  | nil => rfl
  | cons st rest ih => simp [Core.reportCancelled, ih]

end

/-! ### The axes -/

@[simp] theorem PlatenState.inMotion_moving (m : PlatenMove) : (PlatenState.moving m).inMotion = true := rfl
@[simp] theorem PlatenState.inMotion_stopped (m : PlatenMove) : (PlatenState.stopped m).inMotion = false := rfl
@[simp] theorem PlatenState.inMotion_up : PlatenState.up.inMotion = false := rfl
@[simp] theorem PlatenState.inMotion_down : PlatenState.down.inMotion = false := rfl
@[simp] theorem PlatenState.inMotion_fault : PlatenState.fault.inMotion = false := rfl
@[simp] theorem PlatenState.inMotion_unreferenced : PlatenState.unreferenced.inMotion = false := rfl
@[simp] theorem ArmState.inMotion_moving (m : ArmMove) : (ArmState.moving m).inMotion = true := rfl
@[simp] theorem ArmState.inMotion_stopped (m : ArmMove) (c : StopCause) : (ArmState.stopped m c).inMotion = false := rfl
@[simp] theorem ArmState.inMotion_parked : ArmState.parked.inMotion = false := rfl
@[simp] theorem ArmState.inMotion_fault : ArmState.fault.inMotion = false := rfl
@[simp] theorem ArmState.inMotion_unreferenced : ArmState.unreferenced.inMotion = false := rfl

section
variable (s : Core)

@[simp] theorem Core.setPlaten_motion (p : PlatenState) :
    (s.setPlaten p).motion = { s.motion with platen := p, platenSince := s.now } := by
  simp [Core.setPlaten]

@[simp] theorem Core.setArm_motion (a : ArmState) (stage : ArmStage) :
    (s.setArm a stage).motion = { s.motion with arm := a, stage := stage, armSince := s.now } := by
  simp [Core.setArm]

@[simp] theorem Core.setAngle_motion (a : AngleState) :
    (s.setAngle a).motion = { s.motion with angle := a, angleSince := s.now } := by
  simp [Core.setAngle]

@[simp] theorem Core.startPlaten_motion (m : PlatenMove) : (s.startPlaten m).motion =
    { s.motion with platen := if s.panel.broken then .stopped m else .moving m, platenSince := s.now } := by
  simp [Core.startPlaten]

@[simp] theorem Core.startArm_motion (m : ArmMove) (stage : ArmStage) : (s.startArm m stage).motion =
    { s.motion with
      arm := if s.panel.broken then .stopped m .curtain else .moving m, stage := stage, armSince := s.now } := by
  simp [Core.startArm]

@[simp] theorem Core.beginRaise_motion : s.beginRaise.motion =
    { s.motion with
      settle := none, platen := if s.panel.broken then .stopped .raising else .moving .raising
      platenSince := s.now } := by
  simp [Core.beginRaise]

@[simp] theorem Core.sampleForce_motion : s.sampleForce.motion = { s.motion with sampleAt := s.now } := by
  simp [Core.sampleForce]

@[simp] theorem Core.failLowering_motion (force : Bool) (r : PlatenReason) : (s.failLowering force r).motion =
    { s.motion with
      forceRaise := force, settle := none
      platen := if s.panel.broken then .stopped .raising else .moving .raising, platenSince := s.now } := by
  simp [Core.failLowering]

@[simp] theorem Core.refuseTurn_motion (o : TurnOutcome) :
    (s.refuseTurn o).motion = { s.motion with turnWait := none } := rfl

@[simp] theorem Core.beginSuck_motion (t : Turn) : (s.beginSuck t).motion =
    { s.motion with
      stage := .suck, armSince := s.now, valveOpen := true
      puff := some { since := s.now, ms := s.puffMs t.retries } } := rfl

@[simp] theorem Core.putDown_motion (why : PutDown) :
    (s.putDown why).motion = { s.motion with stage := .putDown why, armSince := s.now } := by
  simp [Core.putDown, Core.dropGauge, Core.withdraw]

@[simp] theorem Core.beginReturn_motion : s.beginReturn.motion =
    { s.motion with
      arm := if s.panel.broken then .stopped .returning .curtain else .moving .returning, stage := .travel
      armSince := s.now } := by
  simp [Core.beginReturn]

@[simp] theorem Core.giveAssist_motion (k : AssistKind) (t : Turn) :
    (s.giveAssist k t).motion = { s.motion with turn := some t } := by
  unfold Core.giveAssist
  dsimp only
  split <;> simp

@[simp] theorem Core.countFailure_motion (why : PutDown) (t : Turn) : (s.countFailure why t).motion = s.motion := by
  cases why <;> simp [Core.countFailure]

@[simp] theorem Core.layLeaf_motion (t : Turn) :
    (s.layLeaf t).motion = { s.motion with turn := some { t with laid := true } } := by
  simp [Core.layLeaf]

@[simp] theorem Core.endTurn_motion : s.endTurn.motion = { s.motion with turn := none } := by
  unfold Core.endTurn
  split
  · dsimp only
    split <;> rfl
  next h => rw [← h]

@[simp] theorem Core.armFault_motion (m : ArmMove) :
    (s.armFault m).motion = { s.motion with turn := none, arm := .fault, armSince := s.now } := by
  unfold Core.armFault
  dsimp only
  simp [apply_ite Core.motion]

@[simp] theorem Core.tellRaise_motion (ok : Bool) : (s.tellRaise ok).motion = { s.motion with stepRaise := false } := by
  unfold Core.tellRaise
  split
  · rfl
  next h => rw [← Bool.not_eq_true _ |>.mp h]

@[simp] theorem Core.moveAngle_motion (target : Nat) : (s.moveAngle target).motion =
    { s.motion with
      angleTarget := some target, angle := if s.panel.broken then .stopped else .moving, angleSince := s.now } := by
  simp [Core.moveAngle]

@[simp] theorem Core.endHoming_motion (h : Homing) (o : HomingOutcome) (renewed : Bool) :
    (s.endHoming h o renewed).motion = { s.motion with homing := none } := rfl

@[simp] theorem Core.enterPhase_motion (h : Homing) (p : HomingPhase) : (s.enterPhase h p).motion =
    { s.motion with homing := some { h with phase := p, since := s.now } } := rfl

end

end Sys2Proof.Machine
end

section
/-! PROOF. The cradle stands still while the curtain is BROKEN (O5). -/

namespace Sys2Proof.Machine

/-! ### Units that keep the cradle at rest under a BROKEN curtain -/

/-- No axis is in a moving state, and no homing is in hand. -/
@[simp] abbrev Motion.AtRest (m : Motion) : Prop :=
  m.platen.inMotion = false ∧ m.angle ≠ .moving ∧ m.arm.inMotion = false ∧ m.homing = none

section
variable (s : Core)

theorem Core.breakHoming_homing (o : HomingOutcome) : (s.breakHoming o).motion.homing = none := by
  unfold Core.breakHoming
  split
  · simp
  next h => exact h

/-- RESUME is not taken under a BROKEN curtain (R152). -/
theorem Core.resumeTests_of_broken (hb : s.panel.broken = true) : s.resumeTests ≠ none := by
  unfold Core.resumeTests
  simp only [hb, if_true]
  split <;> simp

section
variable (hrest : s.motion.AtRest)
include hrest

@[simp] theorem Core.angleStopped_rest : s.angleStopped.motion.AtRest := by
  unfold Core.angleStopped
  (repeat' split) <;> simp_all

@[simp] theorem Core.forceResult_rest (r : Result) : (s.forceResult r).motion.AtRest := by
  unfold Core.forceResult
  (repeat' split) <;> simp_all

@[simp] theorem Core.tryGauging_rest : s.tryGauging.motion.AtRest := by
  unfold Core.tryGauging
  (repeat' split) <;> simp_all

@[simp] theorem Core.gaugeResult_rest (r : Result) : (s.gaugeResult r).motion.AtRest := by
  unfold Core.gaugeResult
  (repeat' split) <;> simp_all

@[simp] theorem Core.openRefResult_rest (r : Result) : (s.openRefResult r).motion.AtRest := by
  unfold Core.openRefResult
  dsimp only
  (repeat' split) <;> simp_all

@[simp] theorem Core.raiseFailed_rest : s.raiseFailed.motion.AtRest := by
  unfold Core.raiseFailed
  dsimp only
  (repeat' split) <;> simp_all

@[simp] theorem Core.unreference_rest (p : HomingPhase) : (s.unreference p).motion.AtRest := by
  unfold Core.unreference
  (repeat' split) <;> simp_all

@[simp] theorem Core.breakHoming_rest (outcome : HomingOutcome) : (s.breakHoming outcome).motion.AtRest := by
  unfold Core.breakHoming
  (repeat' split) <;> simp_all

@[simp] theorem Core.homingRefResult_rest (r : Result) : (s.homingRefResult r).motion.AtRest := by
  unfold Core.homingRefResult
  (repeat' split) <;> simp_all

@[simp] theorem Core.handTo_rest (ch : Channel) (r : Result) (who : Requester) :
    (s.handTo ch r who).motion.AtRest := by
  unfold Core.handTo
  (repeat' split) <;> simp_all

@[simp] theorem Core.handAll_rest (c : Conversion) (r : Result) : (s.handAll c r).motion.AtRest := by
  have hall (rs : List Requester) (x : Core) (hrest : x.motion.AtRest) :
      (rs.foldl (fun x who => x.handTo c.channel r who) x).motion.AtRest := by
    induction rs generalizing x with
    | nil => exact hrest
    | cons who rs ih => exact ih _ (x.handTo_rest hrest c.channel r who)
  unfold Core.handAll
  dsimp only
  rw [Core.grantNext_motion]
  split
  · exact hall _ _ (by simpa using hrest)
  · exact hall _ _ hrest

@[simp] theorem Core.deliver_rest (c : Conversion) (raw : Int) : (s.deliver c raw).motion.AtRest := by
  simp_all [Core.deliver]

@[simp] theorem Core.declareFault_rest (c : Conversion) : (s.declareFault c).motion.AtRest := by
  simp_all [Core.declareFault]

end

section
variable (hb : s.panel.broken = true) (hrest : s.motion.AtRest)
include hb hrest

@[simp] theorem Core.askRaise_rest : s.askRaise.1.motion.AtRest := by
  unfold Core.askRaise
  (repeat' split) <;> simp_all

@[simp] theorem Core.beginLowering_rest : s.beginLowering.motion.AtRest := by
  unfold Core.beginLowering
  dsimp only
  (repeat' split) <;> simp_all

@[simp] theorem Core.askLowering_rest : s.askLowering.motion.AtRest := by
  unfold Core.askLowering
  (repeat' split) <;> simp_all

@[simp] theorem Core.turnAtUp_rest : s.turnAtUp.motion.AtRest := by
  unfold Core.turnAtUp
  dsimp only
  (repeat' split) <;> simp_all

@[simp] theorem Core.turnFromPlaten_rest : s.turnFromPlaten.motion.AtRest := by
  have hraise := s.askRaise_rest hb hrest
  have hpanel : s.askRaise.1.panel = s.panel := by simp
  unfold Core.turnFromPlaten
  rcases hx : s.askRaise with ⟨x, answer⟩
  cases answer <;> simp_all

@[simp] theorem Core.askTurn_rest : s.askTurn.motion.AtRest := by
  unfold Core.askTurn
  (repeat' split) <;> simp_all

@[simp] theorem Core.attemptFailed_rest (why : PutDown) (t : Turn) : (s.attemptFailed why t).motion.AtRest := by
  unfold Core.attemptFailed
  dsimp only
  (repeat' split) <;> simp_all

@[simp] theorem Core.vacuumLoss_rest (n : Nat) : (s.vacuumLoss n).motion.AtRest := by
  unfold Core.vacuumLoss
  dsimp only
  (repeat' split) <;> simp_all

@[simp] theorem Core.takeHeld_rest : s.takeHeld.motion.AtRest := by
  unfold Core.takeHeld
  dsimp only
  (repeat' split) <;> simp_all

@[simp] theorem Core.platenArrived_rest : s.platenArrived.motion.AtRest := by
  unfold Core.platenArrived
  dsimp only
  (repeat' split) <;> simp_all

@[simp] theorem Core.mountAngle_rest (target : Nat) : (s.mountAngle target).motion.AtRest := by
  unfold Core.mountAngle
  (repeat' split) <;> simp_all

@[simp] theorem Core.abortArm_rest : s.abortArm.motion.AtRest := by
  unfold Core.abortArm
  dsimp only
  (repeat' split) <;> simp_all

@[simp] theorem Core.abortPlaten_rest : s.abortPlaten.motion.AtRest := by
  unfold Core.abortPlaten
  dsimp only
  (repeat' split) <;> simp_all

@[simp] theorem Core.motionAbort_rest : s.motionAbort.motion.AtRest := by
  have hbreak := s.breakHoming_rest hrest .aborted
  unfold Core.motionAbort
  dsimp only
  exact Core.abortPlaten_rest _ (by simp [hb]) (Core.abortArm_rest _ (by simp [hb]) hbreak)

@[simp] theorem Core.gainPlace_rest (a : Attempt) : (s.gainPlace a).motion.AtRest := by
  unfold Core.gainPlace
  dsimp only
  (repeat' split) <;> simp_all

@[simp] theorem Core.askAttempt_rest (ask : SideAsked) : (s.askAttempt ask).motion.AtRest := by
  unfold Core.askAttempt
  dsimp only
  (repeat' split) <;> simp_all

@[simp] theorem Core.takeRoom_rest : s.takeRoom.motion.AtRest := by
  unfold Core.takeRoom
  (repeat' split) <;> simp_all

@[simp] theorem Core.cycleE_rest (c : CycleProgress) : (s.cycleE c).motion.AtRest := by
  unfold Core.cycleE
  dsimp only
  (repeat' split) <;> simp_all

@[simp] theorem Core.cycleD_rest (c : CycleProgress) (stop : Nat) : (s.cycleD c stop).motion.AtRest := by
  have hraise := (s.setCycle { c with pos := .D }).askRaise_rest (by simpa using hb) (by simpa using hrest)
  unfold Core.cycleD
  split
  · rcases hx : (s.setCycle { c with pos := .D }).askRaise with ⟨x, answer⟩
    cases answer <;> simp_all
  · exact s.cycleE_rest hb hrest c

@[simp] theorem Core.cycleC_rest (c : CycleProgress) (stop : Nat) : (s.cycleC c stop).motion.AtRest := by
  unfold Core.cycleC
  (repeat' split) <;> simp_all

@[simp] theorem Core.cycleB_rest (c : CycleProgress) (stop : Nat) : (s.cycleB c stop).motion.AtRest := by
  unfold Core.cycleB
  dsimp only
  (repeat' split) <;> simp_all

@[simp] theorem Core.cycleA_rest (c : CycleProgress) (stop : Nat) : (s.cycleA c stop).motion.AtRest := by
  unfold Core.cycleA
  (repeat' split) <;> simp_all

@[simp] theorem Core.cycleAct_rest (c : CycleProgress) (stop retakes : Nat) :
    (s.cycleAct c stop retakes).motion.AtRest := by
  unfold Core.cycleAct
  dsimp only
  (repeat' split) <;> simp_all

@[simp] theorem Core.cycleTo_rest (c : CycleProgress) : (s.cycleTo c).motion.AtRest := by
  unfold Core.cycleTo
  dsimp only
  (repeat' split) <;> simp_all

@[simp] theorem Core.startCycle_rest (stop : Nat) : (s.startCycle stop).motion.AtRest := by
  unfold Core.startCycle
  (repeat' split) <;> simp_all

@[simp] theorem Core.beginWork_rest (w : StepWork) : (s.beginWork w).motion.AtRest := by
  unfold Core.beginWork
  dsimp only
  (repeat' split) <;> simp_all

@[simp] theorem Core.startHead_rest : s.startHead.motion.AtRest := by
  unfold Core.startHead
  (repeat' split) <;> simp_all

@[simp] theorem Core.cycleAttempt_rest (e : AttemptEnding) (c : CycleProgress) (stop retakes : Nat) :
    (s.cycleAttempt e c stop retakes).motion.AtRest := by
  unfold Core.cycleAttempt
  (repeat' split) <;> simp_all

@[simp] theorem Core.stepAttempt_rest (e : AttemptEnding) : (s.stepAttempt e).motion.AtRest := by
  unfold Core.stepAttempt
  dsimp only
  (repeat' split) <;> simp_all

@[simp] theorem Core.stepTurn_rest (o : TurnOutcome) : (s.stepTurn o).motion.AtRest := by
  unfold Core.stepTurn
  dsimp only
  (repeat' split) <;> simp_all

@[simp] theorem Core.confirmTurn_rest : s.confirmTurn.motion.AtRest := by
  unfold Core.confirmTurn
  dsimp only
  split
  next =>
    split
    next hnone => exact absurd hnone (Core.resumeTests_of_broken _ (by split <;> simp [hb]))
    next => split <;> simpa using hrest
  next => exact hrest

@[simp] theorem Core.abort_rest : s.abort.motion.AtRest := by
  unfold Core.abort
  dsimp only
  (repeat' split) <;> simp_all

@[simp] theorem Core.handle_rest (g : Signal) : (s.handle g).motion.AtRest := by
  unfold Core.handle
  (repeat' split) <;> simp_all

@[simp] theorem Core.settleWithin_rest (n : Nat) : (s.settleWithin n).motion.AtRest := by
  induction n generalizing s with
  | zero => exact hrest
  | succ n ih =>
    unfold Core.settleWithin
    split
    · exact hrest
    next g rest _ =>
      exact ih _ (by simp [hb]) (Core.handle_rest { s with sig := rest } hb hrest g)

@[simp] theorem Core.settle_rest : s.settle.motion.AtRest := by
  simp_all [Core.settle]

end
end

/-! ### Commands that keep the cradle at rest under a BROKEN curtain -/

/-- The curtain's state stands, and under a BROKEN one a cradle at rest stays at rest. -/
@[simp] abbrev Core.Calm (s t : Core) : Prop :=
  t.panel.broken = s.panel.broken ∧ (s.panel.broken = true → s.motion.AtRest → t.motion.AtRest)

theorem Core.Calm.refl (s : Core) : Core.Calm s s := ⟨rfl, fun _ hrest => hrest⟩

theorem Core.Calm.trans {s t u : Core} (h : Core.Calm s t) (k : Core.Calm t u) : Core.Calm s u := by
  obtain ⟨hpanel, hrest⟩ := h
  obtain ⟨kpanel, krest⟩ := k
  exact ⟨kpanel.trans hpanel, fun hb hs => krest (hpanel.trans hb) (hrest hb hs)⟩

theorem Core.Calm.still {s t : Core} (h : Core.Calm s t) (hs : s.Still) : t.Still := by
  obtain ⟨hpanel, hrest⟩ := h
  intro hb
  rw [hpanel] at hb
  exact hrest hb (hs hb)

section
variable (s : Core)

theorem Core.settle_calm : Core.Calm s s.settle := ⟨by simp, s.settle_rest⟩

/-- RESUME is not answered DONE under a BROKEN curtain (R152). -/
theorem Core.resumeAnswer_of_broken (hb : s.panel.broken = true) : s.resumeAnswer ≠ .done := by
  unfold Core.resumeAnswer Core.resumeTests
  simp only [hb, if_true]
  split
  · split <;> simp
  · simp

/-! ### The volume table -/

@[simp] theorem Core.classSet_calm (id cls : Nat) (m : Mask) (x : ClassFields) :
    Core.Calm s (s.classSet id cls m x) := by
  unfold Core.classSet
  dsimp only
  (repeat' split) <;> simp +contextual

@[simp] theorem Core.volumeAdd_calm (id : Nat) (shelf : List Byte) (cls budget : Nat) (m : Mask) (p : Nat)
    (segs : List SegmentSpec) :
    Core.Calm s (s.volumeAdd id shelf cls budget m p segs) := by
  unfold Core.volumeAdd
  dsimp only
  (repeat' split) <;> simp +contextual

@[simp] theorem Core.mount_calm (i : Fin 16) (cursor : Nat) : Core.Calm s (s.mount i cursor) := by
  simp +contextual [Core.mount]

@[simp] theorem Core.volumeMount_calm (id slot : Nat) (m : Mask) (start angle : Nat) :
    Core.Calm s (s.volumeMount id slot m start angle) := by
  unfold Core.volumeMount
  dsimp only
  (repeat' split) <;> simp +contextual

@[simp] theorem Core.endMounting_calm : Core.Calm s s.endMounting := by
  simp +contextual [Core.endMounting]

@[simp] theorem Core.leaveFor_calm (i : Fin 16) (st : RecordState) : Core.Calm s (s.leaveFor i st) := by
  unfold Core.leaveFor
  dsimp only
  (repeat' split) <;> simp +contextual

@[simp] theorem Core.volumeUnmount_calm (id slot : Nat) : Core.Calm s (s.volumeUnmount id slot) := by
  unfold Core.volumeUnmount
  (repeat' split) <;> simp +contextual

@[simp] theorem Core.volumeClose_calm (id slot : Nat) (force : Bool) : Core.Calm s (s.volumeClose id slot force) := by
  unfold Core.volumeClose
  dsimp only
  (repeat' split) <;> simp +contextual

@[simp] theorem Core.volumeWithdraw_calm (id slot : Nat) : Core.Calm s (s.volumeWithdraw id slot) := by
  unfold Core.volumeWithdraw
  (repeat' split) <;> simp +contextual

@[simp] theorem Core.volumeRemove_calm (id slot : Nat) : Core.Calm s (s.volumeRemove id slot) := by
  unfold Core.volumeRemove
  (repeat' split) <;> simp +contextual

@[simp] theorem Core.volumeSet_calm (id slot : Nat) (m : Mask) (budget p cls : Nat) (segs : List SegmentSpec) :
    Core.Calm s (s.volumeSet id slot m budget p cls segs) := by
  unfold Core.volumeSet
  dsimp only
  (repeat' split) <;> simp +contextual

@[simp] theorem Core.volumeGet_calm (id slot : Nat) (m : Mask) (start : Nat) :
    Core.Calm s (s.volumeGet id slot m start) := by
  unfold Core.volumeGet
  (repeat' split) <;> simp +contextual

@[simp] theorem Core.revisit_calm (k : Nat) : Core.Calm s (s.revisit k) := by
  simp +contextual [Core.revisit]

@[simp] theorem Core.cursorSet_calm (id opening : Nat) : Core.Calm s (s.cursorSet id opening) := by
  unfold Core.cursorSet
  dsimp only
  (repeat' split) <;> simp +contextual

@[simp] theorem Core.exceptionsTake_calm (id slot n : Nat) : Core.Calm s (s.exceptionsTake id slot n) := by
  unfold Core.exceptionsTake
  (repeat' split) <;> simp +contextual

/-! ### Light -/

@[simp] theorem Core.lightStage_calm (id : Nat) (m : Mask) (x : Setting) : Core.Calm s (s.lightStage id m x) := by
  unfold Core.lightStage
  dsimp only
  (repeat' split) <;> simp +contextual

@[simp] theorem Core.limitsSet_calm (id eOp : Nat) : Core.Calm s (s.limitsSet id eOp) := by
  simp +contextual [Core.limitsSet]

@[simp] theorem Core.lampsCalibrate_calm (id : Nat) (m : Mask) (x : LampCal) :
    Core.Calm s (s.lampsCalibrate id m x) := by
  unfold Core.lampsCalibrate
  dsimp only
  (repeat' split) <;> simp +contextual

@[simp] theorem Core.calibrationFlash_calm (id : Nat) : Core.Calm s (s.calibrationFlash id) := by
  unfold Core.calibrationFlash
  (repeat' split) <;> simp +contextual

@[simp] theorem Core.viewOn_calm (id : Nat) : Core.Calm s (s.viewOn id) := by
  unfold Core.viewOn
  dsimp only
  (repeat' split) <;> simp +contextual

@[simp] theorem Core.viewOff_calm (id : Nat) : Core.Calm s (s.viewOff id) := by
  simp +contextual [Core.viewOff]

@[simp] theorem Core.lampOffEvent_calm (window : Option Int) : Core.Calm s (s.lampOffEvent window) := by
  unfold Core.lampOffEvent
  dsimp only
  (repeat' split) <;> simp +contextual

@[simp] theorem Core.recoveryOver_calm : Core.Calm s s.recoveryOver := by
  unfold Core.recoveryOver
  (repeat' split) <;> simp +contextual

@[simp] theorem Core.thermalWaitOver_calm : Core.Calm s s.thermalWaitOver := by
  unfold Core.thermalWaitOver
  (repeat' split) <;> simp +contextual

@[simp] theorem Core.periodOver_calm : Core.Calm s s.periodOver := by
  unfold Core.periodOver
  (repeat' split) <;> simp +contextual

/-! ### The converter -/

@[simp] theorem Core.startTimer_calm (was : Option CalPair) (ch : Channel) : Core.Calm s (s.startTimer was ch) := by
  unfold Core.startTimer
  (repeat' split) <;> simp +contextual

@[simp] theorem Core.calibrate_calm (id channel : Nat) (m : Mask) (x : CalPair) :
    Core.Calm s (s.calibrate id channel m x) := by
  unfold Core.calibrate
  dsimp only
  (repeat' split) <;> simp +contextual

@[simp] theorem Core.measureChannel_calm (id channel : Nat) : Core.Calm s (s.measureChannel id channel) := by
  unfold Core.measureChannel
  (repeat' split) <;> simp +contextual

@[simp] theorem Core.spotArrives_calm (code : Int) : Core.Calm s (s.spotArrives code) := by
  unfold Core.spotArrives
  (repeat' split) <;> simp +contextual

@[simp] theorem Core.conversionPasses_calm : Core.Calm s s.conversionPasses := by
  unfold Core.conversionPasses
  (repeat' split) <;> simp +contextual

@[simp] theorem Core.tempTick_calm : Core.Calm s s.tempTick := by
  unfold Core.tempTick
  (repeat' split) <;> simp +contextual

/-! ### The cradle -/

@[simp] theorem Core.home_calm (id : Nat) : Core.Calm s (s.home id) := by
  refine ⟨?_, fun hb hrest => ?_⟩
  · unfold Core.home
    (repeat' split) <;> simp [Core.beginHoming, Core.enterPhase]
  · simpa [Core.home, hb] using hrest

@[simp] theorem Core.angleSet_calm (id degrees : Nat) : Core.Calm s (s.angleSet id degrees) := by
  unfold Core.angleSet
  dsimp only
  (repeat' split) <;> simp +contextual

@[simp] theorem Core.homingStep_calm : Core.Calm s s.homingStep := by
  refine ⟨?_, fun _ hrest => ?_⟩
  · unfold Core.homingStep
    split <;> simp
  · obtain ⟨-, -, -, hnone⟩ := id hrest
    simpa only [Core.homingStep, hnone] using hrest

@[simp] theorem Core.homingLimit_calm : Core.Calm s s.homingLimit := by
  refine ⟨?_, fun _ hrest => ?_⟩
  · unfold Core.homingLimit
    (repeat' split) <;> simp
  · obtain ⟨-, -, -, hnone⟩ := id hrest
    simpa only [Core.homingLimit, hnone] using hrest

@[simp] theorem Core.angleArrives_calm : Core.Calm s s.angleArrives := by
  unfold Core.angleArrives
  (repeat' split) <;> simp +contextual

@[simp] theorem Core.anglePasses_calm : Core.Calm s s.anglePasses := by
  unfold Core.anglePasses
  dsimp only
  (repeat' split) <;> simp +contextual

@[simp] theorem Core.sampleDue_calm : Core.Calm s s.sampleDue := by
  unfold Core.sampleDue
  (repeat' split) <;> simp +contextual

@[simp] theorem Core.settled_calm : Core.Calm s s.settled := by
  unfold Core.settled
  (repeat' split) <;> simp +contextual

@[simp] theorem Core.loweringPasses_calm : Core.Calm s s.loweringPasses := by
  unfold Core.loweringPasses
  dsimp only
  (repeat' split) <;> simp +contextual

@[simp] theorem Core.cupLands_calm : Core.Calm s s.cupLands := by
  unfold Core.cupLands
  (repeat' split) <;> simp +contextual

@[simp] theorem Core.puffOver_calm : Core.Calm s s.puffOver := by
  unfold Core.puffOver
  (repeat' split) <;> simp +contextual

@[simp] theorem Core.noVacuum_calm : Core.Calm s s.noVacuum := by
  unfold Core.noVacuum
  (repeat' split) <;> simp +contextual

@[simp] theorem Core.vacuumFalls_calm : Core.Calm s s.vacuumFalls := by
  unfold Core.vacuumFalls
  dsimp only
  (repeat' split) <;> simp +contextual

@[simp] theorem Core.leafIsUp_calm : Core.Calm s s.leafIsUp := by
  unfold Core.leafIsUp
  (repeat' split) <;> simp +contextual

@[simp] theorem Core.putDownOver_calm : Core.Calm s s.putDownOver := by
  unfold Core.putDownOver
  dsimp only
  (repeat' split) <;> simp +contextual

@[simp] theorem Core.sweepEnds_calm : Core.Calm s s.sweepEnds := by
  unfold Core.sweepEnds
  (repeat' split) <;> simp +contextual

@[simp] theorem Core.releaseEnds_calm : Core.Calm s s.releaseEnds := by
  unfold Core.releaseEnds
  (repeat' split) <;> simp +contextual

@[simp] theorem Core.armParks_calm : Core.Calm s s.armParks := by
  unfold Core.armParks
  (repeat' split) <;> simp +contextual

@[simp] theorem Core.armPasses_calm : Core.Calm s s.armPasses := by
  unfold Core.armPasses
  (repeat' split) <;> simp +contextual

/-! ### The cameras -/

@[simp] theorem Core.captureDrain_calm (id n : Nat) : Core.Calm s (s.captureDrain id n) := by
  unfold Core.captureDrain
  dsimp only
  (repeat' split) <;> simp +contextual

@[simp] theorem Core.capturePeek_calm (id n : Nat) : Core.Calm s (s.capturePeek id n) := by
  unfold Core.capturePeek
  (repeat' split) <;> simp +contextual

@[simp] theorem Core.framesSet_calm (id ms : Nat) : Core.Calm s (s.framesSet id ms) := by
  simp +contextual [Core.framesSet]

@[simp] theorem Core.tryCameras_calm : Core.Calm s s.tryCameras := by
  unfold Core.tryCameras
  (repeat' split) <;> simp +contextual

@[simp] theorem Core.cameraLines_calm (k : Camera) (ready fault : Bool) :
    Core.Calm s (s.cameraLines k ready fault) := by
  simp +contextual [Core.cameraLines]

@[simp] theorem Core.cameraWaitOver_calm : Core.Calm s s.cameraWaitOver := by
  unfold Core.cameraWaitOver
  (repeat' split) <;> simp +contextual

@[simp] theorem Core.timeOutCamera_calm (k : Camera) : Core.Calm s (s.timeOutCamera k) := by
  unfold Core.timeOutCamera
  (repeat' split) <;> simp +contextual

@[simp] theorem Core.framesOver_calm : Core.Calm s s.framesOver := by
  unfold Core.framesOver
  (repeat' split) <;> simp +contextual

/-! ### Steps and faults -/

@[simp] theorem Core.appendStep_calm (origin : Origin) (w : StepWork) (gate : Option Guard) :
    Core.Calm s (s.appendStep origin w gate) := by
  simp +contextual [Core.appendStep]

@[simp] theorem Core.startIfIdle_calm : Core.Calm s s.startIfIdle := by
  unfold Core.startIfIdle
  (repeat' split) <;> simp +contextual

@[simp] theorem Core.stepQueue_calm (id : Nat) (w : StepSpec) (g : Option GuardSpec) :
    Core.Calm s (s.stepQueue id w g) := by
  unfold Core.stepQueue
  (repeat' split) <;> simp +contextual

@[simp] theorem Core.stopSet_calm (id step opening : Nat) : Core.Calm s (s.stopSet id step opening) := by
  unfold Core.stopSet
  dsimp only
  (repeat' split) <;> simp +contextual

@[simp] theorem Core.resume_calm (id : Nat) : Core.Calm s (s.resume id) := by
  unfold Core.resume
  dsimp only
  split
  next hdone => exact ⟨by simp, fun hb => absurd hdone (s.resumeAnswer_of_broken hb)⟩
  next => simp +contextual

@[simp] theorem Core.stepFlush_calm (id : Nat) : Core.Calm s (s.stepFlush id) := by
  simp +contextual [Core.stepFlush]

@[simp] theorem Core.pauseOver_calm : Core.Calm s s.pauseOver := by
  unfold Core.pauseOver
  (repeat' split) <;> simp +contextual

@[simp] theorem Core.clearAll_calm (id : Nat) : Core.Calm s (s.clearAll id) := by
  unfold Core.clearAll
  dsimp only
  (repeat' split) <;> simp +contextual

@[simp] theorem Core.clearKind_calm (id : Nat) (k : FaultKind) : Core.Calm s (s.clearKind id k) := by
  unfold Core.clearKind
  dsimp only
  (repeat' split) <;> simp +contextual

@[simp] theorem Core.faultClear_calm (id code : Nat) : Core.Calm s (s.faultClear id code) := by
  unfold Core.faultClear
  (repeat' split) <;> simp +contextual

/-! ### The panel -/

@[simp] theorem Core.setInput_calm (i : PanelInput) (x : InputState) : Core.Calm s (s.setInput i x) := by
  simp +contextual [Core.setInput]

@[simp] theorem Core.setPressed_calm (i : PanelInput) : Core.Calm s (s.setPressed i) := by
  simp +contextual [Core.setPressed]

@[simp] theorem Core.tone_calm : Core.Calm s s.tone := by
  simp +contextual [Core.tone]

@[simp] theorem Core.reportPress_calm (i : PanelInput) (a : PanelAction) : Core.Calm s (s.reportPress i a) :=
  .refl _

@[simp] theorem Core.queueByPanel_calm (i : PanelInput) (w : StepWork) : Core.Calm s (s.queueByPanel i w) :=
  (Core.Calm.trans (s.appendStep_calm .panel w none) (Core.reportPress_calm _ _ _)).trans (Core.startIfIdle_calm _)

@[simp] theorem Core.pressContinue_calm (i : PanelInput) : Core.Calm s (s.pressContinue i) := by
  unfold Core.pressContinue
  dsimp only
  split
  next hdone =>
    exact ⟨by simp [Core.reportPress, Core.clearVacuum], fun hb => absurd hdone (Core.resumeAnswer_of_broken _ hb)⟩
  next => exact .refl _

@[simp] theorem Core.pressAdvance_calm : Core.Calm s s.pressAdvance := by
  unfold Core.pressAdvance
  (repeat' split) <;> simp +contextual

@[simp] theorem Core.pressRetake_calm : Core.Calm s s.pressRetake := by
  unfold Core.pressRetake
  (repeat' split) <;> simp +contextual

@[simp] theorem Core.pressTurned_calm : Core.Calm s s.pressTurned := by
  unfold Core.pressTurned
  dsimp only
  (repeat' split) <;> simp +contextual [Core.reportPress]

@[simp] theorem Core.pressBack_calm : Core.Calm s s.pressBack := by
  unfold Core.pressBack
  (repeat' split) <;> simp +contextual [Core.reportPress]

@[simp] theorem Core.pressHold_calm : Core.Calm s s.pressHold := by
  simp +contextual [Core.pressHold, Core.reportPress]

theorem Core.pressAction_calm (i : PanelInput) : Core.Calm s (s.pressAction i) := by
  cases i with
  | advance => exact s.pressAdvance_calm
  | retake => exact s.pressRetake_calm
  | turned => exact s.pressTurned_calm
  | back => exact s.pressBack_calm
  | hold => exact s.pressHold_calm
  | cont => exact s.pressContinue_calm .cont

theorem Core.press_calm (i : PanelInput) : Core.Calm s (s.press i) := by
  unfold Core.press
  split
  · exact (s.setPressed_calm i).trans (Core.pressAction_calm _ i)
  · exact .refl _

@[simp] theorem Core.releaseInput_calm (i : PanelInput) : Core.Calm s (s.releaseInput i) := by
  unfold Core.releaseInput
  dsimp only
  (repeat' split) <;> simp +contextual

@[simp] theorem Core.settleInput_calm (i : PanelInput) : Core.Calm s (s.settleInput i) := by
  unfold Core.settleInput
  dsimp only
  (repeat' split) <;> simp +contextual

@[simp] theorem Core.inputLevel_calm (i : PanelInput) (pressed : Bool) : Core.Calm s (s.inputLevel i pressed) := by
  unfold Core.inputLevel
  dsimp only
  (repeat' split) <;> simp +contextual

theorem Core.measureInput_calm (i : PanelInput) : Core.Calm s (s.measureInput i) :=
  (((s.settleInput_calm i).trans (Core.releaseInput_calm _ i)).trans (Core.press_calm _ i)).trans (Core.settle_calm _)

theorem Core.measureInputs_calm (is : List PanelInput) : Core.Calm s (is.foldl Core.measureInput s) := by
  induction is generalizing s with
  | nil => exact .refl _
  | cons i is ih => exact (s.measureInput_calm i).trans (ih _)

theorem Core.panelSet_calm (id ms : Nat) : Core.Calm s (s.panelSet id ms) := by
  unfold Core.panelSet
  dsimp only
  generalize panelInputs = is
  split
  · have hset : Core.Calm s ({ s with panel := { s.panel with debounce := ms } }.reply id .done (.debounce ms)) :=
      .refl _
    exact hset.trans (Core.measureInputs_calm _ is)
  · exact .refl _

@[simp] theorem Core.toneOver_calm : Core.Calm s s.toneOver := by
  unfold Core.toneOver
  (repeat' split) <;> simp +contextual

/-! ### Counters and time -/

@[simp] theorem Core.bandsSet_calm (id t1 t2 t3 t4 : Nat) : Core.Calm s (s.bandsSet id t1 t2 t3 t4) := by
  unfold Core.bandsSet
  dsimp only
  (repeat' split) <;> simp +contextual

@[simp] theorem Core.depthSample_calm : Core.Calm s s.depthSample := by
  unfold Core.depthSample
  (repeat' split) <;> simp +contextual

@[simp] theorem Core.tick_calm : Core.Calm s s.tick := by
  unfold Core.tick
  dsimp only
  (repeat' split) <;> simp +contextual

/-! ### The curtain -/

/-- The platen stopped where it moves (R109). -/
def Core.haltPlaten (s : Core) : Core :=
  match s.motion.platen with
  | .moving m => s.dropForce.setPlaten (.stopped m)
  | _ => s

/-- The angle stopped where it moves (R109). -/
def Core.haltAngle (s : Core) : Core :=
  match s.motion.angle with
  | .moving => s.angleStopped.setAngle .stopped
  | _ => s

/-- The arm stopped where it moves, with a loss of the leaf found at the stop (R107, R109). -/
def Core.haltArm (s : Core) : Core :=
  match s.motion.arm with
  | .moving m =>
    let s := s.dropGauge.setArm (.stopped m .curtain) s.motion.stage
    if m = .sweeping ∧ s.motion.vacuumAt = false then s.vacuumLoss 2 else s
  | _ => s

/-- A break at the motion unit: the homing broken off, the puff cut off and the three axes stopped, before what waited
for the angle is taken (R109). -/
theorem Core.motionBreak_eq : s.motionBreak =
    (Core.haltArm (Core.haltAngle (Core.haltPlaten
      { s.breakHoming .interlock with
        motion := { (s.breakHoming .interlock).motion with puff := none } }))).takeHeld := by
  have htake (x : Core) : x.haltArm.takeHeld =
      match x.motion.arm with
      | .moving m =>
        let y := x.dropGauge.setArm (.stopped m .curtain) x.motion.stage
        (if m = .sweeping ∧ y.motion.vacuumAt = false then y.vacuumLoss 2 else y).takeHeld
      | _ => x.takeHeld := by
    unfold Core.haltArm
    split <;> rfl
  rw [htake]
  rfl

theorem Core.haltPlaten_keeps : s.haltPlaten.panel = s.panel ∧ s.haltPlaten.motion.platen.inMotion = false
    ∧ s.haltPlaten.motion.homing = s.motion.homing := by
  unfold Core.haltPlaten
  split
  · simp
  next h =>
    cases hp : s.motion.platen with
    | moving m => exact absurd hp (h m)
    | _ => simp

theorem Core.angleStopped_keeps : s.angleStopped.motion.platen = s.motion.platen
    ∧ s.angleStopped.motion.arm = s.motion.arm ∧ s.angleStopped.motion.homing = s.motion.homing := by
  unfold Core.angleStopped
  split <;> simp

theorem Core.haltAngle_keeps : s.haltAngle.panel = s.panel ∧ s.haltAngle.motion.platen = s.motion.platen
    ∧ s.haltAngle.motion.angle ≠ .moving ∧ s.haltAngle.motion.homing = s.motion.homing := by
  unfold Core.haltAngle
  split
  · simp [s.angleStopped_keeps]
  next h => exact ⟨rfl, rfl, h, rfl⟩

/-- Once platen and angle stand and no homing is in hand, the stop of the arm brings the cradle to rest. -/
theorem Core.haltArm_rest (hb : s.panel.broken = true) (hplaten : s.motion.platen.inMotion = false)
    (hangle : s.motion.angle ≠ .moving) (hhoming : s.motion.homing = none) :
    s.haltArm.panel.broken = true ∧ s.haltArm.motion.AtRest := by
  unfold Core.haltArm
  split
  next m _ =>
    have hstop : (s.dropGauge.setArm (.stopped m .curtain) s.motion.stage).motion.AtRest := by
      simp [hplaten, hangle, hhoming]
    dsimp only
    split
    · exact ⟨by simp [hb], Core.vacuumLoss_rest _ (by simp [hb]) hstop 2⟩
    · exact ⟨by simp [hb], hstop⟩
  next h =>
    refine ⟨hb, hplaten, hangle, ?_, hhoming⟩
    cases ha : s.motion.arm with
    | moving m => exact absurd ha (h m)
    | _ => simp

/-- A break stops what moves and breaks a homing off (R95, R109). -/
theorem Core.motionBreak_rest (hb : s.panel.broken = true) : s.motionBreak.motion.AtRest := by
  rw [Core.motionBreak_eq]
  generalize hx : ({ s.breakHoming .interlock with
    motion := { (s.breakHoming .interlock).motion with puff := none } } : Core) = x
  have hxb : x.panel.broken = true := by simp [← hx, hb]
  have hxh : x.motion.homing = none := by simp [← hx, Core.breakHoming_homing]
  obtain ⟨hpanel, hplaten, hhoming⟩ := x.haltPlaten_keeps
  obtain ⟨hpanel', hplaten', hangle, hhoming'⟩ := x.haltPlaten.haltAngle_keeps
  obtain ⟨hbroken, hrest⟩ := Core.haltArm_rest x.haltPlaten.haltAngle (by rw [hpanel', hpanel, hxb])
    (by rw [hplaten', hplaten]) hangle (by rw [hhoming', hhoming, hxh])
  exact Core.takeHeld_rest _ hbroken hrest

theorem Core.curtainBreaks_still (hs : s.Still) : s.curtainBreaks.Still := by
  unfold Core.curtainBreaks
  split
  · exact hs
  · intro _
    dsimp only
    simpa using Core.motionBreak_rest _ (by simp)

theorem Core.curtainClears_still (hs : s.Still) : s.curtainClears.Still := by
  unfold Core.curtainClears
  split
  · split
    · intro hb
      simp at hb
    · exact hs
  · exact hs

theorem Core.rawCurtain_still (interrupted : Bool) (hs : s.Still) : (s.rawCurtain interrupted).Still := by
  unfold Core.rawCurtain
  split
  · (repeat' split) <;> exact hs
  · split
    · exact s.curtainBreaks_still hs
    · exact hs

/-! ### The station reset -/

@[simp] theorem Core.keepDose_motion (p : Core × DoseRecord) : (Core.keepDose p).motion = p.1.motion := by
  unfold Core.keepDose
  split <;> rfl

@[simp] theorem Core.resetClosing_motion : s.resetClosing.motion = s.motion := by
  unfold Core.resetClosing
  (repeat' split) <;> simp

@[simp] theorem Core.resetFlash_motion : s.resetFlash.motion = s.motion := by
  unfold Core.resetFlash
  split
  · dsimp only
    split <;> simp
  · rfl

@[simp] theorem Core.resetIllum_motion : s.resetIllum.motion = s.motion := by
  simp [Core.resetIllum]

@[simp] theorem Core.resetCapture_motion : s.resetCapture.motion = s.motion := by
  unfold Core.resetCapture
  dsimp only
  (repeat' split) <;> simp

/-- A station reset leaves every axis UNREFERENCED and no homing in hand (R114). -/
theorem Core.resetMotion_rest : s.resetMotion.motion.AtRest := by
  simp [Core.resetMotion]

theorem Core.stationReset_calm : Core.Calm s s.stationReset := by
  refine ⟨by simp [s.stationReset_kept], fun _ _ => ?_⟩
  have hrest := Core.resetMotion_rest ({ s with faults := [], first := none }.resetIllum.resetCapture)
  have hmeasure := Core.resetMeasure_workKeeps
    ({ s with faults := [], first := none }.resetIllum.resetCapture.resetMotion)
  have hseq := Core.resetSequencer_ends
    ({ s with faults := [], first := none }.resetIllum.resetCapture.resetMotion.resetMeasure)
  simpa only [Core.stationReset, hseq.1, hmeasure.2] using hrest

end

/-! ### Every command -/

section
variable (s : State)

theorem State.run_still (f : Core → Core) (h : ∀ c : Core, c.Still → (f c).Still) (hs : s.core.Still) :
    (s.run f).core.Still :=
  (Core.settle_calm (f { s.core with out := [], sig := [] })).still (h _ hs)

theorem State.event_still (us : Nat) (f : Core → Core) (h : ∀ c : Core, c.Still → (f c).Still) (hs : s.core.Still) :
    (s.event us f).core.Still := s.run_still _ (fun c hc => h (c.atUs us) hc) hs

theorem State.accept_still (us : Nat) (kind tag : Byte) (owner : Nat → State → State)
    (h : ∀ id t, t.core.Still → (owner id t).core.Still) (hs : s.core.Still) :
    (s.accept us kind tag owner).core.Still := by
  unfold State.accept
  dsimp only
  split
  · exact hs
  · split
    · exact hs
    · exact h _ _ hs

theorem State.request_still (q : Req) (kind : Byte) (owner : Nat → State → State)
    (h : ∀ id t, t.core.Still → (owner id t).core.Still) (hs : s.core.Still) :
    (s.request q kind owner).core.Still := by
  refine s.accept_still _ _ _ _ (fun id t ht => ?_) hs
  split
  · exact h id t ht
  · exact t.run_still _ (fun _ hc => hc) ht

theorem State.ask_still (q : Req) (kind : Byte) (f : Nat → Core → Core)
    (h : ∀ id (c : Core), c.Still → (f id c).Still) (hs : s.core.Still) : (s.ask q kind f).core.Still :=
  s.request_still q kind _ (fun id t ht => t.run_still (f id) (h id) ht) hs

end

section
variable (s : State) (hs : s.core.Still)
include hs

theorem State.run_calm (f : Core → Core) (h : ∀ c, Core.Calm c (f c)) : (s.run f).core.Still :=
  s.run_still f (fun c => (h c).still) hs

theorem State.event_calm (us : Nat) (f : Core → Core) (h : ∀ c, Core.Calm c (f c)) : (s.event us f).core.Still :=
  s.event_still us f (fun c => (h c).still) hs

theorem State.ask_calm (q : Req) (kind : Byte) (f : Nat → Core → Core) (h : ∀ id c, Core.Calm c (f id c)) :
    (s.ask q kind f).core.Still := s.ask_still q kind f (fun id c => (h id c).still) hs

end

/-- Every command answers a next state, and keeps the cradle still while the curtain is BROKEN. -/
theorem exec_keeps_still (c : Instr) (s : State) (hs : s.core.Still) : ∃ t, exec c s = .next t ∧ t.core.Still := by
  cases c with
  | powerOn => exact ⟨_, rfl, fun _ => ⟨rfl, nofun, rfl, rfl⟩⟩
  | identify q => exact ⟨_, rfl, s.ask_calm hs _ _ _ fun _ c => .refl c⟩
  | linkStatus q clear =>
    refine ⟨_, rfl, s.request_still _ _ _ (fun id t ht => ?_) hs⟩
    cases clear <;> exact State.run_calm _ ht _ fun c => .refl c
  | statusGet q =>
    refine ⟨_, rfl, s.request_still _ _ _ (fun id t ht => t.run_calm ht _ fun c => ?_) hs⟩
    unfold Core.countShown
    split <;> exact .refl c
  | stationReset q => exact ⟨_, rfl, s.ask_calm hs _ _ _ fun _ c => c.stationReset_calm⟩
  | linkReset q => exact ⟨_, rfl, s.request_still _ _ _ (fun _ _ ht => State.run_calm _ ht _ fun c => .refl c) hs⟩
  | classSet q n m x => exact ⟨_, rfl, s.ask_calm hs _ _ _ fun id c => c.classSet_calm ..⟩
  | volumeAdd q shelf cls b m p segs => exact ⟨_, rfl, s.ask_calm hs _ _ _ fun id c => c.volumeAdd_calm ..⟩
  | volumeMount q n m k a => exact ⟨_, rfl, s.ask_calm hs _ _ _ fun id c => c.volumeMount_calm ..⟩
  | volumeUnmount q n => exact ⟨_, rfl, s.ask_calm hs _ _ _ fun id c => c.volumeUnmount_calm ..⟩
  | volumeClose q n force => exact ⟨_, rfl, s.ask_calm hs _ _ _ fun id c => c.volumeClose_calm ..⟩
  | volumeWithdraw q n => exact ⟨_, rfl, s.ask_calm hs _ _ _ fun id c => c.volumeWithdraw_calm ..⟩
  | volumeRemove q n => exact ⟨_, rfl, s.ask_calm hs _ _ _ fun id c => c.volumeRemove_calm ..⟩
  | volumeSet q n m b p cls segs => exact ⟨_, rfl, s.ask_calm hs _ _ _ fun id c => c.volumeSet_calm ..⟩
  | volumeGet q n m k => exact ⟨_, rfl, s.ask_calm hs _ _ _ fun id c => c.volumeGet_calm ..⟩
  | cursorSet q k => exact ⟨_, rfl, s.ask_calm hs _ _ _ fun id c => c.cursorSet_calm ..⟩
  | exceptionsTake q n k => exact ⟨_, rfl, s.ask_calm hs _ _ _ fun id c => c.exceptionsTake_calm ..⟩
  | lightStage q m x => exact ⟨_, rfl, s.ask_calm hs _ _ _ fun id c => c.lightStage_calm ..⟩
  | limitsSet q e => exact ⟨_, rfl, s.ask_calm hs _ _ _ fun id c => c.limitsSet_calm ..⟩
  | lampsCalibrate q m x => exact ⟨_, rfl, s.ask_calm hs _ _ _ fun id c => c.lampsCalibrate_calm ..⟩
  | calibrationFlash q => exact ⟨_, rfl, s.ask_calm hs _ _ _ fun id c => c.calibrationFlash_calm ..⟩
  | viewOn q => exact ⟨_, rfl, s.ask_calm hs _ _ _ fun id c => c.viewOn_calm ..⟩
  | viewOff q => exact ⟨_, rfl, s.ask_calm hs _ _ _ fun id c => c.viewOff_calm ..⟩
  | calibrate q ch m x y => exact ⟨_, rfl, s.ask_calm hs _ _ _ fun id c => c.calibrate_calm ..⟩
  | measure q ch => exact ⟨_, rfl, s.ask_calm hs _ _ _ fun id c => c.measureChannel_calm ..⟩
  | home q => exact ⟨_, rfl, s.ask_calm hs _ _ _ fun id c => c.home_calm ..⟩
  | angleSet q d => exact ⟨_, rfl, s.ask_calm hs _ _ _ fun id c => c.angleSet_calm ..⟩
  | captureDrain q n => exact ⟨_, rfl, s.ask_calm hs _ _ _ fun id c => c.captureDrain_calm ..⟩
  | capturePeek q n => exact ⟨_, rfl, s.ask_calm hs _ _ _ fun id c => c.capturePeek_calm ..⟩
  | framesSet q ms => exact ⟨_, rfl, s.ask_calm hs _ _ _ fun id c => c.framesSet_calm ..⟩
  | stepQueue q w g => exact ⟨_, rfl, s.ask_calm hs _ _ _ fun id c => c.stepQueue_calm ..⟩
  | stopSet q k n => exact ⟨_, rfl, s.ask_calm hs _ _ _ fun id c => c.stopSet_calm ..⟩
  | halt q => exact ⟨_, rfl, s.ask_calm hs _ _ _ fun id c => by simp +contextual⟩
  | abort q => exact ⟨_, rfl, s.ask_calm hs _ _ _ fun id c => by simp +contextual⟩
  | resume q => exact ⟨_, rfl, s.ask_calm hs _ _ _ fun id c => c.resume_calm ..⟩
  | stepFlush q => exact ⟨_, rfl, s.ask_calm hs _ _ _ fun id c => c.stepFlush_calm ..⟩
  | faultClear q k => exact ⟨_, rfl, s.ask_calm hs _ _ _ fun id c => c.faultClear_calm ..⟩
  | faultClearAll q => exact ⟨_, rfl, s.ask_calm hs _ _ _ fun id c => c.clearAll_calm ..⟩
  | panelSet q ms => exact ⟨_, rfl, s.ask_calm hs _ _ _ fun id c => c.panelSet_calm ..⟩
  | counterSet q n m en e th inv edge =>
    refine ⟨_, rfl, s.request_still _ _ _ (fun id t ht => ?_) hs⟩
    unfold State.counterSet
    dsimp only
    (repeat' split) <;> exact State.run_calm _ ht _ fun c => .refl c
  | counterGet q m => exact ⟨_, rfl, s.request_still _ _ _ (fun _ _ ht => State.run_calm _ ht _ fun c => .refl c) hs⟩
  | bandsSet q t1 t2 t3 t4 => exact ⟨_, rfl, s.ask_calm hs _ _ _ fun id c => c.bandsSet_calm ..⟩
  | unknownKind us kind tag =>
    change ∃ t, execUnknownKind us kind tag s = .next t ∧ t.core.Still
    unfold execUnknownKind
    split
    · exact ⟨_, rfl, hs⟩
    · exact ⟨_, rfl, s.accept_still _ _ _ _ (fun _ t ht => t.run_calm ht _ fun c => .refl c) hs⟩
  | droppedRequest us kind tag =>
    change ∃ t, execDroppedRequest us kind tag s = .next t ∧ t.core.Still
    unfold execDroppedRequest
    split
    · exact ⟨_, rfl, s.accept_still _ _ _ _ (fun _ _ ht => ht) hs⟩
    · exact ⟨_, rfl, hs⟩
  | checkError us frame =>
    change ∃ t, execCheckError us frame s = .next t ∧ t.core.Still
    unfold execCheckError
    dsimp only
    split <;> exact ⟨_, rfl, hs⟩
  | fragment us bytes cause =>
    change ∃ t, execFragment us bytes cause s = .next t ∧ t.core.Still
    unfold execFragment
    dsimp only
    split
    · exact ⟨_, rfl, hs⟩
    · cases cause <;> exact ⟨_, rfl, hs⟩
  | interByteGap us bytes next =>
    change ∃ t, execInterByteGap us bytes next s = .next t ∧ t.core.Still
    unfold execInterByteGap
    dsimp only
    split <;> exact ⟨_, rfl, hs⟩
  | lineBreak us =>
    change ∃ t, execLineBreak us s = .next t ∧ t.core.Still
    unfold execLineBreak
    dsimp only
    split <;> exact ⟨_, rfl, hs⟩
  | frameSent us => exact ⟨_, rfl, hs⟩
  | advance us => exact ⟨_, rfl, s.event_calm hs us _ fun c => c.press_calm ..⟩
  | retakeKey us => exact ⟨_, rfl, s.event_calm hs us _ fun c => c.press_calm ..⟩
  | turnedKey us => exact ⟨_, rfl, s.event_calm hs us _ fun c => c.press_calm ..⟩
  | backKey us => exact ⟨_, rfl, s.event_calm hs us _ fun c => c.press_calm ..⟩
  | holdKey us => exact ⟨_, rfl, s.event_calm hs us _ fun c => c.press_calm ..⟩
  | continueKey us => exact ⟨_, rfl, s.event_calm hs us _ fun c => c.press_calm ..⟩
  | keyRelease us k => exact ⟨_, rfl, s.event_calm hs us _ fun c => c.releaseInput_calm ..⟩
  | curtainBroken us => exact ⟨_, rfl, s.event_still us _ (fun c hc => c.curtainBreaks_still hc) hs⟩
  | curtainClear us => exact ⟨_, rfl, s.event_still us _ (fun c hc => c.curtainClears_still hc) hs⟩
  | toneEnd us => exact ⟨_, rfl, s.event_calm hs us _ fun c => c.toneOver_calm ..⟩
  | spotResult us code => exact ⟨_, rfl, s.event_calm hs us _ fun c => c.spotArrives_calm ..⟩
  | conversionFault us => exact ⟨_, rfl, s.event_calm hs us _ fun c => c.conversionPasses_calm ..⟩
  | lateResultDiscarded us code => exact ⟨_, rfl, s.event_calm hs us _ fun c => .refl c⟩
  | tempTimer us => exact ⟨_, rfl, s.event_calm hs us _ fun c => c.tempTick_calm ..⟩
  | lampOff us w => exact ⟨_, rfl, s.event_calm hs us _ fun c => c.lampOffEvent_calm ..⟩
  | recoveryEnd us => exact ⟨_, rfl, s.event_calm hs us _ fun c => c.recoveryOver_calm ..⟩
  | thermalWaitExpiry us => exact ⟨_, rfl, s.event_calm hs us _ fun c => c.thermalWaitOver_calm ..⟩
  | viewPeriodEnd us => exact ⟨_, rfl, s.event_calm hs us _ fun c => c.periodOver_calm ..⟩
  | homingPhaseDone us => exact ⟨_, rfl, s.event_calm hs us _ fun c => c.homingStep_calm ..⟩
  | homingPhaseTimeout us => exact ⟨_, rfl, s.event_calm hs us _ fun c => c.homingLimit_calm ..⟩
  | angleReached us => exact ⟨_, rfl, s.event_calm hs us _ fun c => c.angleArrives_calm ..⟩
  | angleTimeout us => exact ⟨_, rfl, s.event_calm hs us _ fun c => c.anglePasses_calm ..⟩
  | platenSampleTimer us => exact ⟨_, rfl, s.event_calm hs us _ fun c => c.sampleDue_calm ..⟩
  | settlingEnd us => exact ⟨_, rfl, s.event_calm hs us _ fun c => c.settled_calm ..⟩
  | loweringTimeout us => exact ⟨_, rfl, s.event_calm hs us _ fun c => c.loweringPasses_calm ..⟩
  | platenUp us =>
    refine ⟨_, rfl, s.event_calm hs us _ fun c => ?_⟩
    split
    · simp +contextual
    · exact .refl c
  | raiseTimeout us =>
    refine ⟨_, rfl, s.event_calm hs us _ fun c => ?_⟩
    split
    · simp +contextual
    · exact .refl c
  | cupContact us => exact ⟨_, rfl, s.event_calm hs us _ fun c => c.cupLands_calm ..⟩
  | vacuumAtLevel us => exact ⟨_, rfl, s.event_calm hs us _ fun c => by simp +contextual⟩
  | puffEnd us => exact ⟨_, rfl, s.event_calm hs us _ fun c => c.puffOver_calm ..⟩
  | vacuumTimeout us => exact ⟨_, rfl, s.event_calm hs us _ fun c => c.noVacuum_calm ..⟩
  | vacuumBelow us => exact ⟨_, rfl, s.event_calm hs us _ fun c => c.vacuumFalls_calm ..⟩
  | leafRaised us => exact ⟨_, rfl, s.event_calm hs us _ fun c => c.leafIsUp_calm ..⟩
  | putDownDone us => exact ⟨_, rfl, s.event_calm hs us _ fun c => c.putDownOver_calm ..⟩
  | sweepArrived us => exact ⟨_, rfl, s.event_calm hs us _ fun c => c.sweepEnds_calm ..⟩
  | releaseDone us => exact ⟨_, rfl, s.event_calm hs us _ fun c => c.releaseEnds_calm ..⟩
  | armAtPark us => exact ⟨_, rfl, s.event_calm hs us _ fun c => c.armParks_calm ..⟩
  | armLimitExpiry us => exact ⟨_, rfl, s.event_calm hs us _ fun c => c.armPasses_calm ..⟩
  | cameraLineChange us k r f => exact ⟨_, rfl, s.event_calm hs us _ fun c => c.cameraLines_calm ..⟩
  | cameraWaitExpiry us => exact ⟨_, rfl, s.event_calm hs us _ fun c => c.cameraWaitOver_calm ..⟩
  | frameTimeout us => exact ⟨_, rfl, s.event_calm hs us _ fun c => c.framesOver_calm ..⟩
  | pauseEnd us => exact ⟨_, rfl, s.event_calm hs us _ fun c => c.pauseOver_calm ..⟩
  | queueDepthSample us => exact ⟨_, rfl, s.event_calm hs us _ fun c => c.depthSample_calm ..⟩
  | msTick => exact ⟨_, rfl, s.run_calm hs _ fun c => c.tick_calm⟩
  | rawCurtainInputChange us interrupted =>
    exact ⟨_, rfl, s.event_still us _ (fun c hc => c.rawCurtain_still interrupted hc) hs⟩
  | rawInputLevelChange us k x => exact ⟨_, rfl, s.event_calm hs us _ fun c => c.inputLevel_calm ..⟩
  | firstSettling us k => exact ⟨_, rfl, s.event_calm hs us _ fun c => c.settleInput_calm ..⟩
  | lineReturnToIdle us => exact ⟨_, rfl, hs⟩

/-- Settles O5: `exec_keeps_still`, and an empty queue changes nothing. -/
theorem stepKeepsStill : Obligations.StepKeepsStill := by
  intro s t hs ht
  unfold step at ht
  split at ht
  next => exact Host.Outcome.next.inj ht ▸ hs
  next c rest _ =>
    obtain ⟨u, hu, hstill⟩ := exec_keeps_still c { s with pending := rest } hs
    exact Host.Outcome.next.inj (hu.symm.trans ht) ▸ hstill

end Sys2Proof.Machine
end

section
/-! PROOF. FAULT_CLEAR and the conditions of the fault kinds (O55). -/

namespace Sys2Proof.Machine

/-! ### The entry of a kind -/

section
variable {k : FaultKind} {e : FaultEntry} {before after : List FaultEntry} (hk : e.kind = k)
  (hothers : ∀ x ∈ before ++ after, x.kind ≠ k)
include hk hothers

theorem findFault_only : findFault k (before ++ e :: after) = some e := by
  have hbefore : findFault k before = none := findFault_other fun x hx => hothers x (by simp [hx])
  unfold findFault at hbefore ⊢
  rw [List.find?_append, hbefore, List.find?_cons_of_pos (by simpa using hk)]
  rfl

theorem dropFault_only : dropFault k (before ++ e :: after) = before ++ after := by
  have hrest : dropFault k (before ++ after) = before ++ after := dropFault_other hothers
  unfold dropFault at hrest ⊢
  rw [List.filter_append, List.filter_cons_of_neg (by simpa using hk), ← List.filter_append, hrest]

theorem ackFault_only : ackFault k (before ++ e :: after) = before ++ { e with acked := true } :: after := by
  have hkeep (es : List FaultEntry) (h : ∀ x ∈ es, x.kind ≠ k) : ackFault k es = es := by
    refine (List.map_congr_left fun x hx => ?_).trans (List.map_id es)
    rw [if_neg (h x hx), id]
  have hbefore := hkeep before fun x hx => hothers x (by simp [hx])
  have hafter := hkeep after fun x hx => hothers x (by simp [hx])
  unfold ackFault at hbefore hafter ⊢
  rw [List.map_append, List.map_cons, hbefore, hafter, if_pos hk]

end

/-- An acknowledgement leaves what a FAULT_CLEAR reply says of an entry. -/
theorem clearedBody_acked (removed : List FaultKind) (before after : List FaultEntry) (e : FaultEntry) :
    clearedBody removed (before ++ { e with acked := true } :: after) =
      .cleared removed ((before ++ e :: after).map fun x => (x.kind, x.detail)) := by
  simp [clearedBody]

/-! ### The commands -/

section
variable {q : Req} {s : State} (hq : Taken q s)
include hq

/-- FAULT_CLEAR of one kind, by what it makes of the fault set and the reply it forms (R173). -/
theorem faultClear_kind {code : Nat} {k : FaultKind} {st : Status} {b : Body} {es : List FaultEntry}
    (hcode : faultKindCodes[code]? = some k)
    (h : ∀ c : Core, c.faults = s.core.faults → (∀ e, c.faultPresent e = s.core.faultPresent e) →
      c.clearKind s.link.nextEntry k = { c with faults := es }.reply s.link.nextEntry st b) :
    exec (.faultClear q code) s = .next (s.answered q 0x46 st b { s.found q.us with faults := es }) := by
  refine congrArg _ (State.ask_answered q 0x46 _ s st b _ hq ?_ rfl)
  simp only [Core.faultClear, hcode]
  exact h _ rfl fun _ => rfl

theorem faultClear_missing {code : Nat} {k : FaultKind} (hcode : faultKindCodes[code]? = some k)
    (h : ∀ e ∈ s.core.faults, e.kind ≠ k) :
    exec (.faultClear q code) s = .next (s.answered q 0x46 .notFound .empty (s.found q.us)) := by
  refine faultClear_kind hq hcode (es := s.core.faults) fun c hc _ => ?_
  rw [Core.clearKind, hc, findFault_other h, ← hc]

section
variable {code : Nat} {k : FaultKind} {e : FaultEntry} {before after : List FaultEntry}
  (hcode : faultKindCodes[code]? = some k) (hf : s.core.faults = before ++ e :: after) (hk : e.kind = k)
  (hothers : ∀ x ∈ before ++ after, x.kind ≠ k)
include hcode hf hk hothers

/-- FAULT_CLEAR of a kind whose condition has ended removes its entry (R173). -/
theorem faultClear_ended (he : s.core.faultPresent e = false) :
    exec (.faultClear q code) s = .next
      (s.answered q 0x46 .done (.cleared [k] ((before ++ after).map fun x => (x.kind, x.detail)))
        { s.found q.us with faults := before ++ after }) := by
  refine faultClear_kind hq hcode fun c hc hp => ?_
  rw [Core.clearKind, hc, hf, findFault_only hk hothers]
  dsimp only
  rw [if_neg (by rw [hp, he]; exact Bool.false_ne_true), dropFault_only hk hothers]
  rfl

/-- FAULT_CLEAR of a kind whose condition persists acknowledges its entry (R173, R174). -/
theorem faultClear_present (he : s.core.faultPresent e = true) :
    exec (.faultClear q code) s = .next
      (s.answered q 0x46 (.refused .stillPresent)
        (.cleared [] ((before ++ e :: after).map fun x => (x.kind, x.detail)))
        { s.found q.us with faults := before ++ { e with acked := true } :: after }) := by
  refine faultClear_kind hq hcode fun c hc hp => ?_
  rw [Core.clearKind, hc, hf, findFault_only hk hothers]
  dsimp only
  rw [if_pos (by rw [hp, he]), ackFault_only hk hothers, clearedBody_acked]

end

/-- FAULT_CLEAR of all kinds: the entries kept, and the kinds removed (R173, R174). -/
theorem faultClearAll_answered : exec (.faultClearAll q) s = .next
    (s.answered q 0x46 (if s.core.keptFaults = [] then .done else .refused .stillPresent)
      (clearedBody s.core.endedKinds s.core.keptFaults) { s.found q.us with faults := s.core.keptFaults }) :=
  congrArg _ (State.ask_answered q 0x46 _ s _ _ _ hq rfl rfl)

end

section
variable (s : Core)

theorem Core.keptFaults_body (removed : List FaultKind) : clearedBody removed s.keptFaults =
    .cleared removed ((s.faults.filter s.faultPresent).map fun e => (e.kind, e.detail)) := by
  simp only [clearedBody, Core.keptFaults, List.map_map]
  rfl

theorem Core.keptFaults_of_ended (h : ∀ e ∈ s.faults, s.faultPresent e = false) : s.keptFaults = [] := by
  have hnone : s.faults.filter s.faultPresent = [] := by simpa [List.filter_eq_nil_iff] using h
  rw [Core.keptFaults, hnone, List.map_nil]

theorem Core.endedKinds_of_ended (h : ∀ e ∈ s.faults, s.faultPresent e = false) :
    s.endedKinds = s.faults.map (·.kind) := by
  rw [Core.endedKinds, List.filter_eq_self.2 fun e he => by simp [h e he]]

theorem Core.faults_of_present (h : ∀ e ∈ s.faults, s.faultPresent e = true) :
    s.faults.filter s.faultPresent = s.faults ∧ s.endedKinds = [] := by
  have hnone : (s.faults.filter fun e => !s.faultPresent e) = [] := by simpa [List.filter_eq_nil_iff] using h
  exact ⟨List.filter_eq_self.2 h, by rw [Core.endedKinds, hnone, List.map_nil]⟩

theorem Core.keptFaults_ne_nil {e : FaultEntry} (he : e ∈ s.faults) (hp : s.faultPresent e = true) :
    s.keptFaults ≠ [] := by
  simp only [Core.keptFaults, ne_eq, List.map_eq_nil_iff, List.filter_eq_nil_iff, not_forall]
  exact ⟨e, he, by simp [hp]⟩

/-! ### The condition of each kind -/

variable (e : FaultEntry)

theorem Core.faultPresent_platenTimeout (h : e.kind = .platenTimeout) :
    s.faultPresent e = true ↔ s.motion.platen = .fault ∨ s.motion.platenFailed = true := by
  simp [Core.faultPresent, h]

theorem Core.faultPresent_platenForce (h : e.kind = .platenForce) :
    s.faultPresent e = true ↔ s.motion.forceRaise = true
      ∧ (s.motion.platen = .moving .raising ∨ s.motion.platen = .stopped .raising ∨ s.motion.platen = .fault) := by
  simp [Core.faultPresent, h, or_assoc]

theorem Core.faultPresent_armTimeout (h : e.kind = .armTimeout) :
    s.faultPresent e = true ↔ s.motion.arm = .fault ∨ s.motion.armFailed = true := by
  simp [Core.faultPresent, h]

theorem Core.faultPresent_angleTimeout (h : e.kind = .angleTimeout) :
    s.faultPresent e = true ↔ s.motion.angle = .fault ∨ s.motion.angleFailed = true := by
  simp [Core.faultPresent, h]

theorem Core.faultPresent_vacuumLost (h : e.kind = .vacuumLost) : s.faultPresent e = false := by
  simp [Core.faultPresent, h]

theorem CameraState.not_isReady (c : CameraState) : (!c.isReady) = true ↔ c.ready = false ∨ c.fault = true := by
  cases hr : c.ready <;> cases hf : c.fault <;> simp [CameraState.isReady, hr, hf]

theorem Core.faultPresent_cameraTimeout (cams : List Camera) (h : e.kind = .cameraTimeout)
    (hd : e.detail = .cameras cams) :
    s.faultPresent e = true ↔ (.V ∈ cams ∧ (s.cap.camV.ready = false ∨ s.cap.camV.fault = true))
      ∨ (.R ∈ cams ∧ (s.cap.camR.ready = false ∨ s.cap.camR.fault = true)) := by
  have hany : s.faultPresent e = cams.any fun c => !(s.cap.cam c).isReady := by simp [Core.faultPresent, h, hd]
  rw [hany, List.any_eq_true, ← CameraState.not_isReady, ← CameraState.not_isReady]
  constructor
  · rintro ⟨c, hc, hready⟩
    cases c with
    | V => exact .inl ⟨hc, hready⟩
    | R => exact .inr ⟨hc, hready⟩
  · rintro (⟨hc, hready⟩ | ⟨hc, hready⟩)
    · exact ⟨.V, hc, hready⟩
    · exact ⟨.R, hc, hready⟩

theorem Core.faultPresent_meterFault (chs : List Channel) (h : e.kind = .meterFault) (hd : e.detail = .channels chs) :
    s.faultPresent e = true ↔
      ∃ (ch : Channel) (r : Result), ch ∈ chs ∧ s.meas.latch.get ch = some r ∧ r.flag = some .fault := by
  have hany : s.faultPresent e = chs.any fun c => (s.meas.latch.get c).any (·.faulted) := by
    simp [Core.faultPresent, h, hd]
  simp only [hany, List.any_eq_true, Option.any_eq_true, Result.faulted, beq_iff_eq, exists_and_left]

end

/-- Settles O55: FAULT_CLEAR by its answer for one kind and for all, and the conditions kind by kind. -/
theorem faultsAreCleared : Obligations.FaultsAreCleared := by
  refine ⟨fun q code k s hq hcode => ⟨faultClear_missing hq hcode, fun e hf hk he => ?_, fun e hf hk he => ?_,
      fun he => ?_, fun he hne => ?_⟩,
    fun q code k e before after s hq hcode hf hk hothers => ⟨faultClear_ended hq hcode hf hk hothers,
      faultClear_present hq hcode hf hk hothers, fun he => ?_⟩,
    fun e s => ⟨s.faultPresent_platenTimeout e, s.faultPresent_platenForce e, s.faultPresent_armTimeout e,
      s.faultPresent_angleTimeout e, s.faultPresent_vacuumLost e, s.faultPresent_cameraTimeout e,
      s.faultPresent_meterFault e⟩⟩
  · exact faultClear_ended hq hcode (before := []) (after := []) hf hk (by simp) he
  · exact faultClear_present hq hcode (before := []) (after := []) hf hk (by simp) he
  · rw [faultClearAll_answered hq, s.core.keptFaults_body, s.core.keptFaults_of_ended he,
      s.core.endedKinds_of_ended he, List.filter_eq_nil_iff.2 fun e hm => by simp [he e hm]]
    rfl
  · obtain ⟨e, hm⟩ := List.exists_mem_of_ne_nil _ hne
    obtain ⟨hkept, hended⟩ := s.core.faults_of_present he
    rw [faultClearAll_answered hq, s.core.keptFaults_body, if_neg (s.core.keptFaults_ne_nil hm (he e hm)), hended,
      Core.keptFaults, hkept]
  · rw [faultClearAll_answered hq, s.core.keptFaults_body, if_neg (s.core.keptFaults_ne_nil (by simp [hf]) he)]
    rfl

end Sys2Proof.Machine
end

section
/-! PROOF. Answers handed over, faults raised and results handed on: the layer under the statements on homing, the
angle, the platen and the arm. -/

namespace Sys2Proof.Machine

/-! ### The end of an event -/

theorem State.event_link (us : Nat) (f : Core → Core) (s : State) :
    (s.event us f).link = ((f (s.found us)).settle.out.foldl Link.take s.link).pump := rfl

section
variable (s : Core)

/-- An answer handed to its unit with none before it. -/
theorem Core.settleWithin_signal (n : Nat) (g : Signal) (hs : s.sig = []) :
    (s.signal g).settleWithin (n + 1) = (s.handle g).settleWithin n := by
  have hdrop : { s.signal g with sig := [] } = s := by
    rw [← hs]
    rfl
  rw [Core.settleWithin_cons n _ g [] (by simp [hs]), hdrop]

theorem Core.settle_signal (g : Signal) (hs : s.sig = []) : (s.signal g).settle = (s.handle g).settleWithin 255 :=
  s.settleWithin_signal 255 g hs

theorem Core.OnlySeq.keeps {s t : Core} (h : Core.OnlySeq s t) :
    t.motion = s.motion ∧ t.vols = s.vols ∧ t.faults = s.faults ∧ t.cap = s.cap ∧ t.illum = s.illum ∧ t.meas = s.meas
      := by
  rw [h]
  exact ⟨rfl, rfl, rfl, rfl, rfl, rfl⟩

theorem Core.OnlySeq.meas {s t : Core} (h : Core.OnlySeq s t) : t.meas = s.meas := by rw [h]

theorem Core.due_of {since ms : Nat} (h : since + ms * 1000 ≤ s.now) : s.due since ms = true := decide_eq_true h

/-! ### Faults -/

/-- The first fault of an empty set, as it stands in it (R168). -/
def FaultEntry.raised (k : FaultKind) (d : FaultDetail) (t : Stamp) : FaultEntry :=
  { kind := k, detail := d, stamp := t, count := 1, acked := false }

/-- The first fault of an empty set takes its place in the set and in the first-fault record; for the rest only the
sequencer is held and reports are formed (R168 to R171). -/
theorem Core.raiseFault_first (k : FaultKind) (d : FaultDetail) (hf : s.faults = []) :
    Core.OnlySeq { s with
      faults := [.raised k d s.stamp], first := some { kind := k, detail := d, stamp := s.stamp } }
        (s.raiseFault k d) := by
  rw [Core.raiseFault_nil s k d hf]
  exact Core.OnlySeq.trans (by exact rfl) (Core.enterHold_onlySeq _ _)

theorem Core.raiseFault_held (k : FaultKind) (d : FaultDetail) :
    (s.raiseFault k d).seq.state = .held ∧ (s.raiseFault k d).seq.reason = some .fault
      ∧ (s.raiseFault k d).seq.queue = s.seq.queue ∧ (s.raiseFault k d).seq.op = s.seq.op := by
  obtain ⟨-, -, hstate, hreason, hqueue, hop, -⟩ := s.raiseFault_keeps k d
  exact ⟨hstate, hreason, hqueue, hop⟩

/-- With no fault acknowledged nothing is judged (R175). -/
theorem Core.judgeFaults_unacked (h : ∀ e ∈ s.faults, e.acked = false) : s.judgeFaults = s :=
  Core.endFaults_fresh s s.faults h

/-! ### Requests held for the angle -/

/-- With no request held for the angle nothing is taken (R97, R101). -/
theorem Core.takeHeld_idle (hl : s.motion.lowerHeld = false) (hw : s.motion.turnWait = none) : s.takeHeld = s := by
  unfold Core.takeHeld
  split
  · rfl
  · simp [hl, hw]

theorem Core.tellRaise_unasked (ok : Bool) (h : s.motion.stepRaise = false) : s.tellRaise ok = s := by
  simp [Core.tellRaise, h]

/-! ### A result handed to one requester -/

variable {c : Conversion}

/-- A result other than T's, for one requester, with nothing pending after it (R54, R57). -/
theorem Core.handAll_one {who : Requester} (r : Result) {z : Core} (hch : c.channel ≠ .T) (hreq : c.requesters = [who])
    (hz : s.handTo c.channel r who = z) (hp : z.meas.pending = ⟨none, none, none, none⟩) : s.handAll c r = z := by
  simp only [Core.handAll, if_neg hch, hreq, List.foldl_cons, List.foldl_nil, hz]
  exact Core.grantNext_idle _ hp

/-- The conversion in progress ended and its latch written (R57). -/
def Core.latched (ch : Channel) (r : Result) (s : Core) : Core :=
  { s with meas := { s.meas with conv := none, latch := s.meas.latch.set ch (some r) } }

section
variable (hconv : s.meas.conv = some c) (hkind : c.kind = .spot) (hf : s.faults = [])
include hconv hkind hf

/-- A spot that arrives in its time is latched and handed on (R57). -/
theorem Core.spotArrives_latched (code : Int) (hready : c.since + 4000 ≤ s.now) (hlimit : s.now ≤ c.since + c.limit) :
    s.spotArrives code =
      (s.latched c.channel (s.resultOf c.channel .spot code)).handAll c (s.resultOf c.channel .spot code) := by
  rw [Core.spotArrives_of hconv hkind hready hlimit, Core.deliver, Core.latchResult_nil _ _ _ hf, hkind]
  rfl

/-- A spot past its limit is declared faulted, and its faulted result handed on (R58). -/
theorem Core.conversionPasses_faulted (hover : c.since + c.limit ≤ s.now) :
    s.conversionPasses = ((s.latched c.channel (s.faultResult .spot)).raiseFault .meterFault
      (.channels [c.channel])).handAll c (s.faultResult .spot) := by
  have hpasses : s.conversionPasses = s.declareFault c := by
    simp [Core.conversionPasses, hconv, Core.convOver, hover, hkind]
  rw [hpasses, Core.declareFault, Core.latchResult_nil _ _ _ hf, hkind]
  rfl

end

/-- A delivered result is not faulted (R57). -/
theorem Core.resultOf_not_faulted (ch : Channel) (kind : ConvKind) (raw : Int) :
    (s.resultOf ch kind raw).flag ≠ some .fault := by
  simp only [Core.resultOf, satFlag]
  split
  · simp
  · split <;> simp

end

/-! ### Replies and reports in the link port -/

theorem Link.reports_pending {os : List Out} (h : ∀ o ∈ os, ∃ x, o = .report x) (l : Link) :
    (os.foldl Link.take l).pending = l.pending := by
  induction os generalizing l with
  | nil => rfl
  | cons o os ih =>
    obtain ⟨x, rfl⟩ := h o (by simp)
    rw [List.foldl_cons, ih fun o ho => h o (by simp [ho])]
    simp only [Link.take, Link.push]
    split <;> rfl

/-- The entry that a message's reply belongs to has it once the messages have been taken in, where no other is for the
same entry (R190). -/
theorem Link.reply_mem {l : Link} {p : PendingReply} {n : Nat} {r : Reply} {before after : List Out}
    (hp : p ∈ l.pending) (hid : p.id = n) (hbefore : ∀ o ∈ before, ∃ x, o = .report x)
    (hafter : ∀ o ∈ after, ∃ x, o = .report x) :
    { p with reply := some r } ∈ ((before ++ .reply n r :: after).foldl Link.take l).pump.pending := by
  rw [Link.pump_pending, List.foldl_append, List.foldl_cons, Link.reports_pending hafter]
  have hl := Link.reports_pending hbefore l
  simp only [Link.take, Link.form, hl]
  exact List.mem_map.2 ⟨p, hp, if_pos hid⟩

theorem Core.enterHold_reports (s : Core) (r : HoldReason) :
    ∃ os, (s.enterHold r).out = s.out ++ os ∧ (∀ o ∈ os, ∃ x, o = .report x) ∧ os.length ≤ 1 := by
  have hreport (y : Core) : ∃ x, (y.reportHold r).out = y.out ++ [.report x] := ⟨_, rfl⟩
  unfold Core.enterHold
  split
  · exact ⟨[], by simp, by simp, by simp⟩
  · obtain ⟨x, hx⟩ := hreport { s with seq := { s.seq with state := .held, reason := some r } }.stopPause
    refine ⟨[.report x], hx.trans (congrArg (· ++ _) ?_), by simp, by simp⟩
    unfold Core.stopPause
    split <;> rfl

/-- A raised fault forms at most two reports: its own and that of the hold (R168, R171). -/
theorem Core.raiseFault_reports (s : Core) (k : FaultKind) (d : FaultDetail) :
    ∃ os, (s.raiseFault k d).out = s.out ++ os ∧ (∀ o ∈ os, ∃ x, o = .report x) ∧ os.length ≤ 2 := by
  have hfirst (y : Core) (x : Report) (hy : y.out = s.out) :
      ∃ os, ((y.report x).enterHold .fault).out = s.out ++ os ∧ (∀ o ∈ os, ∃ x, o = .report x) ∧ os.length ≤ 2 := by
    obtain ⟨os, hout, hreports, hlen⟩ := (y.report x).enterHold_reports .fault
    refine ⟨.report x :: os, ?_, by simpa using hreports, Nat.succ_le_succ hlen⟩
    rw [hout, ← hy]
    exact List.append_assoc _ _ _
  exact hfirst _ _ rfl

end Sys2Proof.Machine
end

section
/-! PROOF. The phases of a homing (O36). -/

namespace Sys2Proof.Machine

section
variable {s : Core} {h : Homing}

theorem Core.homingStep_of (hh : s.motion.homing = some h) : s.homingStep = s.phaseDone h := by
  simp [Core.homingStep, hh]

section
variable (hf : s.faults = [])
include hf

/-- The platen is UP: the arm goes to PARK (R94). -/
theorem Core.phaseDone_platen (hphase : h.phase = .platen) (hraise : s.motion.stepRaise = false) :
    s.phaseDone h = { s with motion := { s.motion with
      platenFailed := false, forceRaise := false, platen := .up, platenSince := s.now
      valveOpen := false, arm := .moving .returning, stage := .travel, armSince := s.now
      homing := some { h with phase := .arm, since := s.now } } } := by
  simp only [Core.phaseDone, hphase]
  rw [Core.setPlaten_nil _ _ (by exact hf), Core.tellRaise_unasked _ _ (by exact hraise), Core.setArm_nil _ _ _
      (by exact hf)]
  rfl

/-- The arm is PARKED: the angle moves to its end of homing (R94). -/
theorem Core.phaseDone_arm {target : Nat} (hphase : h.phase = .arm) (htarget : s.homeAngle = target) :
    s.phaseDone h = { s with motion := { s.motion with
      armFailed := false, arm := .parked, stage := .travel, armSince := s.now
      angleTarget := some target, angle := .moving, angleSince := s.now
      homing := some { h with phase := .angleSensor, since := s.now } } } := by
  simp only [Core.phaseDone, hphase]
  rw [Core.setArm_nil _ _ _ (by exact hf), Core.setAngle_nil _ _ (by exact hf), ← htarget]
  rfl

/-- The angle is reached: the open reference is read (R94). -/
theorem Core.phaseDone_angle (hphase : h.phase = .angleTarget) (hheld : s.motion.lowerHeld = false)
    (hwait : s.motion.turnWait = none) (hc : s.meas.conv = none) (hp : s.meas.pending = ⟨none, none, none, none⟩) :
    s.phaseDone h = { s with
      motion := { s.motion with
        angleFailed := false, anglePos := s.motion.angleTarget, angleTarget := none, angle := .atAngle
        angleSince := s.now
        homing := some { h with phase := .reference, since := s.now } }
      meas := { s.meas with
        conv := some { channel := .G, kind := .spot, requesters := [.homingRef], since := s.now
                       limit := 12000 } } } := by
  simp only [Core.phaseDone, hphase]
  rw [Core.setAngle_nil _ _ (by exact hf), Core.post_free _ _ _ (by exact hc) (by exact hp),
    Core.takeHeld_idle _ (by exact hheld) (by exact hwait)]
  rfl

end

theorem Core.homeAngle_bare (hc : s.cls = none) : s.homeAngle = 120 := by simp [Core.homeAngle, hc]

theorem Core.homeAngle_of {k : ClassFields} (hc : s.cls = some k) : s.homeAngle = min 120 k.maxAngle := by
  simp [Core.homeAngle, hc]

variable (hh : s.motion.homing = some h) (hphase : h.phase = .reference)
include hh hphase

/-- A good reading renews the open reference and ends the homing (R94, R95). -/
theorem Core.homingRefResult_renews {r : Result} (hr : r.flag ≠ some .fault) :
    s.homingRefResult r = { s with motion := { s.motion with cRef := some r.code, homing := none } }.reply h.entry .done
      (.homed .completed .reference s.motion.platen s.motion.arm s.motion.angle true) := by
  simp [Core.homingRefResult, hh, hphase, Result.faulted, hr, Core.endHoming]

/-- A faulted reading ends the homing with the open reference as it was (R94, R95). -/
theorem Core.homingRefResult_stands {r : Result} (hr : r.flag = some .fault) :
    s.homingRefResult r = { s with motion := { s.motion with homing := none } }.reply h.entry .done
      (.homed .completed .reference s.motion.platen s.motion.arm s.motion.angle false) := by
  simp [Core.homingRefResult, hh, hphase, Result.faulted, hr, Core.endHoming]

end

section
variable {us : Nat} {h : Homing} {s : State}

/-- The end of a homing phase that hands nothing over. -/
theorem homingPhaseDone_quietly {c : Core} (hh : s.core.motion.homing = some h) (hdone : (s.found us).phaseDone h = c)
    (ho : c.out = []) (hs : c.sig = []) : exec (.homingPhaseDone us) s = .next (s.quietly c) :=
  congrArg _ (State.event_quietly us _ s c ((Core.homingStep_of (by exact hh)).trans hdone) ho hs)

section
variable {c : Conversion} (hh : s.core.motion.homing = some h) (hphase : h.phase = .reference)
  (hf : s.core.faults = []) (hconv : s.core.meas.conv = some c) (hch : c.channel = .G) (hkind : c.kind = .spot)
  (hreq : c.requesters = [.homingRef]) (hpend : s.core.meas.pending = ⟨none, none, none, none⟩)
include hh hphase hf hconv hch hkind hreq hpend

/-- The G result of phase 4 (R94, R95). -/
theorem homing_reference_read (code : Int) (hready : c.since + 4000 ≤ (s.found us).now)
    (hlimit : (s.found us).now ≤ c.since + c.limit) :
    ∃ t r, exec (.spotResult us code) s = .next t
      ∧ r.code = max (-8388608) (min 8388607 code)
      ∧ t.core = { s.found us with
          motion := { s.core.motion with cRef := some r.code, homing := none }
          meas := { s.core.meas with conv := none, latch := s.core.meas.latch.set .G (some r) } }
      ∧ ∀ p ∈ s.link.pending, p.id = h.entry →
          { p with
            reply := some
              { status := .done
                body := .homed .completed .reference s.core.motion.platen s.core.motion.arm s.core.motion.angle true } }
            ∈ t.link.pending := by
  let r := (s.found us).resultOf .G .spot code
  have hhand : ((s.found us).latched .G r).handTo c.channel r .homingRef = _ :=
    Core.homingRefResult_renews (by exact hh) hphase ((s.found us).resultOf_not_faulted .G .spot code)
  have harrives := Core.spotArrives_latched (s.found us) (by exact hconv) hkind hf code hready hlimit
  rw [hch] at harrives
  rw [Core.handAll_one _ _ (by simp [hch]) hreq hhand (by exact hpend)] at harrives
  exact ⟨_, r, State.event_next harrives rfl, rfl, rfl, fun p hp hid =>
    Link.reply_mem (before := []) (after := []) hp hid (by simp) (by simp)⟩

/-- Phase 4 whose conversion passes its limit (R58, R94, R95). -/
theorem homing_reference_faulted (hover : c.since + c.limit ≤ (s.found us).now) :
    ∃ t, exec (.conversionFault us) s = .next t
      ∧ t.core.motion = { s.core.motion with homing := none }
      ∧ t.core.faults = [.raised .meterFault (.channels [.G]) (s.found us).stamp]
      ∧ ∀ p ∈ s.link.pending, p.id = h.entry →
          { p with
            reply := some
              { status := .done
                body := .homed .completed .reference s.core.motion.platen s.core.motion.arm s.core.motion.angle
                  false } }
            ∈ t.link.pending := by
  let r := (s.found us).faultResult .spot
  let z := (((s.found us).latched .G r).raiseFault .meterFault (.channels [.G]))
  have hz : Core.OnlySeq _ z := Core.raiseFault_first _ _ _ (by exact hf)
  obtain ⟨os, hout, hreports, -⟩ := Core.raiseFault_reports ((s.found us).latched .G r) .meterFault (.channels [.G])
  have hmotion : z.motion = s.core.motion := by rw [hz]; rfl
  have hhand : z.handTo c.channel r .homingRef = _ := Core.homingRefResult_stands (by rw [hmotion, hh]) hphase rfl
  have hpasses := Core.conversionPasses_faulted (s.found us) (by exact hconv) hkind hf hover
  rw [hch] at hpasses
  rw [Core.handAll_one _ _ (by simp [hch]) hreq hhand (by rw [hz]; exact hpend), hmotion] at hpasses
  refine ⟨_, State.event_next hpasses (by rw [hz]; rfl), ?_, ?_, fun p hp hid => ?_⟩
  · rfl
  · rw [hz]; rfl
  · have hall : z.out = [] ++ os := hout
    rw [Core.reply, Core.emit]
    simp only [hall]
    exact Link.reply_mem (after := []) hp hid hreports (by simp)

end

/-- Settles O36, phase by phase. -/
theorem homingGoesThroughItsPhases : Obligations.HomingGoesThroughItsPhases := by
  refine ⟨fun us h s hh hf hraise => ⟨fun hphase => ?_, fun hphase hc => ?_, fun hphase => ?_,
    fun hphase hheld hwait hconv hpend => ?_⟩, fun us code h c s hh hf => ⟨fun k hphase hc => ?_,
    fun hphase hconv hch hkind hreq hpend => ⟨?_, ?_⟩⟩⟩
  · exact homingPhaseDone_quietly hh (Core.phaseDone_platen hf hphase hraise) rfl rfl
  · exact homingPhaseDone_quietly hh (Core.phaseDone_arm (s := s.found us) hf hphase (Core.homeAngle_bare hc)) rfl rfl
  · exact homingPhaseDone_quietly hh (by simp only [Core.phaseDone, hphase]; rfl) rfl rfl
  · exact homingPhaseDone_quietly hh (Core.phaseDone_angle hf hphase hheld hwait hconv hpend) rfl rfl
  · exact homingPhaseDone_quietly hh (Core.phaseDone_arm (s := s.found us) hf hphase (Core.homeAngle_of hc)) rfl rfl
  · exact homing_reference_read hh hphase hf hconv hch hkind hreq hpend code
  · exact homing_reference_faulted hh hphase hf hconv hch hkind hreq hpend

end

end Sys2Proof.Machine
end

section
/-! PROOF. The limits of the homing phases (O37). -/

namespace Sys2Proof.Machine

/-- An angle stopped where it stands changes its position alone, and takes a free value for it when it was known
(notes 5). -/
theorem Core.angleStopped_pos (s : Core) : ∃ n pos, (s.motion.anglePos = none → pos = none)
    ∧ s.angleStopped = { s with free := n, motion := { s.motion with anglePos := pos } } := by
  unfold Core.angleStopped
  split
  · next p hp => exact ⟨_, _, by simp [hp], rfl⟩
  · next hp => exact ⟨s.free, none, fun _ => rfl, by simp [← hp]⟩

section
variable {us : Nat} {h : Homing} {s : State} (hh : s.core.motion.homing = some h)
include hh

/-- A phase past its limit (R94, R95): `z` is the core once the axis is marked and UNREFERENCED. -/
theorem homingPhaseTimeout_fails {ms : Nat} {z : Core} (hlimit : h.phase.limit = some ms)
    (hdue : h.since + ms * 1000 ≤ (s.found us).now)
    (hz : { s.found us with motion := s.core.motion.markFailed h.phase }.unreference h.phase = z) (hzf : z.faults = [])
    (hzo : z.out = []) (hzs : z.sig = []) (hheld : z.motion.lowerHeld = false) (hwait : z.motion.turnWait = none) :
    ∃ t, exec (.homingPhaseTimeout us) s = .next t
      ∧ t.core.motion = { z.motion with homing := none }
      ∧ t.core.faults = [.raised h.phase.fault (.homing h.phase) z.stamp]
      ∧ t.core.seq.state = .held ∧ t.core.seq.reason = some .fault ∧ t.core.vols = z.vols
      ∧ ∀ p ∈ s.link.pending, p.id = h.entry →
          { p with
            reply := some
              { status := .done, body := .homed .failed h.phase z.motion.platen z.motion.arm z.motion.angle false } }
            ∈ t.link.pending := by
  let y := z.raiseFault h.phase.fault (.homing h.phase)
  have hy : Core.OnlySeq _ y := Core.raiseFault_first _ _ _ hzf
  obtain ⟨hmotion, hvols, hfaults, -⟩ := hy.keeps
  obtain ⟨hstate, hreason, -⟩ := z.raiseFault_held h.phase.fault (.homing h.phase)
  obtain ⟨os, hout, hreports, -⟩ := z.raiseFault_reports h.phase.fault (.homing h.phase)
  have hfails : (s.found us).homingLimit = y.endHoming h .failed false := by
    simp only [Core.homingLimit, State.found_motion, hh, hlimit, Core.due_of (s.found us) hdue, if_true,
        Core.phaseFailed]
    rw [hz]
    exact Core.takeHeld_idle _ (by rw [← hheld, ← hmotion]; rfl) (by rw [← hwait, ← hmotion]; rfl)
  refine ⟨_, State.event_next hfails (hy.sig.trans hzs), ?_, hfaults, hstate, hreason, hvols, fun p hp hid => ?_⟩
  · rw [← hmotion]
    rfl
  · rw [hzo] at hout
    have hmem := Link.reply_mem (after := []) (r := ⟨.done, .homed .failed h.phase y.motion.platen y.motion.arm
        y.motion.angle false⟩)
      hp hid hreports (by simp)
    rw [hmotion] at hmem
    rw [Core.endHoming, Core.reply, Core.emit]
    simp only [show y.out = [] ++ os from hout, hmotion]
    exact hmem

variable (hf : s.core.faults = []) (hheld : s.core.motion.lowerHeld = false) (hwait : s.core.motion.turnWait = none)
include hf hheld hwait

/-- The angle past the limit of either leg is left UNREFERENCED (R94; notes 5). -/
theorem homing_angle_fails (hphase : h.phase = .angleSensor ∨ h.phase = .angleTarget)
    (hdue : h.since + 10000000 ≤ (s.found us).now) :
    ∃ t pos, exec (.homingPhaseTimeout us) s = .next t
      ∧ (s.core.motion.anglePos = none → pos = none)
      ∧ t.core.motion = { s.core.motion with
          angleFailed := true, angle := .unreferenced, anglePos := pos, angleTarget := none
          angleSince := (s.found us).now, homing := none }
      ∧ t.core.faults = [.raised .angleTimeout (.homing h.phase) (s.found us).stamp]
      ∧ t.core.seq.state = .held ∧ t.core.seq.reason = some .fault ∧ t.core.vols = s.core.vols
      ∧ ∀ p ∈ s.link.pending, p.id = h.entry →
          { p with
            reply := some
              { status := .done
                body := .homed .failed h.phase s.core.motion.platen s.core.motion.arm .unreferenced false } }
            ∈ t.link.pending := by
  let x : Core := { s.found us with motion := { s.core.motion with angleFailed := true } }
  obtain ⟨n, pos, hpos, hstopped⟩ := x.angleStopped_pos
  have hz : { s.found us with motion := s.core.motion.markFailed h.phase }.unreference h.phase
      = ({ x.angleStopped with motion := { x.angleStopped.motion with angleTarget := none } } : Core).setAngle
        .unreferenced := by
    rcases hphase with hphase | hphase <;> rw [hphase] <;> rfl
  rw [hstopped, Core.setAngle_nil _ _ (by exact hf)] at hz
  have hlimit : h.phase.limit = some 10000 := by rcases hphase with hphase | hphase <;> rw [hphase] <;> rfl
  have hfault : h.phase.fault = .angleTimeout := by rcases hphase with hphase | hphase <;> rw [hphase] <;> rfl
  obtain ⟨t, ht, hmotion, hfaults, hrest⟩ := homingPhaseTimeout_fails hh hlimit hdue hz hf rfl rfl hheld hwait
  exact ⟨t, pos, ht, hpos, hmotion, by rw [hfaults, hfault]; rfl, hrest⟩

end

/-- Settles O37, phase by phase. -/
theorem homingPhaseFails : Obligations.HomingPhaseFails := by
  refine ⟨fun us h s hh hphase hdue hf hraise hheld hwait => ?_, fun us h s hh hf hheld hwait =>
    ⟨fun hphase hdue => ?_, fun hphase hdue => homing_angle_fails hh hf hheld hwait hphase hdue⟩⟩
  · obtain ⟨e, p, since⟩ := h
    subst hphase
    refine homingPhaseTimeout_fails hh rfl hdue (z := { s.found us with motion := { s.core.motion with
      platenFailed := true, forceRaise := false, platen := .unreferenced, platenSince := (s.found us).now } }) ?_
      hf rfl rfl hheld hwait
    rw [Core.unreference, Core.setPlaten_nil _ _ (by exact hf), Core.tellRaise_unasked _ _ (by exact hraise)]
    rfl
  · obtain ⟨e, p, since⟩ := h
    subst hphase
    exact homingPhaseTimeout_fails hh rfl hdue (Core.setArm_nil _ _ _ hf) hf rfl rfl hheld hwait

end Sys2Proof.Machine
end

section
/-! PROOF. HOME (O35). -/

namespace Sys2Proof.Machine

/-! ### What keeps HOME from being taken -/

theorem PlatenState.inMotion_iff (p : PlatenState) : p.inMotion = true ↔ ∃ m, p = .moving m := by cases p <;> simp

theorem PlatenState.isStopped_iff (p : PlatenState) : p.isStopped = true ↔ ∃ m, p = .stopped m := by
  cases p <;> simp [PlatenState.isStopped]

theorem ArmState.inMotion_iff (a : ArmState) : a.inMotion = true ↔ ∃ m, a = .moving m := by
  cases a <;> simp [ArmState.inMotion]

theorem ArmState.isStopped_iff (a : ArmState) : a.isStopped = true ↔ ∃ m c, a = .stopped m c := by
  cases a <;> simp [ArmState.isStopped]

theorem Lifecycle.atRest_iff (l : Lifecycle) : l.atRest = true ↔ l = .idle ∨ l = .thermalHold := by
  cases l <;> simp [Lifecycle.atRest]

section
variable (s : Core)

theorem Core.headBusy_iff : s.headBusy = true ↔ s.seq.op ≠ none ∨ s.seq.pause ≠ none := by
  simp [Core.headBusy, Option.isSome_iff_ne_none]

theorem Core.homeBusy_iff : s.homeBusy = true ↔
    s.motion.homing ≠ none ∨ s.seq.state = .running ∨ s.seq.state = .halting
      ∨ (s.seq.state = .held ∧ (s.seq.op ≠ none ∨ s.seq.pause ≠ none))
      ∨ (s.illum.life ≠ .idle ∧ s.illum.life ≠ .thermalHold)
      ∨ (∃ m, s.motion.platen = .moving m) ∨ s.motion.angle = .moving ∨ ∃ m, s.motion.arm = .moving m := by
  have hrest : (!s.illum.life.atRest) = true ↔ s.illum.life ≠ .idle ∧ s.illum.life ≠ .thermalHold := by
    rw [Bool.not_eq_true', ← Bool.not_eq_true, Lifecycle.atRest_iff, not_or]
  simp only [Core.homeBusy, Bool.or_eq_true, Bool.and_eq_true, beq_iff_eq, Option.isSome_iff_ne_none, hrest,
    Core.headBusy_iff, PlatenState.inMotion_iff, ArmState.inMotion_iff, or_assoc]

/-- An axis stands STOPPED (R93). -/
def Core.axisStopped : Bool := s.motion.platen.isStopped || s.motion.angle == .stopped || s.motion.arm.isStopped

theorem Core.axisStopped_iff : s.axisStopped = true ↔
    (∃ m, s.motion.platen = .stopped m) ∨ s.motion.angle = .stopped ∨ ∃ m c, s.motion.arm = .stopped m c := by
  simp only [Core.axisStopped, Bool.or_eq_true, beq_iff_eq, PlatenState.isStopped_iff, ArmState.isStopped_iff, or_assoc]

section
variable {s} {id : Nat}

theorem Core.home_broken (hb : s.panel.broken = true) : s.home id = s.reply id (.refused .interlock) .empty := by
  simp [Core.home, hb]

variable (hb : s.panel.broken = false)
include hb

theorem Core.home_uncalibrated (hcal : s.meas.cal.f = none) :
    s.home id = s.reply id (.refused .notCalibrated) .empty := by
  simp [Core.home, hb, hcal]

variable (hcal : s.meas.cal.f ≠ none)
include hcal

theorem Core.home_busy (hbusy : s.homeBusy = true) : s.home id = s.reply id .busy .empty := by
  simp [Core.home, hb, Option.isNone_eq_false_iff.2 (Option.isSome_iff_ne_none.2 hcal), hbusy]

theorem Core.home_ready (hbusy : s.homeBusy = false) :
    s.home id = if s.axisStopped then s.reply id (.refused .state) .empty else s.beginHoming id := by
  rw [Core.home, if_neg (by simp [hb]), if_neg (by simpa using hcal), if_neg (by simp [hbusy])]
  rfl

end

/-! ### The faults judged as the platen starts -/

/-- Of a core, only the fault set and the reports handed over have changed, and the set has lost no entry that `stays`
holds of and gained none. -/
structure Core.OnlyEnds (stays : FaultEntry → Prop) (s t : Core) : Prop where
  only : t = { s with faults := t.faults, out := t.out }
  reports : ∃ os, t.out = s.out ++ os ∧ ∀ o ∈ os, ∃ x, o = .report x
  left : ∀ e ∈ t.faults, e ∈ s.faults
  kept : ∀ e ∈ s.faults, stays e → e ∈ t.faults

theorem Core.OnlyEnds.trans {stays : FaultEntry → Prop} {s t u : Core} (h : Core.OnlyEnds stays s t)
    (k : Core.OnlyEnds stays t u) : Core.OnlyEnds stays s u := by
  obtain ⟨os, hos, hreports⟩ := h.reports
  obtain ⟨os', hos', hreports'⟩ := k.reports
  refine ⟨by rw [k.only, h.only], ⟨os ++ os', by rw [hos', hos, List.append_assoc], fun o ho => ?_⟩,
    fun e he => h.left e (k.left e he), fun e he hstays => k.kept e (h.kept e he hstays) hstays⟩
  exact (List.mem_append.1 ho).elim (hreports o) (hreports' o)

/-- The judgement of some entries removes no kind of which none of them is acknowledged (R175). -/
theorem Core.endFaults_onlyEnds (es : List FaultEntry) :
    Core.OnlyEnds (fun e => ∀ x ∈ es, x.kind = e.kind → x.acked = false) s (s.endFaults es) := by
  induction es generalizing s with
  | nil => exact ⟨rfl, ⟨[], by simp [Core.endFaults]⟩, fun _ he => he, fun _ he _ => he⟩
  | cons x es ih =>
    have hweaken {t : Core} (h : Core.OnlyEnds (fun e => ∀ x ∈ es, x.kind = e.kind → x.acked = false) t
        (t.endFaults es)) :
        Core.OnlyEnds (fun e => ∀ y ∈ x :: es, y.kind = e.kind → y.acked = false) t (t.endFaults es) :=
      ⟨h.only, h.reports, h.left, fun e he hstays => h.kept e he fun y hy => hstays y (List.mem_cons_of_mem _ hy)⟩
    rw [Core.endFaults]
    split
    · next hends =>
      refine Core.OnlyEnds.trans ?_ (hweaken (ih _))
      refine ⟨rfl, ⟨_, rfl, by simp⟩, fun e he => List.mem_of_mem_filter he, fun e he hstays => ?_⟩
      refine List.mem_filter.2 ⟨he, ?_⟩
      obtain ⟨hacked, -⟩ := Bool.and_eq_true_iff.1 hends
      simpa using fun hkind : e.kind = x.kind => by simp [hstays x (by simp) hkind.symm] at hacked
    · exact hweaken (ih _)

/-- HOME taken (R94, R175). -/
theorem Core.beginHoming_onlyEnds (id : Nat) :
    Core.OnlyEnds (fun e => ∀ x ∈ s.faults, x.kind = e.kind → x.acked = false)
      { s with motion := { s.motion with
        platen := .moving .raising, platenSince := s.now
        homing := some { entry := id, phase := .platen, since := s.now } } } (s.beginHoming id) :=
  Core.endFaults_onlyEnds _ _

theorem Core.beginHoming_fresh (id : Nat) (hfresh : ∀ e ∈ s.faults, e.acked = false) :
    (s.beginHoming id).faults = s.faults := by
  rw [Core.beginHoming, Core.setPlaten, Core.judgeFaults_unacked _ (by exact hfresh)]
  rfl

end

/-- HOME begins (R93, R94): the reply waits, and the faults are judged as the platen starts. -/
theorem home_begins {q : Req} {s : State} (ht : Taken q s)
    (hhome : (s.found q.us).home s.link.nextEntry = (s.found q.us).beginHoming s.link.nextEntry) :
    ∃ t, exec (.home q) s = .next t ∧ Waits q 0x30 s t
      ∧ t.core = { s.found q.us with
          faults := t.core.faults
          motion := { s.core.motion with
            platen := .moving .raising
            platenSince := (s.found q.us).now
            homing := some { entry := s.link.nextEntry, phase := .platen, since := (s.found q.us).now } } }
      ∧ ((∀ e ∈ s.core.faults, e.acked = false) → t.core.faults = s.core.faults)
      ∧ (∀ e ∈ t.core.faults, e ∈ s.core.faults)
      ∧ ∀ e ∈ s.core.faults, (∀ x ∈ s.core.faults, x.kind = e.kind → x.acked = false) → e ∈ t.core.faults := by
  obtain ⟨honly, ⟨os, hout, hreports⟩, hleft, hkept⟩ := (s.found q.us).beginHoming_onlyEnds s.link.nextEntry
  have hsig : ((s.found q.us).beginHoming s.link.nextEntry).sig = [] := by rw [honly]; rfl
  have hexec : exec (.home q) s = .next (s.ask q 0x30 fun id c => c.home id) := rfl
  rw [State.ask, State.request_taken q _ _ s ht, State.run_of_sig_nil _ _ _ hhome hsig] at hexec
  refine ⟨_, hexec, ?_, ?_, fun hfresh => ?_, hleft, hkept⟩
  · rw [show _ = os from hout]
    exact (Link.pump_pending _).trans (Link.reports_pending hreports _)
  · exact congrArg (fun c : Core => { c with out := [], sig := [] }) honly
  · exact Core.beginHoming_fresh _ _ hfresh

/-- Settles O35, by what HOME finds. -/
theorem homeBegins : Obligations.HomeBegins := by
  intro q s ht
  have hasked {st : Status} (h : (s.found q.us).home s.link.nextEntry = (s.found q.us).reply s.link.nextEntry st
      .empty) :
      exec (.home q) s = .next (s.answered q 0x30 st .empty (s.found q.us)) :=
    congrArg _ (State.ask_answered q 0x30 (fun id c => c.home id) s st .empty (s.found q.us) ht h rfl)
  refine ⟨fun hb => hasked (Core.home_broken hb), fun hb hcal => hasked (Core.home_uncalibrated hb hcal),
    fun hb hcal hbusy => hasked (Core.home_busy hb hcal ((Core.homeBusy_iff _).2 hbusy)),
    fun hb hcal hhoming hseq hlife hplaten hangle harm => ?_⟩
  have hfree : (s.found q.us).homeBusy = false := by
    rw [← Bool.not_eq_true, Core.homeBusy_iff]
    rintro (h | h | h | ⟨h, hop⟩ | ⟨hidle, hhold⟩ | ⟨m, h⟩ | h | ⟨m, h⟩)
    · exact h hhoming
    · rcases hseq with hseq | ⟨hseq, -⟩ <;> cases hseq.symm.trans h
    · rcases hseq with hseq | ⟨hseq, -⟩ <;> cases hseq.symm.trans h
    · rcases hseq with hseq | ⟨-, hop', hpause⟩
      · cases hseq.symm.trans h
      · exact hop.elim (· hop') (· hpause)
    · exact hlife.elim hidle hhold
    · exact hplaten m h
    · exact hangle h
    · exact harm m h
  have hready := Core.home_ready (s := s.found q.us) (id := s.link.nextEntry) hb hcal hfree
  refine ⟨fun hstopped => hasked (hready.trans (if_pos ((Core.axisStopped_iff _).2 hstopped))),
    fun hplaten hangle harm => home_begins ht (hready.trans (if_neg ?_))⟩
  rw [Core.axisStopped_iff]
  rintro (⟨m, h⟩ | h | ⟨m, c, h⟩)
  · exact hplaten m h
  · exact hangle h
  · exact harm m c h

end Sys2Proof.Machine
end

section
/-! PROOF. The angle (O38). -/

namespace Sys2Proof.Machine

/-! ### An event whose end is a fault raised -/

theorem State.event_raises {us : Nat} {f : Core → Core} {s : State} {z : Core} {k : FaultKind} {d : FaultDetail}
    (hf : f (s.found us) = z.raiseFault k d) (hz : z.faults = []) (hs : z.sig = []) :
    (s.event us f).core.motion = z.motion ∧ (s.event us f).core.faults = [.raised k d z.stamp]
      ∧ (s.event us f).core.seq.state = .held ∧ (s.event us f).core.seq.reason = some .fault
      ∧ (s.event us f).core.vols = z.vols := by
  have honly := Core.raiseFault_first z k d hz
  obtain ⟨hmotion, hvols, hfaults, -⟩ := honly.keeps
  obtain ⟨hstate, hreason, -⟩ := z.raiseFault_held k d
  rw [State.event_core hf, Core.settle_of_sig_nil _ (honly.sig.trans hs)]
  exact ⟨hmotion, hfaults, hstate, hreason, hvols⟩

/-! ### ANGLE_SET -/

section
variable {s : Core} {a id : Nat}

theorem Core.angleTop_le (hwide : ∀ c, s.cls = some c → a ≤ c.maxAngle) (h180 : a ≤ 180) : a ≤ s.angleTop := by
  unfold Core.angleTop
  cases hc : s.cls with
  | none => exact h180
  | some c => exact hwide c hc

theorem Core.angleSet_unreferenced (h : s.motion.angle = .unreferenced) :
    s.angleSet id a = s.reply id (.refused .state) .empty := by
  simp [Core.angleSet, h]

theorem Core.angleSet_moving (h : s.motion.angle = .moving) : s.angleSet id a = s.reply id .busy .empty := by
  simp [Core.angleSet, h]

/-- An allowed angle is the target itself, and the cradle sets off for it (R96). -/
theorem Core.angleSet_moves (hangle : s.motion.angle = .atAngle) (hplaten : s.motion.platen = .up)
    (harm : s.motion.arm = .parked) (haway : s.motion.anglePos ≠ some a) (h80 : 80 ≤ a) (htop : a ≤ s.angleTop) :
    s.angleSet id a = (s.reply id .done .empty).moveAngle a := by
  have htarget : clamp 80 s.angleTop a = a := by
    unfold clamp
    omega
  simp [Core.angleSet, htarget, hangle, hplaten, harm, haway, maskOf, doneStatus, Core.reply, Core.emit]

theorem Core.moveAngle_nil (hf : s.faults = []) : s.moveAngle a = { s with
    motion := { s.motion with
      angleTarget := some a, angle := if s.panel.broken then .stopped else .moving, angleSince := s.now } } :=
  Core.setAngle_nil _ _ hf

/-! ### The end of a move -/

variable (hmoving : s.motion.angle = .moving) (hhoming : s.motion.homing = none) (hheld : s.motion.lowerHeld = false)
  (hwait : s.motion.turnWait = none) (hf : s.faults = [])
include hmoving hhoming hheld hwait hf

theorem Core.angleArrives_of : s.angleArrives = { s with
    motion := { s.motion with
      anglePos := s.motion.angleTarget, angleTarget := none, angle := .atAngle, angleSince := s.now } } := by
  rw [Core.angleArrives, if_pos ⟨hmoving, by simp [hhoming]⟩, Core.setAngle_nil _ _ (by exact hf),
    Core.takeHeld_idle _ (by exact hheld) (by exact hwait)]

/-- A move past its limit: the angle stands where it was stopped, and the fault is raised (R96). -/
theorem Core.anglePasses_of {target : Nat} (htarget : s.motion.angleTarget = some target)
    (hdue : s.motion.angleSince + 10000 * 1000 ≤ s.now) :
    ∃ n pos, s.anglePasses = Core.raiseFault .angleTimeout (.angle target) { s with
      free := n
      motion := { s.motion with anglePos := pos, angleTarget := none, angle := .fault, angleSince := s.now } } := by
  obtain ⟨n, pos, -, hstopped⟩ := s.angleStopped_pos
  refine ⟨n, pos, ?_⟩
  rw [Core.anglePasses, if_pos ⟨hmoving, by simp [hhoming], Core.due_of s hdue⟩]
  simp only [htarget, Option.getD_some, hstopped]
  rw [Core.setAngle_nil _ _ (by exact hf)]
  have hmotion (z : Core) : (z.raiseFault .angleTimeout (.angle target)).motion = z.motion := by simp
  exact Core.takeHeld_idle _ (by rw [hmotion]; exact hheld) (by rw [hmotion]; exact hwait)

end

/-- Settles O38, by the state of the angle. -/
theorem angleMoves : Obligations.AngleMoves := by
  intro q us a s
  have hasked {st : Status} {c : Core} (ht : Taken q s)
      (h : (s.found q.us).angleSet s.link.nextEntry a = { c with out := [.reply s.link.nextEntry ⟨st, .empty⟩] })
      (hs : c.sig = []) : exec (.angleSet q a) s = .next (s.answered q 0x31 st .empty c) :=
    congrArg _ (State.ask_answered q 0x31 (fun id c => c.angleSet id a) s st .empty c ht h hs)
  refine ⟨fun ht h => hasked ht (Core.angleSet_unreferenced h) rfl, fun ht h => hasked ht (Core.angleSet_moving h) rfl,
    fun ht hangle hplaten harm haway h80 h180 hwide hf => hasked ht ?_ rfl,
    fun hmoving hhoming hheld hwait hf => ?_, fun target hmoving hhoming hheld hwait hf htarget hdue => ?_⟩
  · refine (Core.angleSet_moves (s := s.found q.us) hangle hplaten harm haway h80
      (Core.angleTop_le hwide h180)).trans ?_
    exact Core.moveAngle_nil (by exact hf)
  · exact congrArg _ (State.event_quietly us _ s _ (Core.angleArrives_of hmoving hhoming hheld hwait hf) rfl rfl)
  · obtain ⟨n, pos, hpasses⟩ := Core.anglePasses_of (s := s.found us) hmoving hhoming hheld hwait hf htarget hdue
    obtain ⟨hmotion, hfaults, hrest⟩ := State.event_raises hpasses hf rfl
    exact ⟨_, rfl, congrArg Motion.angle hmotion, congrArg Motion.angleTarget hmotion,
      (congrArg Motion.platen hmotion).trans rfl, (congrArg Motion.arm hmotion).trans rfl, hfaults, hrest⟩

end Sys2Proof.Machine
end

section
/-! PROOF. The lift and the gauge (O40, O41). -/

namespace Sys2Proof.Machine

section
variable {s : Core} {t : Turn}

/-! ### Requests withdrawn from an idle converter -/

@[simp] theorem PerChannel.set_get {α : Type} (x : PerChannel α) (ch : Channel) : x.set ch (x.get ch) = x := by
  cases ch <;> rfl

/-- A withdrawal that finds nothing (R56). -/
theorem Core.withdraw_free (gone : Requester → Bool) {ch : Channel} (hc : s.meas.conv = none)
    (hp : s.meas.pending.get ch = none) : s.withdraw ch gone = s := by
  have hset : s.meas.pending.set ch none = s.meas.pending := by rw [← hp, PerChannel.set_get]
  simp only [Core.withdraw, hc, hp, Option.map_none, Option.bind_none, hset]
  rw [← hc]

theorem Core.putDown_free (why : PutDown) (hc : s.meas.conv = none) (hg : s.meas.pending.g = none) :
    s.putDown why = { s with motion := { s.motion with stage := .putDown why, armSince := s.now } } := by
  rw [Core.putDown, Core.dropGauge, Core.withdraw_free (ch := .G) _ hc hg]

/-! ### LIFTING -/

theorem Core.cupLands_of {c : ClassFields} (ht : s.motion.turn = some t) (harm : s.motion.arm = .moving .lifting)
    (hstage : s.motion.stage = .descend) (hc : s.cls = some c) :
    s.cupLands = { s with motion := { s.motion with
      stage := .suck, armSince := s.now, valveOpen := true
      puff := some { since := s.now, ms := c.puff * 2 ^ t.retries } } } := by
  simp [Core.cupLands, harm, hstage, ht, Core.beginSuck, Core.puffMs, hc]

section
variable (harm : s.motion.arm = .moving .lifting) (hstage : s.motion.stage = .suck)
include harm hstage

theorem Core.tryGauging_begins (hvac : s.motion.vacuumAt = true) (hpuff : s.motion.puff = none)
    (hb : s.panel.broken = false) (hf : s.faults = []) :
    s.tryGauging = { s with motion := { s.motion with
      arm := .moving .gauging, stage := .leafUp, armSince := s.now } } := by
  rw [Core.tryGauging, if_pos ⟨harm, hstage, hvac, hpuff⟩, Core.startArm_clear _ _ _ hb hf]

omit harm hstage in
theorem Core.tryGauging_waits (h : s.motion.vacuumAt = false ∨ s.motion.puff ≠ none) : s.tryGauging = s := by
  refine if_neg ?_
  rintro ⟨-, -, hvac, hpuff⟩
  rcases h with h | h
  · exact Bool.false_ne_true (h.symm.trans hvac)
  · exact h hpuff

/-- The puff ends: GAUGING begins where the vacuum is AT_LEVEL (R102). -/
theorem Core.puffOver_of {p : Puff} (hpuff : s.motion.puff = some p) (hdue : s.due p.since p.ms = true)
    (hb : s.panel.broken = false) (hf : s.faults = []) :
    s.puffOver = { s with motion :=
      if s.motion.vacuumAt then
        { s.motion with puff := none, arm := .moving .gauging, stage := .leafUp, armSince := s.now }
      else { s.motion with puff := none } } := by
  have hover : s.puffOver = { s with motion := { s.motion with puff := none } }.tryGauging := by
    simp [Core.puffOver, hpuff, hdue]
  rw [hover]
  split
  next hvac => exact Core.tryGauging_begins harm hstage hvac rfl hb hf
  next hvac => exact Core.tryGauging_waits (.inl (Bool.eq_false_iff.2 hvac))

/-- 800 ms with the vacuum BELOW (R102). -/
theorem Core.noVacuum_of (hvac : s.motion.vacuumAt = false) (hdue : s.due s.motion.armSince 800 = true) :
    s.noVacuum = s.putDown .lostLeaf :=
  if_pos ⟨harm, hstage, hvac, hdue⟩

end

/-! ### GAUGING -/

variable (harm : s.motion.arm = .moving .gauging)
include harm

/-- The leaf is up: its gauge reading is asked for (R103). -/
theorem Core.leafIsUp_of (hstage : s.motion.stage = .leafUp) (hc : s.meas.conv = none)
    (hp : s.meas.pending = ⟨none, none, none, none⟩) :
    s.leafIsUp = { s with
      motion := { s.motion with stage := .gauge, armSince := s.now }
      meas := { s.meas with
        conv := some { channel := .G, kind := .spot, requesters := [.gauge], since := s.now, limit := 12000 } } } := by
  rw [Core.leafIsUp, if_pos ⟨harm, hstage⟩, Core.post_free _ _ _ (by exact hc) (by exact hp)]

variable (hstage : s.motion.stage = .gauge) {r : Result}
include hstage

/-- A reading in GAUGING is faulted, or classes what the cup holds (R103). -/
theorem Core.gaugeResult_faulted (hr : r.flag = some .fault) : s.gaugeResult r = s.putDown .gaugeFault := by
  simp [Core.gaugeResult, harm, hstage, Result.faulted, hr]

theorem Core.gaugeResult_of {tg : Int} {c : ClassFields} (hc : s.cls = some c) (hr : r.flag ≠ some .fault)
    (hv : r.value = some tg) :
    s.gaugeResult r =
      if (c.openFloor : Int) ≤ tg then s.putDown .lostLeaf
      else if (c.singleFloor : Int) ≤ tg then s.startArm .sweeping .sweep
      else s.putDown (.doublePick tg.toNat) := by
  simp [Core.gaugeResult, harm, hstage, Result.faulted, hr, hc, hv]

end

/-- Settles O40, event by event. -/
theorem leafIsLifted : Obligations.LeafIsLifted := by
  intro us t s ht hb hf
  have hevent {f : Core → Core} {c : Core} (h : f (s.found us) = c) (ho : c.out = []) (hs : c.sig = []) :
      (.next (s.event us f) : Result') = .next (s.quietly c) := congrArg _ (State.event_quietly us f s c h ho hs)
  refine ⟨fun c hc harm hstage => ?_, fun harm hstage hpuff => ?_,
    fun p harm hstage hpuff => ⟨?_, fun hdue => ?_⟩, fun harm hstage hvac hdue hg hconv => ?_,
    fun harm hstage hconv hpend => ?_⟩
  · exact hevent (Core.cupLands_of (s := s.found us) ht harm hstage hc) rfl rfl
  · exact hevent (Core.tryGauging_begins (by exact harm) hstage rfl hpuff hb hf) rfl rfl
  · exact hevent (Core.tryGauging_waits (.inr (by simp [hpuff]))) rfl rfl
  · exact hevent (Core.puffOver_of (s := s.found us) harm hstage hpuff (Core.due_of _ hdue) hb hf) rfl rfl
  · exact hevent ((Core.noVacuum_of (s := s.found us) harm hstage hvac (Core.due_of _ hdue)).trans
      (Core.putDown_free _ hconv hg)) rfl rfl
  · exact hevent (Core.leafIsUp_of (s := s.found us) harm hstage hconv hpend) rfl rfl

/-- Settles O41, by the floors of the class. -/
theorem gaugeClassesTheLeaf : Obligations.GaugeClassesTheLeaf := by
  have hput (s : Core) (why : PutDown) (harm : s.motion.arm = .moving .gauging) :
      (s.putDown why).motion.stage = .putDown why ∧ (s.putDown why).motion.arm = .moving .gauging :=
    ⟨rfl, harm⟩
  refine ⟨fun r tg c s harm hstage hb hf hc hr hv => ?_, fun r s harm hstage hr => ?_⟩
  · rw [Core.gaugeResult_of harm hstage hc hr hv, Core.startArm_clear _ _ _ hb hf]
    refine ⟨fun hopen => ?_, fun hopen hsingle => ?_, fun hopen hsingle => ?_, ?_, ?_⟩
    · rw [if_pos hopen]
      exact hput s _ harm
    · rw [if_neg (Int.not_le.2 hopen), if_pos hsingle]
      exact ⟨rfl, rfl⟩
    · rw [if_neg (Int.not_le.2 hopen), if_neg (Int.not_le.2 hsingle)]
      exact hput s _ harm
    all_goals (repeat' split) <;> rfl
  · rw [Core.gaugeResult_faulted harm hstage hr]
    exact ⟨rfl, harm, rfl, rfl⟩

end Sys2Proof.Machine
end

section
/-! PROOF. What ends a turn before its time (O44, O45). -/

namespace Sys2Proof.Machine

section
variable {s : Core} {t : Turn} {i : Fin 16} {v : Volume}

/-! ### A vacuum loss -/

/-- Assistance given changes the turn, and for the rest the sequencer and the messages alone (R149, R179). -/
theorem Core.giveAssist_onlySeq (k : AssistKind) :
    Core.OnlySeq { s with motion := { s.motion with turn := some t } } (s.giveAssist k t) := by
  simp only [Core.giveAssist]
  refine Core.OnlySeq.trans ?_ (Core.enterHold_onlySeq _ _)
  split
  · exact Core.OnlySeq.refl _
  · exact rfl

theorem Core.vacuumFalls_sweeping (harm : s.motion.arm = .moving .sweeping) :
    s.vacuumFalls = { s with motion := { s.motion with vacuumAt := false } }.vacuumLoss 1 := by
  simp [Core.vacuumFalls, harm]

theorem Core.vacuumFalls_lifting (harm : s.motion.arm = .moving .lifting) (hstage : s.motion.stage = .suck)
    (hvac : s.motion.vacuumAt = true) :
    s.vacuumFalls = { s with motion := { s.motion with vacuumAt := false } }.putDown .lostLeaf := by
  simp [Core.vacuumFalls, harm, hstage, hvac]

/-- The arm stopped in the carry, the valve closed and the exception appended, before assistance is given (R107). -/
def Core.carryStopped (i : Fin 16) (v : Volume) (t : Turn) (n : Nat) (s : Core) : Core :=
  { s.setSlot i (some { v with
      exceptions := v.exceptions ++
        [{ kind := .vacuumLost, opening := t.opening, detail := n, seq := none, stamp := s.stamp }] }) with
    motion := { s.motion with
      valveOpen := false, arm := .stopped .sweeping .vacuumLost, stage := .sweep, armSince := s.now, turn := some t } }

/-- A loss in the carry stops the arm, gives assistance and raises its fault (R107). -/
theorem Core.vacuumLoss_of {n : Nat} (hn : n ≤ 4294967295) (ht : s.motion.turn = some t) (habort : t.aborting = false)
    (hf : s.faults = []) (hm : s.vols.mounted = some i) (hv : s.vols.slots[i] = some v) (hroom : 0 < s.freeExceptions) :
    s.vacuumLoss n = ((s.carryStopped i v t n).giveAssist .vacuumLost { t with vacLost := true }).raiseFault .vacuumLost
      (.vacuum n) := by
  simp only [Core.vacuumLoss, ht]
  rw [if_neg (by simp [habort]), Core.setArm_nil _ _ _ (by exact hf),
    Core.appendMounted_of _ i v .vacuumLost t.opening n none (by exact hm) (by exact hv) (by exact hroom) hn]
  rfl

/-! ### A limit of the arm -/

theorem Core.armPasses_of {m : ArmMove} {ms : Nat} (harm : s.motion.arm = .moving m)
    (hlimit : s.motion.stage.limit = some ms) (hhoming : s.motion.homing = none)
    (hdue : s.motion.armSince + ms * 1000 ≤ s.now) : s.armPasses = s.armFault m := by
  simp [Core.armPasses, harm, hlimit, Core.armInTurn, hhoming, Core.due_of s hdue]

/-- The arm in FAULT, with the fault raised and the end of its turn handed on (R108). -/
theorem Core.armFault_of (m : ArmMove) (ht : s.motion.turn = some t) (habort : t.aborting = false)
    (hf : s.faults = []) :
    s.armFault m = (({ s with motion := { s.motion with turn := none, arm := .fault, armSince := s.now } } :
      Core).raiseFault
      .armTimeout (.arm m)).signal (.turnEnded .fault) := by
  simp only [Core.armFault, ht, habort, Bool.not_false, if_true]
  rw [Core.setArm_nil _ _ _ (by exact hf)]

/-- A turn that ends in a fault fails its TURN step (R143, R148). -/
theorem Core.stepTurn_fault {st : Step} {rest : List Step} (hop : s.seq.op = some .turn)
    (hq : s.seq.queue = st :: rest) :
    Core.OnlySeq s (s.stepTurn .fault) ∧ (s.stepTurn .fault).seq.queue = rest ∧ (s.stepTurn .fault).seq.state = .held
      := by
  have hend : s.stepTurn .fault = (s.setOp none).endStep .failed (some .fault)
      (st.work.extra (s.setOp none).cycleCount) := by
    simp only [Core.stepTurn, hop, if_true, TurnOutcome.step, Core.endPlain]
    simp [Core.headWork, hq]
  obtain ⟨honly, hqueue, hstate, -⟩ := Core.endStep_failed (s.setOp none) (some .fault)
    (st.work.extra (s.setOp none).cycleCount) (by exact hq)
  rw [hend]
  exact ⟨Core.OnlySeq.trans (by exact rfl) honly, hqueue, hstate⟩

end

/-- Settles O44: a loss in SWEEPING, and one in LIFTING. -/
theorem vacuumLossStopsTheCarry : Obligations.VacuumLossStopsTheCarry := by
  intro us t i v s ht hf habort
  refine ⟨fun harm hm hv hroom => ?_, fun harm hstage hvac hg hconv => ?_⟩
  · let x : Core := { s.found us with motion := { s.core.motion with vacuumAt := false } }
    have hloss := Core.vacuumLoss_of (s := x) (n := 1) (by decide) ht habort hf hm hv hroom
    have honly := Core.giveAssist_onlySeq (s := x.carryStopped i v t 1) (t := { t with vacLost := true }) .vacuumLost
    obtain ⟨hmotion, hvols, hfaults, -⟩ := honly.keeps
    obtain ⟨hmotion', hfaults', hstate, hreason, hvols'⟩ := State.event_raises
      ((Core.vacuumFalls_sweeping (s := s.found us) harm).trans hloss) (hfaults.trans hf) honly.sig
    refine ⟨_, rfl, hmotion'.trans hmotion, hvols'.trans hvols, hfaults'.trans ?_, hstate, hreason⟩
    rw [honly]
    rfl
  · exact congrArg _ (State.event_quietly us _ s _ ((Core.vacuumFalls_lifting (s := s.found us) harm hstage hvac).trans
      (Core.putDown_free _ hconv hg)) rfl rfl)

/-- Settles O45: the limit of the stage, then the fault of the arm and the end of its turn at the sequencer. -/
theorem armLimitEndsTheTurn : Obligations.ArmLimitEndsTheTurn := by
  intro us ms t m stage st rest s hlimits ht habort harm hstage hhoming hdue hf hop hq _
  have hlimit : s.core.motion.stage.limit = some ms := by
    rw [hstage]
    rcases hlimits with ⟨-, rfl, rfl⟩ | ⟨-, rfl, rfl⟩ | ⟨-, ⟨why, rfl⟩, rfl⟩ | ⟨-, rfl, rfl⟩ | ⟨-, rfl, rfl⟩ |
        ⟨-, rfl, rfl⟩
      <;> rfl
  let z : Core := { s.found us with
    motion := { s.core.motion with turn := none, arm := .fault, armSince := (s.found us).now } }
  let y := z.raiseFault .armTimeout (.arm m)
  have hy : Core.OnlySeq _ y := Core.raiseFault_first z _ _ hf
  obtain ⟨-, -, hqueue, hop'⟩ := z.raiseFault_held .armTimeout (.arm m)
  obtain ⟨hend, hrest, hheld⟩ := Core.stepTurn_fault (s := y) (hop'.trans hop) (hqueue.trans hq)
  obtain ⟨hmotion, hvols, hfaults, -⟩ := (hy.trans hend).keeps
  have hpasses : (s.found us).armPasses = y.signal (.turnEnded .fault) :=
    (Core.armPasses_of (s := s.found us) harm hlimit hhoming hdue).trans (Core.armFault_of m ht habort hf)
  have hsettle : (y.signal (.turnEnded .fault)).settle = y.stepTurn .fault :=
    (Core.settle_signal y _ hy.sig).trans (Core.settleWithin_of_sig_nil _ _ (hy.trans hend).sig)
  refine ⟨_, rfl, ?_⟩
  rw [State.event_core hpasses, hsettle]
  exact ⟨hmotion, hfaults, hrest, hheld, hvols⟩

end Sys2Proof.Machine
end

section
/-! PROOF. The platen (O39). -/

namespace Sys2Proof.Machine

/-! ### The moves of the platen -/

section
variable {s : Core} {a : Attempt}

/-- A force sample is asked for (R98). -/
theorem Core.sampleDue_of (hlow : s.motion.platen = .moving .lowering) (hdue : s.due s.motion.sampleAt 20 = true)
    (hc : s.meas.conv = none) (hp : s.meas.pending = ⟨none, none, none, none⟩) :
    s.sampleDue = { s with
      motion := { s.motion with sampleAt := s.motion.sampleAt + 20000 }
      meas := { s.meas with
        conv := some { channel := .F, kind := .spot, requesters := [.force], since := s.now, limit := 12000 } } } := by
  rw [Core.sampleDue, if_pos ⟨hlow, hdue⟩, Core.post_free _ _ _ (by exact hc) (by exact hp)]

section
variable (hf : s.faults = [])
include hf

/-- The platen is DOWN, its force samples withdrawn (R98). -/
theorem Core.settled_of {since : Nat} (hlow : s.motion.platen = .moving .lowering)
    (hsettle : s.motion.settle = some since) (hdue : s.due since 150 = true) :
    s.settled = Core.signal .platenDown { s with
      meas := s.dropForce.meas
      motion := { s.motion with settle := none, platen := .down, platenSince := s.now } } := by
  simp only [Core.settled, hlow, hsettle, hdue, if_true]
  rw [Core.setPlaten_nil _ _ (by exact hf)]
  rfl

/-- The limit of a lowering, with the converter free (R99). -/
theorem Core.loweringPasses_of (hlow : s.motion.platen = .moving .lowering)
    (hdue : s.due s.motion.platenSince 2000 = true) (hc : s.meas.conv = none)
    (hp : s.meas.pending = ⟨none, none, none, none⟩) :
    s.loweringPasses = (({ s with motion := { s.motion with
      settle := none, platen := .fault, platenSince := s.now } } : Core).raiseFault .platenTimeout .lowering).signal
        (.platenFailed .timeout) := by
  rw [Core.loweringPasses, if_pos ⟨hlow, hdue⟩, Core.dropForce, Core.withdraw_free (ch := .F) _ hc (by rw [hp]; rfl)]
  dsimp only
  rw [Core.setPlaten_nil _ _ (by exact hf)]

variable (hraise : s.motion.stepRaise = false)
include hraise

/-- A raise that nothing waits for ends UP (R100). -/
theorem Core.platenArrived_of (hwait : s.motion.turnWait ≠ some .raise) :
    s.platenArrived = { s with motion := { s.motion with
      forceRaise := false, platen := .up, platenSince := s.now } } := by
  rw [Core.platenArrived, Core.setPlaten_nil _ _ (by exact hf), Core.tellRaise_unasked _ _ (by exact hraise)]
  exact if_neg hwait

/-- A raise that a turn waits for ends with the turn's last checks (R100, R101). -/
theorem Core.platenArrived_turn (hwait : s.motion.turnWait = some .raise) :
    s.platenArrived = Core.turnAtUp { s with motion := { s.motion with
      forceRaise := false, platen := .up, platenSince := s.now } } := by
  rw [Core.platenArrived, Core.setPlaten_nil _ _ (by exact hf), Core.tellRaise_unasked _ _ (by exact hraise)]
  exact if_pos hwait

/-- A raise past its limit that nothing waits for (R100). -/
theorem Core.raiseFailed_of (hwait : s.motion.turnWait ≠ some .raise) :
    s.raiseFailed = ({ s with motion := { s.motion with platen := .fault, platenSince := s.now } } : Core).raiseFault
      .platenTimeout .raising := by
  have hmotion (z : Core) : (z.raiseFault .platenTimeout .raising).motion = z.motion := by simp
  rw [Core.raiseFailed, Core.setPlaten_nil _ _ (by exact hf), Core.tellRaise_unasked _ _
      (by rw [hmotion]; exact hraise)]
  exact if_neg (by rw [hmotion]; exact hwait)

end

/-- The cup goes down on the next leaf (R101). -/
theorem Core.turnAtUp_of {i : Fin 16} {v : Volume} (hf : s.faults = []) (hb : s.panel.broken = false)
    (hm : s.vols.mounted = some i) (hv : s.vols.slots[i] = some v) (hleft : v.cursor < v.leaves)
    (hplain : isFoldout v.segs (v.cursor + 1) = false) :
    s.turnAtUp = { s with motion := { s.motion with
      turnWait := none
      turn := some { opening := v.cursor, attempt := 1, retries := 0, many := false, laid := false, failed := false,
                     vacLost := false, aborting := false }
      arm := .moving .lifting, stage := .descend, armSince := s.now } } := by
  have hbegins : ¬ v.leaves ≤ v.cursor := Nat.not_le.2 hleft
  simp only [Core.turnAtUp, Core.volume_of s i v hm hv, hbegins, hplain, if_false, Bool.false_eq_true]
  exact Core.startArm_clear _ _ _ hb hf

/-- The camera wait of an attempt of both sides, with the verso camera not ready (R119). -/
theorem Core.attemptPlatenDown_waits (ha : s.cap.attempt = some a) (hphase : a.phase = .preparing)
    (hprep : a.prep = .platen)
    (hmark : a.interlock = false) (hside : a.side = .both) (hready : s.cap.camV.ready = false) :
    s.attemptPlatenDown = { s with cap := { s.cap with
      attempt := some { a with prep := .cameras s.now }
      camV := { s.cap.camV with frame := .waiting }, camR := { s.cap.camR with frame := .waiting } } } := by
  have hwaits : (s.awaitCameras a).cap.camerasReady a.side = false := by
    simp [Core.awaitCameras, Capture.camerasReady, hside, Side.needs, CameraState.await, CameraState.isReady, hready]
  have hdown : s.attemptPlatenDown = (s.awaitCameras a).setAttempt { a with prep := .cameras s.now } := by
    simp only [Core.attemptPlatenDown, ha, hphase, hprep, and_self, hmark, Bool.false_eq_true, if_false, if_true,
      Core.startCameraWait, hwaits]
    rfl
  rw [hdown]
  simp [Core.awaitCameras, Core.setAttempt, hside, Side.needs, CameraState.await]

/-! ### A lowering that fails -/

theorem ViewLight.lit_iff {v : ViewLight} :
    v.state = .lit ↔ v.wanted = true ∧ v.forced = false ∧ v.suppressed = false := by
  unfold ViewLight.state
  cases v.wanted
  · simp
  · cases v.forced <;> cases v.suppressed <;> simp

/-- A view light that is LIT stays so without its suppression (R85). -/
theorem ViewLight.lit_of_restored {v : ViewLight} (h : v.state = .lit) : { v with suppressed := false }.state = .lit
    := by
  obtain ⟨hwanted, hforced, -⟩ := ViewLight.lit_iff.1 h
  exact ViewLight.lit_iff.2 ⟨hwanted, hforced, rfl⟩

/-- The end of an unlit attempt lifts the suppression of the view light and empties the attempt, with what period then
runs; all else stands (R87, R118). -/
theorem Core.endUnlit_of : ∃ d, s.endUnlit = { s with
    dose := d, cap := s.cap.toIdle
    illum := { s.illum with view := { s.illum.view with suppressed := false } } } := by
  have hview : ∃ d, s.restoreView = { s with
      dose := d, illum := { s.illum with view := { s.illum.view with suppressed := false } } } := by
    unfold Core.restoreView Core.withView
    dsimp only
    split
    next hlit =>
      rw [if_pos (ViewLight.lit_of_restored hlit)]
      exact ⟨_, rfl⟩
    next =>
      unfold Core.beginPeriod Core.beginPeriodAt
      split <;> exact ⟨_, rfl⟩
  obtain ⟨d, hd⟩ := hview
  exact ⟨d, by rw [Core.endUnlit, hd]⟩

end

end Sys2Proof.Machine
end

section
/-! PROOF. A lowering that fails under a CAPTURE step, and its force samples (O39). -/

namespace Sys2Proof.Machine

section
variable {st : Step} {rest : List Step} {ask : SideAsked} {retake : Bool}

/-- A step that fails has its STEP_DONE handed over, before the report of a hold (R148). -/
theorem Core.endStep_failed_out {s : Core} (reason : Option StepReason) (extra : StepExtra)
    (hq : s.seq.queue = st :: rest) : ∃ w os,
      (s.endStep .failed reason extra).out
          = s.out ++ .report (.stepDone st.id st.work.kind st.origin .failed reason w extra) :: os
        ∧ (∀ o ∈ os, ∃ x, o = .report x) ∧ os.length ≤ 1 := by
  simp only [Core.endStep, hq, reduceCtorEq, if_false, if_true]
  obtain ⟨os, hout, hreports, hlen⟩ := Core.enterHold_reports (({ s with seq := { s.seq with
      queue := rest, latched := { s.seq.latched with skipped := StepResult.failed == StepResult.skipped } }.noProgress }
      : Core).reportStep st .failed reason extra) .stepFailed
  exact ⟨_, os, hout.trans (List.append_assoc _ [_] _), hreports, hlen⟩

/-- The attempt of a CAPTURE step whose platen did not come down: it ends without a record, and the step fails and holds
the queue (R118, R142, R148). -/
theorem Core.platenFailed_settles {y : Core} {a : Attempt} (r : PlatenReason) (hs : y.sig = [])
    (ha : y.cap.attempt = some a) (hphase : a.phase = .preparing) (hprep : a.prep = .platen)
    (hop : y.seq.op = some .attempt) (hq : y.seq.queue = st :: rest) (hw : st.work = .capture ask retake) :
    ∃ d t, (y.signal (.platenFailed r)).settle = t
      ∧ Core.OnlySeq { y with
          dose := d, cap := y.cap.toIdle
          illum := { y.illum with view := { y.illum.view with suppressed := false } } } t
      ∧ t.seq.queue = rest ∧ t.seq.state = .held ∧ t.seq.reason = some .stepFailed
      ∧ ∃ w os, t.out = y.out ++ .report (.stepDone st.id .capture st.origin .failed (some .platen) w
            (.capture (some (.platenFailed r)))) :: os
          ∧ (∀ o ∈ os, ∃ x, o = .report x) ∧ os.length ≤ 1 := by
  obtain ⟨d, hd⟩ := y.endUnlit_of
  have hunlit : y.handle (.platenFailed r) = y.endUnlitWith (.platenFailed r) := by
    show y.attemptPlatenFailed r = _
    simp only [Core.attemptPlatenFailed, ha]
    exact if_pos ⟨hphase, hprep⟩
  have hstep := Core.stepAttempt_capture y.endUnlit (.platenFailed r) (by rw [hd]; exact hop) (by rw [hd]; exact hq) hw
  have hqueue : (Core.setOp none y.endUnlit).seq.queue = st :: rest := by rw [hd]; exact hq
  obtain ⟨honly, hrest, hstate, hreason⟩ := Core.endStep_failed (Core.setOp none y.endUnlit) (some .platen)
    (.capture (some (.platenFailed r))) hqueue
  obtain ⟨w, os, hout, hreports, hlen⟩ := Core.endStep_failed_out (some .platen) (.capture (some (.platenFailed r)))
      hqueue
  have hkind : st.work.kind = .capture := by rw [hw]; rfl
  have hend : y.endUnlit.sig = [] := by rw [hd]; exact hs
  refine ⟨d, _, ?_, ?_, hrest, hstate, hreason, w, os, ?_, hreports, hlen⟩
  · rw [Core.settle_signal y _ hs, hunlit, Core.endUnlitWith, Core.settleWithin_signal _ 254 _ hend]
    show (Core.stepAttempt _ _).settleWithin 254 = _
    rw [hstep]
    exact Core.settleWithin_of_sig_nil _ _ (honly.sig.trans hend)
  · rw [← hd]
    exact Core.OnlySeq.trans (by exact rfl) honly
  · rw [hout, hkind]
    exact congrArg (· ++ _) (by rw [Core.setOp_out, hd])

/-- An event in which a fault of the platen's force or limit, the first of the set, ends the lowering of a CAPTURE
step's attempt: `x` is the core as the fault is raised, `m` the motion unit afterwards (R99, R118, R142). -/
theorem State.event_lowering_fails {us : Nat} {f : Core → Core} {s : State} {x : Core} {m : Motion} {k : FaultKind}
    {d : FaultDetail} {r : PlatenReason} {a : Attempt}
    (hf : f (s.found us) = ({ x.raiseFault k d with motion := m } : Core).signal (.platenFailed r))
    (hfaults : x.faults = []) (hout : x.out = []) (hsig : x.sig = []) (ha : x.cap.attempt = some a) (hphase : a.phase = .preparing)
    (hprep : a.prep = .platen) (hop : x.seq.op = some .attempt) (hq : x.seq.queue = st :: rest)
    (hw : st.work = .capture ask retake) :
    (s.event us f).core.motion = m ∧ (s.event us f).core.faults = [.raised k d x.stamp]
      ∧ (s.event us f).core.cap.attempt = none ∧ (s.event us f).core.cap.ring = x.cap.ring
      ∧ (s.event us f).core.illum.view.suppressed = false ∧ (s.event us f).core.seq.queue = rest
      ∧ (s.event us f).core.seq.state = .held ∧ (s.event us f).core.seq.reason = some .stepFailed
      ∧ (s.event us f).core.vols = x.vols
      ∧ (s.link.tx ≠ none → s.link.reports.length + 4 ≤ 32 → ∃ w,
          .stepDone st.id .capture st.origin .failed (some .platen) w (.capture (some (.platenFailed r)))
            ∈ (s.event us f).link.reports) := by
  have hraised := Core.raiseFault_first x k d hfaults
  obtain ⟨-, hvols, hset, hcap, -⟩ := hraised.keeps
  have hring : (x.raiseFault k d).cap.ring = x.cap.ring := congrArg Capture.ring hcap
  obtain ⟨-, -, hqueue, hop'⟩ := x.raiseFault_held k d
  obtain ⟨os, hos, hreports, hlen⟩ := x.raiseFault_reports k d
  obtain ⟨dose, t, hsettle, honly, hrest, hstate, hreason, w, os', hos', hreports', hlen'⟩ := Core.platenFailed_settles
    (y := { x.raiseFault k d with motion := m }) r (hraised.sig.trans hsig) ((congrArg Capture.attempt hcap).trans ha)
    hphase hprep (hop'.trans hop) (hqueue.trans hq) hw
  obtain ⟨hmotion, hvols', hset', hcap', hillum, -⟩ := honly.keeps
  rw [State.event_core hf, hsettle]
  refine ⟨hmotion, hset'.trans hset, congrArg Capture.attempt hcap',
    (congrArg Capture.ring hcap').trans hring, congrArg (·.view.suppressed) hillum, hrest, hstate,
    hreason, hvols'.trans hvols, fun htx hroom => ⟨w, ?_⟩⟩
  rw [State.event_link, hf, hsettle, hos', show ({ x.raiseFault k d with motion := m } : Core).out = os by simpa
      [hout] using hos]
  rw [State.reports_of_busy htx]
  · simp [Out.asReport]
  · have hle := List.length_filterMap_le Out.asReport (os ++ .report (.stepDone st.id .capture st.origin .failed
      (some .platen) w (.capture (some (.platenFailed r)))) :: os')
    simp only [List.length_append, List.length_cons] at hle
    omega

end

/-! ### Force samples -/

section
variable {s : Core} {r : Result}

/-- A lowering that ends by force or by a faulted sample, with the converter free and no fault acknowledged (R99). -/
theorem Core.failLowering_of {m : Motion} (force : Bool) (why : PlatenReason) (hb : s.panel.broken = false)
    (hf : ∀ e ∈ s.faults, e.acked = false) (hc : s.meas.conv = none) (hp : s.meas.pending = ⟨none, none, none, none⟩)
    (hm : { s.motion with
      settle := none, forceRaise := force, platen := .moving .raising, platenSince := s.now } = m) :
    s.failLowering force why = ({ s with motion := m } : Core).signal (.platenFailed why) := by
  rw [Core.failLowering, Core.beginRaise, Core.dropForce, Core.withdraw_free (ch := .F) _ (by exact hc)
    (by rw [hp]; rfl)]
  dsimp only
  rw [Core.startPlaten, if_neg (by simp [hb]), Core.setPlaten, Core.judgeFaults_unacked _ (by exact hf), ← hm]

variable (hlow : s.motion.platen = .moving .lowering)
include hlow

theorem Core.forceResult_faulted (hr : r.flag = some .fault) : s.forceResult r = s.failLowering false .sensor := by
  simp [Core.forceResult, hlow, Result.faulted, hr]

variable {f : Int} {k : ClassFields} (hr : r.flag ≠ some .fault) (hv : r.value = some f) (hk : s.cls = some k)
include hr hv hk

/-- A force within 3/2 of the target settles the platen when it is the first to reach the target (R98, R99). -/
theorem Core.forceResult_within (h : 2 * f ≤ 3 * (k.force : Int)) :
    s.forceResult r = { s with motion :=
      if (k.force : Int) ≤ f ∧ s.motion.settle = none then { s.motion with settle := some s.now } else s.motion } := by
  simp only [Core.forceResult, hlow, Result.faulted, hv, hk, if_true]
  rw [if_neg (by simpa using hr), if_neg (Int.not_lt.2 h)]
  split <;> rfl

theorem Core.forceResult_over (h : 3 * (k.force : Int) < 2 * f) :
    s.forceResult r = (s.raiseFault .platenForce (.force f)).failLowering true .force := by
  simp only [Core.forceResult, hlow, Result.faulted, hv, hk, if_true]
  rw [if_neg (by simpa using hr), if_pos h]

end

/-- A fault raised in an empty set, followed by the end of a lowering by force or sensor (R99). -/
theorem Core.raiseFault_failLowering {x : Core} {k : FaultKind} {d : FaultDetail} (force : Bool) (why : PlatenReason)
    (hb : x.panel.broken = false) (hf : x.faults = []) (hc : x.meas.conv = none)
    (hp : x.meas.pending = ⟨none, none, none, none⟩) :
    (x.raiseFault k d).failLowering force why = ({ x.raiseFault k d with motion := { x.motion with
      settle := none, forceRaise := force, platen := .moving .raising, platenSince := x.now } } : Core).signal
        (.platenFailed why) := by
  have honly := Core.raiseFault_first x k d hf
  have hmotion : (x.raiseFault k d).motion = x.motion := by simp
  have hmeas : (x.raiseFault k d).meas = x.meas := honly.meas
  have hnow : (x.raiseFault k d).now = x.now := by rw [honly]
  exact Core.failLowering_of force why (by rw [honly]; exact hb) (by rw [honly]; simp [FaultEntry.raised])
    (by rw [hmeas, hc]) (by rw [hmeas, hp]) (by rw [hmotion, hnow])

/-! ### Force samples as the converter delivers them -/

section
variable {us : Nat} {c : Conversion} {s : State}
  (hlow : s.core.motion.platen = .moving .lowering) (hb : s.core.panel.broken = false) (hf : s.core.faults = [])
  (hconv : s.core.meas.conv = some c) (hch : c.channel = .F) (hkind : c.kind = .spot) (hreq : c.requesters = [.force])
  (hpend : s.core.meas.pending = ⟨none, none, none, none⟩)
include hf hconv hch hkind hreq

/-- A force sample that arrives in its time is handed to the platen (R57, R98). -/
theorem spotArrives_force {code : Int} {z : Core} (hready : c.since + 4000 ≤ (s.found us).now)
    (hlimit : (s.found us).now ≤ c.since + c.limit)
    (hz : ((s.found us).latched .F ((s.found us).resultOf .F .spot code)).forceResult
      ((s.found us).resultOf .F .spot code) = z) (hp : z.meas.pending = ⟨none, none, none, none⟩) :
    (s.found us).spotArrives code = z := by
  have harrives := Core.spotArrives_latched (s.found us) (by exact hconv) hkind hf code hready hlimit
  rw [hch] at harrives
  rw [harrives]
  exact Core.handAll_one _ _ (by simp [hch]) hreq hz hp

include hlow hb hpend

/-- A force sample declared faulted ends the lowering, and the platen rises (R58, R99). -/
theorem conversionPasses_force (hover : c.since + c.limit ≤ (s.found us).now) :
    (s.found us).conversionPasses
      = ({ ((s.found us).latched .F ((s.found us).faultResult .spot)).raiseFault .meterFault (.channels [.F]) with
          motion := { s.core.motion with
            settle := none, forceRaise := false, platen := .moving .raising, platenSince := (s.found us).now } }
          : Core).signal (.platenFailed .sensor) := by
  let r := (s.found us).faultResult .spot
  let y := ((s.found us).latched .F r).raiseFault .meterFault (.channels [.F])
  have hy : Core.OnlySeq _ y := Core.raiseFault_first _ _ _ hf
  have hhand : y.handTo c.channel r .force = _ :=
    (Core.forceResult_faulted (by rw [hy]; exact hlow) rfl).trans
      (Core.raiseFault_failLowering false .sensor hb hf rfl hpend)
  have hpasses := Core.conversionPasses_faulted (s.found us) (by exact hconv) hkind hf hover
  rw [hch] at hpasses
  rw [hpasses]
  exact Core.handAll_one _ _ (by simp [hch]) hreq hhand
    (by rw [Core.signal_meas]; exact (congrArg Measure.pending hy.meas).trans hpend)

end

end Sys2Proof.Machine
end

section
/-! PROOF. The platen's statement (O39). -/

namespace Sys2Proof.Machine

/-- A raised fault leaves the motion unit. -/
theorem Core.raiseFault_with_motion (x : Core) (k : FaultKind) (d : FaultDetail) :
    ({ x.raiseFault k d with motion := x.motion } : Core) = x.raiseFault k d := by
  have hmotion : (x.raiseFault k d).motion = x.motion := by simp
  rw [← hmotion]

section
variable {us : Nat} {s : State}

/-- A platen that rises outside homing: the event of its arrival and that of its limit (R100). -/
theorem Core.raising_of {s : Core} (hrise : s.motion.platen = .moving .raising) (hhoming : s.motion.homing = none) :
    s.raising = true := by
  simp [Core.raising, hrise, hhoming]

theorem platenUp_of {z : Core} (hrise : s.core.motion.platen = .moving .raising) (hhoming : s.core.motion.homing = none)
    (hz : (s.found us).platenArrived = z) (ho : z.out = []) (hs : z.sig = []) :
    exec (.platenUp us) s = .next (s.quietly z) :=
  congrArg _ (State.event_quietly us _ s z ((if_pos (Core.raising_of (s := s.found us) hrise hhoming)).trans hz) ho hs)

/-- A raise past its limit that nothing waits for (R100). -/
theorem Core.raiseLimit_of {s : Core} (hrise : s.motion.platen = .moving .raising) (hhoming : s.motion.homing = none)
    (hf : s.faults = []) (hraise : s.motion.stepRaise = false) (hwait : s.motion.turnWait ≠ some .raise)
    (hdue : s.due s.motion.platenSince 2000 = true) :
    (if s.raising && s.due s.motion.platenSince 2000 then s.raiseFailed else s)
      = ({ s with motion := { s.motion with platen := .fault, platenSince := s.now } } : Core).raiseFault
        .platenTimeout .raising := by
  rw [Core.raising_of hrise hhoming, hdue]
  exact Core.raiseFailed_of hf hraise hwait

theorem raiseTimeout_of (hrise : s.core.motion.platen = .moving .raising) (hhoming : s.core.motion.homing = none)
    (hf : s.core.faults = []) (hraise : s.core.motion.stepRaise = false) (hwait : s.core.motion.turnWait ≠ some .raise)
    (hdue : s.core.motion.platenSince + 2000000 ≤ (s.found us).now) :
    ∃ t, exec (.raiseTimeout us) s = .next t
      ∧ t.core.motion = { s.core.motion with platen := .fault, platenSince := (s.found us).now }
      ∧ t.core.faults = [.raised .platenTimeout .raising (s.found us).stamp]
      ∧ t.core.seq.state = .held ∧ t.core.seq.reason = some .fault ∧ t.core.vols = s.core.vols := by
  have hlimit := Core.raiseLimit_of (s := s.found us) hrise hhoming hf hraise hwait (Core.due_of _ hdue)
  obtain ⟨hmotion, hfaults, hrest⟩ := State.event_raises
    (f := fun c => if c.raising && c.due c.motion.platenSince 2000 then c.raiseFailed else c) hlimit hf rfl
  exact ⟨_, rfl, hmotion, hfaults, hrest⟩

/-- The platen DOWN for an attempt whose verso camera is not ready (R98, R118, R119). -/
theorem settlingEnd_of {since : Nat} {a : Attempt} (hlow : s.core.motion.platen = .moving .lowering)
    (hsettle : s.core.motion.settle = some since) (hdue : since + 150000 ≤ (s.found us).now) (hf : s.core.faults = [])
    (ha : s.core.cap.attempt = some a) (hphase : a.phase = .preparing) (hprep : a.prep = .platen)
    (hmark : a.interlock = false) (hside : a.side = .both) (hready : s.core.cap.camV.ready = false) :
    ∃ t, exec (.settlingEnd us) s = .next t
      ∧ t.core.motion.platen = .down ∧ t.core.motion.settle = none
      ∧ t.core.cap.attempt = some { a with prep := .cameras (s.found us).now }
      ∧ t.core.cap.camV = { s.core.cap.camV with frame := .waiting }
      ∧ t.core.cap.camR = { s.core.cap.camR with frame := .waiting }
      ∧ t.core.vols = s.core.vols ∧ t.core.illum = s.core.illum ∧ t.core.seq = s.core.seq := by
  let y : Core := { s.found us with
    meas := (s.found us).dropForce.meas
    motion := { s.core.motion with settle := none, platen := .down, platenSince := (s.found us).now } }
  have hsettled : (s.found us).settled = y.signal .platenDown :=
    Core.settled_of hf hlow hsettle (Core.due_of (s.found us) hdue)
  have hdown := Core.attemptPlatenDown_waits (s := y) ha hphase hprep hmark hside hready
  have hsettle : (y.signal .platenDown).settle = y.attemptPlatenDown := by
    rw [Core.settle_signal y _ rfl]
    exact Core.settleWithin_of_sig_nil _ _ (by show y.attemptPlatenDown.sig = []; rw [hdown]; rfl)
  refine ⟨_, rfl, ?_⟩
  rw [State.event_core hsettled, hsettle, hdown]
  exact ⟨rfl, rfl, rfl, rfl, rfl, rfl, rfl, rfl⟩

end

/-- Settles O39: a lowering to its end, a raise to its end, and the force samples of a lowering. -/
theorem platenMoves : Obligations.PlatenMoves := by
  refine ⟨⟨⟨fun us a s hlow hf ha hphase hprep hconv hpend => ⟨fun hdue => ?_,
      fun st rest ask retake hdue hop hq hw => ?_⟩,
    fun us since a s hlow hsettle hdue hf ha hphase hprep hmark hside hready =>
      settlingEnd_of hlow hsettle hdue hf ha hphase hprep hmark hside hready,
    fun us s hrise hhoming hf hraise hwait => ⟨?_, fun hdue =>
      raiseTimeout_of hrise hhoming hf hraise (by simp [hwait]) hdue⟩⟩,
    fun us i v s hrise hhoming hf hraise hwait hb hm hv hleft hplain => ?_⟩,
    fun us code x f c cal i v k s hlow hb hf hconv hch hkind hreq hpend hcal hm hv hk hx hforce => ?_⟩
  · exact congrArg _ (State.event_quietly us _ s _
      (Core.sampleDue_of (s := s.found us) hlow (Core.due_of _ hdue) hconv hpend) rfl rfl)
  · let x : Core := { s.found us with
      motion := { s.core.motion with settle := none, platen := .fault, platenSince := (s.found us).now } }
    have hpasses := Core.loweringPasses_of (s := s.found us) hf hlow (Core.due_of _ hdue) hconv hpend
    rw [← Core.raiseFault_with_motion] at hpasses
    exact ⟨_, rfl, State.event_lowering_fails (x := x) hpasses hf rfl rfl ha hphase hprep hop hq hw⟩
  · exact platenUp_of hrise hhoming (Core.platenArrived_of (s := s.found us) hf hraise (by simp [hwait])) rfl rfl
  · exact platenUp_of hrise hhoming ((Core.platenArrived_turn (s := s.found us) hf hraise hwait).trans
      (Core.turnAtUp_of hf hb hm hv hleft hplain)) rfl rfl
  · let r := (s.found us).resultOf .F .spot code
    have hr : r.flag ≠ some .fault := (s.found us).resultOf_not_faulted .F .spot code
    have hvalue : r.value = some f := by
      rw [hforce, hx]
      show (s.found us).meas.cal.f.map _ = _
      rw [State.found_meas, hcal]
      rfl
    have hcls : ((s.found us).latched .F r).cls = some k := Core.cls_of _ i v k hm hv hk
    refine ⟨fun hready hlimit hwithin => ⟨r, hx.symm, hvalue, rfl, hr, ?_⟩,
      fun a st rest ask retake ha hphase hprep hop hq hw => ⟨fun hready hlimit hover => ?_, fun hover => ?_⟩⟩
    · have hsample := Core.forceResult_within (s := (s.found us).latched .F r) hlow hr hvalue hcls hwithin
      have harrives := spotArrives_force hf hconv hch hkind hreq hready hlimit hsample hpend
      exact congrArg _ (State.event_quietly us _ s _ harrives rfl rfl)
    · have hsample := (Core.forceResult_over (s := (s.found us).latched .F r) hlow hr hvalue hcls hover).trans
        (Core.raiseFault_failLowering true .force hb hf rfl hpend)
      have honly := Core.raiseFault_first ((s.found us).latched .F r) .platenForce (.force f) hf
      have harrives := spotArrives_force hf hconv hch hkind hreq hready hlimit hsample
        (by rw [Core.signal_meas]; exact (congrArg Measure.pending honly.meas).trans hpend)
      exact ⟨_, rfl, State.event_lowering_fails (x := (s.found us).latched .F r) harrives hf rfl rfl ha hphase hprep
          hop hq hw⟩
    · exact ⟨_, rfl, State.event_lowering_fails (x := (s.found us).latched .F ((s.found us).faultResult .spot))
        (conversionPasses_force hlow hb hf hconv hch hkind hreq hpend hover) hf rfl rfl ha hphase hprep hop hq hw⟩

end Sys2Proof.Machine
end

section
/-! PROOF. The capture ring: CAPTURE_DRAIN, CAPTURE_PEEK and FRAMES_SET, and what takes the room of a drain (O46, O47). -/

namespace Sys2Proof.Machine

/-! ### The requests -/

section
variable (s : Core) (id : Nat) {n : Nat}

/-- A drain forms its reply over the ring as it stands, removes the records, and gives their room away (R128). -/
theorem Core.captureDrain_of (h1 : 1 ≤ n) (h8 : n ≤ 8) : s.captureDrain id n = Core.takeRoom { s with
    cap := { s.cap with ring := s.cap.ring.drop n }
    out := s.out ++ [.reply id { status := .done, body := .records (s.cap.ring.take n) }] } :=
  if_pos ⟨h1, h8⟩

theorem Core.captureDrain_badField (h : n < 1 ∨ 8 < n) : s.captureDrain id n = s.reply id (.badField 1) .empty :=
  if_neg (by omega)

theorem Core.capturePeek_of (h1 : 1 ≤ n) (h8 : n ≤ 8) :
    s.capturePeek id n = s.reply id .done (.records (s.cap.ring.take n)) := if_pos ⟨h1, h8⟩

theorem Core.capturePeek_badField (h : n < 1 ∨ 8 < n) : s.capturePeek id n = s.reply id (.badField 1) .empty :=
  if_neg (by omega)

/-- FRAMES_SET has the one field that its clamp can mark (R131). -/
theorem doneStatus_framesSet (ms : Nat) : doneStatus (maskOf [(1, ms != max 1000 (min 30000 ms))]) =
    if 1000 ≤ ms ∧ ms ≤ 30000 then .done else .doneClamped 1#16 := by
  by_cases h : 1000 ≤ ms ∧ ms ≤ 30000
  · simp [h, maskOf, doneStatus]
  · have hclamped : (ms != max 1000 (min 30000 ms)) = true := by simp only [bne_iff_ne]; omega
    simp [hclamped, h, maskOf_singleton_true, doneStatus]

end

/-! ### What takes the room of a drain -/

section
variable (s : Core)

/-- A reservation counts for an attempt past RING_WAIT alone, so that a wait has room as the ring has (R117). -/
theorem Capture.hasRoom_of {c : Capture} (hwait : ∀ a, c.attempt = some a → a.phase = .ringWait)
    (hroom : c.ring.length < 64) : c.hasRoom = true := by
  have hreserved : c.reserved = 0 := by
    unfold Capture.reserved
    split
    next a ha => exact if_pos (hwait a ha)
    next => rfl
  simpa [Capture.hasRoom, hreserved] using hroom

/-- With nothing in RING_WAIT the room stays free (R117, R126). -/
theorem Core.takeRoom_stands (ha : ∀ a, s.cap.attempt = some a → a.phase ≠ .ringWait)
    (hk : s.cap.attempt = none → s.cap.mark = none) : s.takeRoom = s := by
  unfold Core.takeRoom
  split
  · split
    next a hsome => exact if_neg (ha a hsome)
    next hnone hmark => exact absurd (hk hnone) (by simp [hmark])
    next => rfl
  · rfl

theorem Core.takeRoom_attempt {a : Attempt} (ha : s.cap.attempt = some a) (hphase : a.phase = .ringWait)
    (hroom : s.cap.ring.length < 64) : s.takeRoom = s.gainPlace a := by
  have hroom' := Capture.hasRoom_of (c := s.cap) (by simp [ha, hphase]) hroom
  simp [Core.takeRoom, hroom', ha, hphase]

/-- A mark in RING_WAIT is written as one asked for afresh (R126). -/
theorem Core.takeRoom_mark {note : Nat} (ha : s.cap.attempt = none) (hk : s.cap.mark = some note)
    (hroom : s.cap.ring.length < 64) : s.takeRoom = Core.askMark note { s with cap := { s.cap with mark := none } } := by
  have hroom' := Capture.hasRoom_of (c := s.cap) (by simp [ha]) hroom
  have hroom'' := Capture.hasRoom_of (c := { s.cap with mark := none }) (by simp [ha]) hroom
  have htake : s.takeRoom = s.writeMark note := by simp [Core.takeRoom, hroom', ha, hk]
  rw [htake, Core.askMark, if_neg (by simp [ha]), if_pos hroom'']
  rfl

section
variable {a : Attempt} {i : Fin 16} {v : Volume} (hm : s.vols.mounted = some i) (hv : s.vols.slots[i] = some v)
include hm hv

theorem Core.fixAttempt_of : s.fixAttempt a =
    { a with opening := v.cursor, side := a.ask.resolved v.cursor v.leaves } := by
  simp only [Core.fixAttempt, Core.volume_of s i v hm hv, resolveSide_eq]

variable (hw : s.illum.view.wanted = false)
include hw

/-- An attempt that gains its place with its interlock mark set holds the platen back (R116 to R118, R120). -/
theorem Core.gainPlace_heldBack (hmark : a.interlock = true) : s.gainPlace a = { s with
    cap := { s.cap with attempt := some { a with
      opening := v.cursor, side := a.ask.resolved v.cursor v.leaves, phase := .preparing, prep := .heldBack } }
    illum := { s.illum with view := { s.illum.view with suppressed := true } } } := by
  have hdark (x : ViewLight) (hx : x.wanted = false) : x.state ≠ .lit := by simp [ViewLight.state_off x hx]
  simp only [Core.gainPlace, Core.fixAttempt_of s hm hv, hmark, if_true]
  exact Core.withView_dark _ _ (hdark _ hw) (hdark _ hw)

/-- An attempt that gains its place with the cradle ready has the platen come down (R97, R98, R116 to R118). -/
theorem Core.gainPlace_lowers (hmark : a.interlock = false) (hready : s.CradleReady) (hfree : s.ConverterFree)
    (hf : s.faults = []) : s.gainPlace a = { s.lowered with
      cap := { s.cap with attempt := some { a with
        opening := v.cursor, side := a.ask.resolved v.cursor v.leaves, phase := .preparing, prep := .platen } } } := by
  have hdark (x : ViewLight) (hx : x.wanted = false) : x.state ≠ .lit := by simp [ViewLight.state_off x hx]
  simp only [Core.gainPlace, Core.fixAttempt_of s hm hv, hmark, Bool.false_eq_true, if_false]
  rw [Core.withView_dark _ _ (by exact hdark _ hw) (by exact hdark _ hw)]
  refine (Core.askLowering_ready _ (by exact hf) ?_ ?_).trans rfl
  · exact hready.congr rfl rfl
  · exact hfree.congr rfl

end

/-- The end of a mark ends the MARK step that is alone in the queue (R144, R148). -/
theorem Core.markEnded_settle {st : Step} (seq : SeqNo) (hs : s.sig = [.markEnded (some seq)])
    (hop : s.seq.op = some .mark) (hq : s.seq.queue = [st]) (hrun : s.seq.state = .running) :
    ∃ x, s.settle = { s with seq := s.seq.ended false, out := s.out ++ [.report x], sig := [] } := by
  obtain ⟨w, hend⟩ := Core.endStep_only (Core.setOp none { s with sig := [] }) none (.mark (some seq)) hq hrun (.inl rfl)
  have hstep : Core.handle (.markEnded (some seq)) { s with sig := [] } = { s with
      seq := s.seq.ended false
      out := s.out ++ [.report (.stepDone st.id st.work.kind st.origin .done none w (.mark (some seq)))]
      sig := [] } := (if_pos hop).trans hend
  exact ⟨_, (Core.settleWithin_cons 255 s _ [] hs).trans
    ((congrArg _ hstep).trans (Core.settleWithin_of_sig_nil _ _ rfl))⟩

/-- A mark in RING_WAIT takes the room, and its step ends (R126, R144, R148). -/
theorem Core.takeRoom_mark_settle {note : Nat} {st : Step} (hs : s.sig = []) (ha : s.cap.attempt = none)
    (hk : s.cap.mark = some note) (hroom : s.cap.ring.length < 64) (hop : s.seq.op = some .mark)
    (hq : s.seq.queue = [st]) (hrun : s.seq.state = .running) :
    ∃ os, s.takeRoom.settle = { Core.marked note { s with cap := { s.cap with mark := none } } with
        seq := s.seq.ended false, out := s.out ++ os, sig := [] }
      ∧ ∀ o ∈ os, o.isReply = false := by
  obtain ⟨os, hask, hos⟩ := Core.askMark_room { s with cap := { s.cap with mark := none } } note hs ha rfl hroom
  have hroom' := (s.takeRoom_mark ha hk hroom).trans hask
  obtain ⟨x, hend⟩ := Core.markEnded_settle s.takeRoom s.cap.nextSeq (by rw [hroom']) (by rw [hroom']; exact hop)
    (by rw [hroom']; exact hq) (by rw [hroom']; exact hrun)
  refine ⟨os ++ [.report x], ?_, ?_⟩
  · rw [hend, hroom', ← List.append_assoc]
    rfl
  · simpa [or_imp, forall_and, Out.isReply] using hos

end

/-! ### The statements -/

/-- The blocks with the oldest records removed and the reply formed, as the room is given away (R128). -/
def State.drained (q : Req) (n : Nat) (s : State) : Core :=
  { s.found q.us with
    cap := { s.core.cap with ring := s.core.cap.ring.drop n }
    out := [.reply s.link.nextEntry { status := .done, body := .records (s.core.cap.ring.take n) }] }

section
variable {q : Req} {n : Nat} {s : State} (hq : Taken q s) (h1 : 1 ≤ n) (h8 : n ≤ 8)
include hq h1 h8

/-- A drain whose room is taken with nothing handed between the units and no further message. -/
theorem captureDrain_answered {c : Core} (hroom : (s.drained q n).takeRoom =
      { c with out := [.reply s.link.nextEntry { status := .done, body := .records (s.core.cap.ring.take n) }] })
    (hs : c.sig = []) :
    exec (.captureDrain q n) s = .next (s.answered q 0x38 .done (.records (s.core.cap.ring.take n)) c) :=
  congrArg _ (State.ask_answered q 0x38 _ s .done _ c hq
    ((Core.captureDrain_of (s.found q.us) _ h1 h8).trans hroom) hs)

/-- A drain with nothing in RING_WAIT (R128). -/
theorem captureDrain_removes (ha : ∀ a, s.core.cap.attempt = some a → a.phase ≠ .ringWait)
    (hk : s.core.cap.attempt = none → s.core.cap.mark = none) :
    exec (.captureDrain q n) s = .next (s.answered q 0x38 .done (.records (s.core.cap.ring.take n))
      { s.found q.us with cap := { s.core.cap with ring := s.core.cap.ring.drop n } }) :=
  captureDrain_answered hq h1 h8 (Core.takeRoom_stands (s.drained q n) ha hk) rfl

end

/-- Settles O46: the two requests, and what an attempt and a mark in RING_WAIT make of the room. -/
theorem ringIsDrained : Obligations.RingIsDrained := by
  refine ⟨fun q n s hq => ⟨fun h1 h8 ha hk => captureDrain_removes hq h1 h8 ha hk, fun h => ?_, ?_⟩,
    fun q n s hq h1 h8 hroom => ⟨fun a i v ha hphase hm hv hw => ⟨fun hmark => ?_, fun hmark hready hfree hf => ?_⟩,
      fun note asked st place ha hk hrun hop hqueue hwork hplace => ?_⟩⟩
  · refine congrArg _ (State.ask_replies hq ?_ rfl rfl)
    exact Core.captureDrain_badField _ _ (by omega)
  · rw [← doneStatus_framesSet]
    exact congrArg _ (State.ask_replies (c := { s.found q.us with
      cap := { s.core.cap with frameTimeout := max 1000 (min 30000 n) } }) hq rfl rfl rfl)
  · exact captureDrain_answered hq h1 h8 ((Core.takeRoom_attempt (s.drained q n) ha hphase hroom).trans
      (Core.gainPlace_heldBack (s.drained q n) hm hv hw hmark)) rfl
  · exact captureDrain_answered hq h1 h8 ((Core.takeRoom_attempt (s.drained q n) ha hphase hroom).trans
      (Core.gainPlace_lowers (s.drained q n) hm hv hw hmark (hready.congr rfl rfl) (hfree.congr rfl) hf)) rfl
  · have hmap : s.core.mounted.map (fun m => (m.1.val, m.2.cursor)) = place := by
      rcases hplace with ⟨hm, rfl⟩ | ⟨i, v, hm, hv, rfl⟩
      · simp [Core.mounted, hm]
      · simp [Core.mounted_of s.core i v hm hv]
    obtain ⟨os, hsettle, hos⟩ := Core.takeRoom_mark_settle (s.drained q n) rfl ha hk hroom hop hqueue hrun
    have hdrain : ((s.found q.us).captureDrain s.link.nextEntry n).settle = _ :=
      (congrArg Core.settle (Core.captureDrain_of (s.found q.us) _ h1 h8)).trans hsettle
    obtain ⟨t, ht, hreplied, hcore, -⟩ := State.ask_settles (kind := 0x38) (f := fun id c => c.captureDrain id n) hq
      hdrain rfl hos
    subst hmap
    exact ⟨t, ht, hreplied, hcore⟩

/-- Settles O47: the peek forms its reply alone, and a drain that nothing waits for forms the same. -/
theorem peekLeavesTheRing : Obligations.PeekLeavesTheRing := by
  refine fun q n s hq => ⟨fun h => ⟨1, ?_⟩, fun h1 h8 => ⟨?_, ?_, fun ha hk => ?_⟩⟩
  · refine congrArg _ (State.ask_replies hq ?_ rfl rfl)
    exact Core.capturePeek_badField _ _ h
  · refine congrArg _ (State.ask_replies hq ?_ rfl rfl)
    exact Core.capturePeek_of _ _ h1 h8
  · rw [← List.length_take]
    rfl
  · exact captureDrain_removes hq h1 h8 (by simp [ha]) fun _ => hk

end Sys2Proof.Machine
end

section
/-! PROOF. How an attempt in hand ends under its CAPTURE step, and what a lit one leaves in the ring and in the volume table:
the layer under the statements on the cameras (O48, O49). -/

namespace Sys2Proof.Machine

/-! ### The end of an attempt at its CAPTURE step -/

/-- A step that fails clears STEP_SKIPPED_LAST, the other latched conditions standing (R148). -/
theorem Core.endStep_failed_latched (s : Core) {st : Step} {rest : List Step} (reason : Option StepReason)
    (extra : StepExtra) (hq : s.seq.queue = st :: rest) :
    (s.endStep .failed reason extra).seq.latched = { s.seq.latched with skipped := false } := by
  simp [Core.endStep, hq, Core.enterHold_keeps, Core.reportStep, Sequencer.noProgress]

section
variable {y : Core} {e : AttemptEnding} {st : Step} {rest : List Step} {ask : SideAsked} {retake : Bool}
  (hs : y.sig = []) (hop : y.seq.op = some .attempt) (hw : st.work = .capture ask retake)
include hs hop hw

/-- The ending of an attempt reaches its CAPTURE step, whose own end hands nothing on (R142). -/
theorem Core.endUnlitWith_settle (hq : y.seq.queue = st :: rest)
    (hquiet : ((y.endUnlit.setOp none).endStep e.step.1 e.step.2 (.capture e.added)).sig = y.endUnlit.sig) :
    (y.endUnlitWith e).settle = (y.endUnlit.setOp none).endStep e.step.1 e.step.2 (.capture e.added) := by
  obtain ⟨d, hd⟩ := y.endUnlit_of
  have hsig : y.endUnlit.sig = [] := by rw [hd]; exact hs
  have hstep := Core.stepAttempt_capture y.endUnlit e (by rw [hd]; exact hop) (by rw [hd]; exact hq) hw
  rw [Core.endUnlitWith, Core.settle_signal _ _ hsig]
  exact (congrArg (Core.settleWithin 255) hstep).trans (Core.settleWithin_of_sig_nil _ _ (hquiet.trans hsig))

/-- An ending that fails its step lifts the suppression, empties the attempt and holds the queue (R87, R124, R142, R148). -/
theorem Core.endUnlitWith_fails (hq : y.seq.queue = st :: rest) (he : e.step.1 = .failed) :
    ∃ d t, (y.endUnlitWith e).settle = t
      ∧ Core.OnlySeq { y with
          dose := d, cap := y.cap.toIdle
          illum := { y.illum with view := { y.illum.view with suppressed := false } } } t
      ∧ t.seq.queue = rest ∧ t.seq.state = .held ∧ t.seq.reason = some .stepFailed
      ∧ t.seq.latched = { y.seq.latched with skipped := false } := by
  obtain ⟨d, hd⟩ := y.endUnlit_of
  have hqueue : (y.endUnlit.setOp none).seq.queue = st :: rest := by rw [hd]; exact hq
  obtain ⟨honly, hrest, hstate, hreason⟩ := Core.endStep_failed _ e.step.2 (.capture e.added) hqueue
  have hlatched := Core.endStep_failed_latched _ e.step.2 (.capture e.added) hqueue
  rw [← he] at honly hrest hstate hreason hlatched
  refine ⟨d, _, Core.endUnlitWith_settle hs hop hw hq honly.sig, ?_, hrest, hstate, hreason, by rw [hlatched, hd]; rfl⟩
  rw [← hd]
  exact Core.OnlySeq.trans (by exact rfl) honly

/-- An ending that completes the only step (R87, R124, R142, R148). -/
theorem Core.endUnlitWith_completes (hq : y.seq.queue = [st]) (hrun : y.seq.state = .running) (he : e.step.1 = .done) :
    ∃ d t, (y.endUnlitWith e).settle = t
      ∧ Core.OnlySeq { y with
          dose := d, cap := y.cap.toIdle
          illum := { y.illum with view := { y.illum.view with suppressed := false } } } t
      ∧ t.seq = y.seq.ended false := by
  obtain ⟨d, hd⟩ := y.endUnlit_of
  have hqueue : (y.endUnlit.setOp none).seq.queue = [st] := by rw [hd]; exact hq
  have hstate : (y.endUnlit.setOp none).seq.state = .running := by rw [hd]; exact hrun
  have honly := Core.endStep_onlySeq _ e.step.2 (.capture e.added) (.inr ⟨st, hqueue⟩)
  have hseq := Core.endStep_last _ e.step.2 (.capture e.added) hqueue hstate
  rw [← he] at honly hseq
  refine ⟨d, _, Core.endUnlitWith_settle hs hop hw hq honly.sig, ?_, by rw [hseq, hd]; rfl⟩
  rw [← hd]
  exact Core.OnlySeq.trans (by exact rfl) honly

end

/-! ### What a lit attempt leaves -/

/-- A record after a capture that is OK (R20, R21): the opening joins the captured set, or counts as a retake. -/
def Volume.afterCapture (opening : Nat) (v : Volume) : Volume :=
  if opening ∈ v.captured then { v with tallies := { v.tallies with retakes := bump v.tallies.retakes } }
  else { v with
    captured := insertOpening opening v.captured, tallies := { v.tallies with captured := bump v.tallies.captured } }

theorem Volume.mem_afterCapture (opening k : Nat) (v : Volume) :
    k ∈ (v.afterCapture opening).captured ↔ k = opening ∨ k ∈ v.captured := by
  unfold Volume.afterCapture
  split
  next h => exact ⟨.inr, fun hk => hk.elim (fun hk => hk ▸ h) id⟩
  next => exact mem_insertOpening opening k v.captured

theorem Volume.afterCapture_same (opening : Nat) (v : Volume) :
    (v.afterCapture opening).cursor = v.cursor ∧ (v.afterCapture opening).uF = v.uF := by
  unfold Volume.afterCapture
  split <;> exact ⟨rfl, rfl⟩

section
variable (s : Core) {i : Fin 16} {v : Volume} (hm : s.vols.mounted = some i) (hv : s.vols.slots[i] = some v)
include hm hv

/-- An append to the mounted volume's list changes that list alone, whether the pool has room or not (R22). -/
theorem Core.appendMounted_exceptions (k : ExceptionKind) (opening detail : Nat) (seq : Option SeqNo) :
    ∃ es, s.appendMounted k opening detail seq = s.setSlot i (some { v with exceptions := es }) := by
  simp only [Core.appendMounted, hm, Core.appendException]
  split
  · refine ⟨v.exceptions, ?_⟩
    have hset : s.vols.slots.set i (some v) = s.vols.slots := by
      simp only [Fin.getElem_fin] at hv
      rw [← hv]
      exact Vector.set_getElem_self _
    simp only [Core.setSlot, hset]
  · exact ⟨_, Core.editSlot_of s i v _ hv⟩

/-- The volume table takes a capture that is OK, with GAP_NOTED when the opening has a gap (R20, R21, R124). -/
theorem Core.tellOutcome_captures (opening : Nat) (seq : SeqNo) :
    ∃ es, s.tellOutcome opening seq .ok = s.setSlot i (some { v.afterCapture opening with exceptions := es }) := by
  simp only [Core.tellOutcome, if_true, Core.volume_of s i v hm hv, List.contains_iff_mem,
    fun f => Core.editMounted_of s i v f hm hv, Volume.afterCapture]
  split
  · exact ⟨_, rfl⟩
  · split
    next g hg =>
      obtain ⟨es, hes⟩ := Core.appendMounted_exceptions (s.setSlot i (some { v with
          captured := insertOpening opening v.captured
          tallies := { v.tallies with captured := bump v.tallies.captured } })) hm (Core.setSlot_get _ _ _) .gapNoted
        opening g (some seq)
      exact ⟨es, hes.trans (Core.setSlot_setSlot _ _ _ _)⟩
    next => exact ⟨_, rfl⟩

/-- The volume table takes a capture that is not OK as CAPTURE_FAILED, while the pool has room (R20, R22, R124). -/
theorem Core.tellOutcome_fails {outcome : CaptureOutcome} (opening : Nat) (seq : SeqNo) (ho : outcome ≠ .ok)
    (hroom : 0 < s.freeExceptions) :
    s.tellOutcome opening seq outcome = s.setSlot i (some { v with exceptions := v.exceptions ++
      [{ kind := .captureFailed, opening := opening, detail := outcome.code, seq := some seq, stamp := s.stamp }] }) := by
  rw [Core.tellOutcome, if_neg ho]
  exact Core.appendMounted_of s i v _ _ _ _ hm hv hroom (by cases outcome <;> decide)

/-- The record of a lit attempt goes to the newest end of the ring, and its outcome to the volume table (R124, R125). -/
theorem Core.recordAttempt_of (a : Attempt) (outcome : CaptureOutcome) (dose : DoseRecord) :
    ∃ os, s.recordAttempt a outcome dose = Core.tellOutcome a.opening a.seq outcome { s with
      cap := { s.cap with ring := s.cap.ring ++ [.capture (captureRecord i v a outcome dose)] }, out := s.out ++ os } := by
  obtain ⟨os, hos, -⟩ := s.writeRecord_of (.capture (captureRecord i v a outcome dose))
  exact ⟨os, by simp only [Core.recordAttempt, Core.mounted_of s i v hm hv, hos]⟩

end

/-- A lit attempt ends as an unlit one does, once its record is written and its conditions are latched (R124). -/
theorem Core.finishAttempt_eq (s : Core) {a : Attempt} (outcome : CaptureOutcome) (dose : DoseRecord)
    (ha : a.aborting = false) : s.finishAttempt a outcome dose =
      ((s.recordAttempt a outcome dose).latchCapture (outcome == .ok) dose.dimmed).endUnlitWith
        (.lit outcome a.seq a.number a.qPlan) := if_neg (by simp [ha])

section
variable {y : Core} {a : Attempt} {dose : DoseRecord} {i : Fin 16} {v : Volume} {st : Step} {rest : List Step}
  {ask : SideAsked} {retake : Bool} (ha : a.aborting = false) (hm : y.vols.mounted = some i)
  (hv : y.vols.slots[i] = some v) (hs : y.sig = []) (hop : y.seq.op = some .attempt)
  (hw : st.work = .capture ask retake)
include ha hm hv hs hop hw

/-- A lit attempt that is OK: its record, its opening in the volume table, and its step DONE (R20, R21, R124, R125, R142). -/
theorem Core.finishAttempt_completes (hq : y.seq.queue = [st]) (hrun : y.seq.state = .running) :
    ∃ es t, (y.finishAttempt a .ok dose).settle = t
      ∧ t.cap = Capture.toIdle { y.cap with ring := y.cap.ring ++ [.capture (captureRecord i v a .ok dose)] }
      ∧ t.vols.slots[i] = some { v.afterCapture a.opening with exceptions := es }
      ∧ t.motion = y.motion
      ∧ t.seq = Sequencer.ended false { y.seq with
          latched := { y.seq.latched with captureOk := true, captureDimmed := dose.dimmed } } := by
  obtain ⟨os, hrecord⟩ := y.recordAttempt_of hm hv a .ok dose
  let written : Core := { y with
    cap := { y.cap with ring := y.cap.ring ++ [.capture (captureRecord i v a .ok dose)] }, out := y.out ++ os }
  obtain ⟨es, htell⟩ := written.tellOutcome_captures hm hv a.opening a.seq
  let z : Core := (written.setSlot i (some { v.afterCapture a.opening with exceptions := es })).latchCapture true dose.dimmed
  have hfinish : y.finishAttempt a .ok dose = z.endUnlitWith (.lit .ok a.seq a.number a.qPlan) := by
    rw [y.finishAttempt_eq .ok dose ha, hrecord, htell]
    rfl
  obtain ⟨d, t, hsettle, honly, hseq⟩ := Core.endUnlitWith_completes (y := z) (e := .lit .ok a.seq a.number a.qPlan) hs hop
    hw hq hrun rfl
  obtain ⟨hmotion, hvols, -, hcap, -⟩ := honly.keeps
  refine ⟨es, t, (congrArg Core.settle hfinish).trans hsettle, hcap, ?_, hmotion, hseq⟩
  rw [hvols]
  exact Core.setSlot_get _ _ _

/-- A lit attempt that is not OK: its record, CAPTURE_FAILED, and its step failed (R20, R124, R125, R142). -/
theorem Core.finishAttempt_fails {outcome : CaptureOutcome} (ho : outcome ≠ .ok) (hq : y.seq.queue = st :: rest)
    (hroom : 0 < y.freeExceptions) :
    ∃ t, (y.finishAttempt a outcome dose).settle = t
      ∧ t.cap = Capture.toIdle { y.cap with ring := y.cap.ring ++ [.capture (captureRecord i v a outcome dose)] }
      ∧ t.vols = { y.vols with slots := y.vols.slots.set i (some { v with exceptions := v.exceptions ++
          [{ kind := .captureFailed, opening := a.opening, detail := outcome.code, seq := some a.seq
             stamp := y.stamp }] }) }
      ∧ t.faults = y.faults ∧ t.seq.queue = rest ∧ t.seq.state = .held ∧ t.seq.reason = some .stepFailed
      ∧ t.seq.latched.captureOk = false ∧ t.seq.latched.captureDimmed = dose.dimmed := by
  obtain ⟨os, hrecord⟩ := y.recordAttempt_of hm hv a outcome dose
  let written : Core := { y with
    cap := { y.cap with ring := y.cap.ring ++ [.capture (captureRecord i v a outcome dose)] }, out := y.out ++ os }
  have htell := written.tellOutcome_fails hm hv a.opening a.seq ho hroom
  let z : Core := (written.tellOutcome a.opening a.seq outcome).latchCapture (outcome == .ok) dose.dimmed
  have hz : z = Core.latchCapture (outcome == .ok) dose.dimmed (written.setSlot i (some { v with
      exceptions := v.exceptions ++ [{ kind := .captureFailed, opening := a.opening, detail := outcome.code
                                       seq := some a.seq, stamp := y.stamp }] })) :=
    congrArg (Core.latchCapture (outcome == .ok) dose.dimmed) htell
  have hstep : (AttemptEnding.lit outcome a.seq a.number a.qPlan).step.1 = .failed := by
    cases outcome <;> simp [AttemptEnding.step] at ho ⊢
  have hfinish : y.finishAttempt a outcome dose = z.endUnlitWith (.lit outcome a.seq a.number a.qPlan) := by
    rw [y.finishAttempt_eq outcome dose ha, hrecord]
  obtain ⟨d, t, hsettle, honly, hrest, hstate, hreason, hlatched⟩ := Core.endUnlitWith_fails (y := z)
    (by rw [hz]; exact hs) (by rw [hz]; exact hop) hw (by rw [hz]; exact hq) hstep
  obtain ⟨-, hvols, hfaults, hcap, -⟩ := honly.keeps
  rw [hz] at hvols hfaults hcap hlatched
  refine ⟨t, (congrArg Core.settle hfinish).trans hsettle, hcap, hvols, hfaults, hrest, hstate, hreason, ?_, ?_⟩
  · rw [hlatched]
    exact beq_false_of_ne ho
  · rw [hlatched]
    rfl

end

end Sys2Proof.Machine
end

section
/-! PROOF. The lines of the cameras (O48), and the limits of the camera wait and of the frames (O49). -/

namespace Sys2Proof.Machine

/-! ### Cameras -/

section
variable (c : Capture) (k : Camera) (x : CameraState)

theorem Capture.setCam_cam (j : Camera) : (c.setCam k x).cam j = if j = k then x else c.cam j := by
  cases k <;> cases j <;> rfl

theorem Capture.setCam_attempt : (c.setCam k x).attempt = c.attempt := by cases k <;> rfl

theorem Capture.setCam_ring : (c.setCam k x).ring = c.ring := by cases k <;> rfl

end

section
variable {c : CameraState} {ready fault : Bool}

/-- A camera that nothing watches takes the levels of its lines (R115). -/
theorem CameraState.lines_unwatched : c.lines ready fault false = { c with ready := ready, fault := fault } := rfl

/-- A TRIGGERED camera that an attempt watches is judged on the levels of its lines (R123). -/
theorem CameraState.lines_watched (h : c.frame = .triggered) : c.lines ready fault true = { c with
    ready := ready, fault := fault
    sawLow := if fault || ((c.sawLow || !ready) && ready) then c.sawLow else c.sawLow || !ready
    frame := if fault then .failed .fault else if (c.sawLow || !ready) && ready then .taken else .triggered } := by
  simp only [CameraState.lines, h, beq_self_eq_true, Bool.and_self, if_true]
  cases fault
  · cases hjudged : (c.sawLow || !ready) && ready <;> simp [← h]
  · simp

end

section
variable (s : Core)

theorem Core.tryCameras_stands (h : ∀ a, s.cap.attempt = some a → a.phase ≠ .preparing) : s.tryCameras = s := by
  unfold Core.tryCameras
  split
  next a ha =>
    split
    next hphase _ => exact absurd hphase (h a ha)
    next => rfl
  next => rfl

/-- An attempt with no dose record, or before COLLECTING, does not end (R123). -/
theorem Core.tryFinish_stands (h : ∀ a, s.cap.attempt = some a → a.phase ≠ .collecting ∨ a.dose = none) :
    s.tryFinish = s := by
  unfold Core.tryFinish
  split
  next a ha =>
    split
    next hphase hdose => exact absurd (h a ha) (by simp [hphase, hdose])
    next => rfl
  next => rfl

/-- A change of a camera's lines past the camera wait, with no fault in the set, is taken and may end the attempt (R115,
R123). -/
theorem Core.cameraLines_of {k : Camera} (ready fault : Bool) (hf : s.faults = [])
    (h : ∀ a, s.cap.attempt = some a → a.phase ≠ .preparing) :
    s.cameraLines k ready fault = Core.tryFinish { s with
      cap := s.cap.setCam k ((s.cap.cam k).lines ready fault s.cap.watched) } := by
  have hattempt := Capture.setCam_attempt s.cap k ((s.cap.cam k).lines ready fault s.cap.watched)
  rw [Core.cameraLines, Core.judgeFaults_nil _ (by exact hf),
    Core.tryCameras_stands _ (fun a ha => h a (hattempt.symm.trans ha))]

/-- READY of the last needed camera, seen low before, ends an attempt with its dose record in hand OK (R123, R124). -/
theorem Core.cameraLines_completes {k : Camera} {a : Attempt} {dose : DoseRecord} (hf : s.faults = [])
    (ha : s.cap.attempt = some a) (hphase : a.phase = .collecting) (hdose : a.dose = some dose)
    (haborting : a.aborting = false) (hframes : ∀ j, (s.cap.cam j).frame = if j = k then .triggered else .taken)
    (hlow : (s.cap.cam k).sawLow = true) :
    s.cameraLines k true false = Core.finishAttempt a .ok dose { s with
      cap := s.cap.setCam k { s.cap.cam k with ready := true, fault := false, frame := .taken } } := by
  have hwatched : s.cap.watched = true := by simp [Capture.watched, ha, haborting]
  have hjudged : (s.cap.cam k).lines true false s.cap.watched =
      { s.cap.cam k with ready := true, fault := false, frame := .taken } := by
    rw [hwatched, CameraState.lines_watched (by simp [hframes])]
    simp [hlow]
  have htaken (j : Camera) :
      ((s.cap.setCam k { s.cap.cam k with ready := true, fault := false, frame := .taken }).cam j).frame = .taken := by
    rw [Capture.setCam_cam]
    split
    · rfl
    next hj => rw [hframes, if_neg hj]
  rw [s.cameraLines_of true false hf (by simp [ha, hphase]), hjudged]
  exact Core.tryFinish_ok _ ((Capture.setCam_attempt _ _ _).trans ha) hphase hdose haborting (htaken .V) (htaken .R)

end

/-- A change of a camera's lines that ends no attempt. -/
theorem cameraLineChange_taken {us : Nat} {k : Camera} {ready fault : Bool} {s : State} {x : CameraState}
    (hf : s.core.faults = [])
    (h : ∀ a, s.core.cap.attempt = some a → a.phase ≠ .preparing ∧ a.phase ≠ .collecting)
    (hx : (s.core.cap.cam k).lines ready fault s.core.cap.watched = x) :
    exec (.cameraLineChange us k ready fault) s =
      .next (s.quietly { s.found us with cap := s.core.cap.setCam k x }) := by
  refine congrArg _ (State.event_quietly us _ s _ ?_ rfl rfl)
  have hattempt := Capture.setCam_attempt s.core.cap k x
  refine ((s.found us).cameraLines_of ready fault hf fun a ha => (h a ha).1).trans ?_
  rw [State.found_cap, hx]
  exact Core.tryFinish_stands _ fun a ha => .inl (h a (hattempt.symm.trans ha)).2

/-- Settles O48: the levels taken, a TRIGGERED camera judged, and the line that judges the last one. -/
theorem cameraLinesAreWatched : Obligations.CameraLinesAreWatched := by
  refine ⟨fun us k ready fault s hf => ⟨fun ha => ?_, fun a ha hphase haborting htriggered => ?_⟩,
    fun us k a dose i v st ask retake s hf ha hphase hdose haborting hside hframes hlow hm hv hrun hop hq hw => ?_⟩
  · have hwatched : s.core.cap.watched = false := by simp [Capture.watched, ha]
    exact cameraLineChange_taken hf (by simp [ha]) (by rw [hwatched]; exact CameraState.lines_unwatched)
  · have hwatched : s.core.cap.watched = true := by simp [Capture.watched, ha, haborting]
    exact cameraLineChange_taken hf (by simp [ha, hphase]) (by rw [hwatched]; exact CameraState.lines_watched htriggered)
  · let z : Core := { s.found us with
      cap := s.core.cap.setCam k { s.core.cap.cam k with ready := true, fault := false, frame := .taken } }
    have hlines : (s.found us).cameraLines k true false = z.finishAttempt a .ok dose :=
      (s.found us).cameraLines_completes hf ha hphase hdose haborting hframes hlow
    obtain ⟨es, t, hsettle, hcap, hslot, hmotion, hseq⟩ := Core.finishAttempt_completes (y := z) (dose := dose) haborting hm
      hv rfl hop hw hq hrun
    obtain ⟨hcursor, huF⟩ := v.afterCapture_same a.opening
    refine ⟨_, { v.afterCapture a.opening with exceptions := es }, rfl, ?_⟩
    rw [State.event_core hlines, hsettle]
    refine ⟨?_, ?_, ?_, ?_, hslot, hcursor, huF, fun o => Volume.mem_afterCapture a.opening o v, fun h => ?_, fun h => ?_,
      ?_, ?_, ?_, ?_, hmotion⟩
    · show t.cap.ring = _
      rw [hcap]
      show z.cap.ring ++ _ = _
      rw [Capture.setCam_ring, captureRecord, hside]
      rfl
    · exact congrArg Capture.attempt hcap
    · exact congrArg (·.camV.frame) hcap
    · exact congrArg (·.camR.frame) hcap
    · simp [Volume.afterCapture, h, bump, satAdd, max32]
    · simp [Volume.afterCapture, h, bump, satAdd, max32]
    · exact congrArg Sequencer.queue hseq
    · exact congrArg Sequencer.state hseq
    · exact congrArg (·.latched.captureOk) hseq
    · exact congrArg (·.latched.captureDimmed) hseq

/-! ### Limits -/

section
variable (s : Core)

/-- The limit of the camera wait ends the attempt with no record (R119). -/
theorem Core.cameraWaitOver_of {a : Attempt} {t0 : Nat} (ha : s.cap.attempt = some a) (hphase : a.phase = .preparing)
    (hprep : a.prep = .cameras t0) (hdue : t0 + 2000000 ≤ s.now) :
    s.cameraWaitOver = s.endUnlitWith (.cameraNotReady (s.cap.unready a.side)) := by
  have hdue' : s.due t0 2000 = true := Core.due_of s hdue
  simp only [Core.cameraWaitOver, ha, hphase, hprep, hdue', if_true]

/-- The blocks as the frame timeout finds one camera still TRIGGERED, before its fault is raised (R123). -/
def Core.timedOut (k : Camera) (a : Attempt) (s : Core) : Core :=
  { s with
    cap := Capture.setCam k { s.cap.cam k with frame := .failed .timeout }
      { s.cap with attempt := some { a with frameSince := none } } }

theorem Core.timedOut_attempt (k : Camera) (a : Attempt) :
    (s.timedOut k a).cap.attempt = some { a with frameSince := none } := Capture.setCam_attempt _ _ _

/-- The one camera still TRIGGERED fails with cause TIMEOUT, and CAMERA_TIMEOUT is raised for it (R123). -/
theorem Core.timeOutCamera_one {k : Camera} (hk : ∀ j, (s.cap.cam j).frame = .triggered ↔ j = k) :
    (s.timeOutCamera .V).timeOutCamera .R = Core.raiseFault .cameraTimeout (.cameras [k]) { s with
      cap := s.cap.setCam k { s.cap.cam k with frame := .failed .timeout } } := by
  have hout : s.timeOutCamera k = Core.raiseFault .cameraTimeout (.cameras [k]) { s with
      cap := s.cap.setCam k { s.cap.cam k with frame := .failed .timeout } } := if_pos ((hk k).2 rfl)
  cases k with
  | V =>
    have hR : ((s.timeOutCamera .V).cap.cam .R).frame ≠ .triggered := by
      obtain ⟨-, -, -, -, -, -, -, -, -, -, -, -, -, -, -, -, hcap, -⟩ := Core.raiseFault_keeps { s with
        cap := s.cap.setCam .V { s.cap.cam .V with frame := .failed .timeout } } .cameraTimeout (.cameras [.V])
      rw [hout, hcap]
      exact (hk .R).not.2 (by decide)
    exact (if_neg hR).trans hout
  | R =>
    have hV : s.timeOutCamera .V = s := if_neg ((hk .V).not.2 (by decide))
    rw [hV, hout]

section
variable {a : Attempt} {t0 : Nat} {k : Camera} (ha : s.cap.attempt = some a) (hsince : a.frameSince = some t0)
  (hdue : t0 + a.frameLimit * 1000 ≤ s.now) (hk : ∀ j, (s.cap.cam j).frame = .triggered ↔ j = k)
include ha hsince hdue hk

/-- The frame timeout of the attempt in hand (R123). -/
theorem Core.framesOver_of :
    s.framesOver = ((s.timedOut k a).raiseFault .cameraTimeout (.cameras [k])).tryFinish := by
  have hdue' : s.due t0 a.frameLimit = true := Core.due_of s hdue
  simp only [Core.framesOver, ha, hsince, hdue', if_true]
  exact congrArg Core.tryFinish (Core.timeOutCamera_one (s.setAttempt { a with frameSince := none }) hk)

/-- Without the dose record the attempt waits on (R123). -/
theorem Core.framesOver_waits (hf : s.faults = []) (hdose : a.dose = none) :
    s.framesOver = (s.timedOut k a).raiseFault .cameraTimeout (.cameras [k]) := by
  obtain ⟨-, -, -, hcap, -⟩ := (Core.raiseFault_first (s.timedOut k a) .cameraTimeout (.cameras [k]) hf).keeps
  rw [s.framesOver_of ha hsince hdue hk]
  refine Core.tryFinish_stands _ fun b hb => .inr ?_
  rw [hcap] at hb
  obtain rfl := Option.some.inj ((s.timedOut_attempt k a).symm.trans hb)
  exact hdose

end

/-- An attempt with its dose record, one camera TAKEN and the other timed out, ends with that camera FAILED (R123,
R124). -/
theorem Core.tryFinish_timedOut {a : Attempt} {dose : DoseRecord} {k : Camera} (ha : s.cap.attempt = some a)
    (hphase : a.phase = .collecting) (hdose : a.dose = some dose) (haborting : a.aborting = false) (hside : a.side = .both)
    (hframes : ∀ j, (s.cap.cam j).frame = if j = k then .failed .timeout else .taken) :
    s.tryFinish = s.finishAttempt a (if k = .V then .versoFailed else .rectoFailed) dose := by
  have hsettled (j : Camera) : s.cap.settled a.side j = true := by
    simp only [Capture.settled, hframes]
    split <;> simp [FrameState.judged]
  have houtcome : s.cap.outcome a.side = if k = .V then .versoFailed else .rectoFailed := by
    have hbad : (FrameState.failed .timeout != .taken) = true := rfl
    cases k <;> simp [Capture.outcome, hframes, hside, Side.needs, hbad]
  simp only [Core.tryFinish, ha]
  rw [hphase, hdose, haborting, hsettled, hsettled, houtcome]
  rfl

/-- With the dose record in hand and the other camera TAKEN the frame timeout ends the attempt (R123, R124). -/
theorem Core.framesOver_ends {a : Attempt} {t0 : Nat} {k : Camera} {dose : DoseRecord} (hf : s.faults = [])
    (ha : s.cap.attempt = some a) (hphase : a.phase = .collecting) (hdose : a.dose = some dose)
    (haborting : a.aborting = false) (hside : a.side = .both) (hsince : a.frameSince = some t0)
    (hdue : t0 + a.frameLimit * 1000 ≤ s.now)
    (hframes : ∀ j, (s.cap.cam j).frame = if j = k then .triggered else .taken) :
    s.framesOver = ((s.timedOut k a).raiseFault .cameraTimeout (.cameras [k])).finishAttempt { a with frameSince := none }
      (if k = .V then .versoFailed else .rectoFailed) dose := by
  obtain ⟨-, -, -, hcap, -⟩ := (Core.raiseFault_first (s.timedOut k a) .cameraTimeout (.cameras [k]) hf).keeps
  have hk (j : Camera) : (s.cap.cam j).frame = .triggered ↔ j = k := by
    rw [hframes]
    split <;> simp [*]
  rw [s.framesOver_of ha hsince hdue hk]
  refine Core.tryFinish_timedOut _ ?_ hphase hdose haborting hside fun j => ?_
  · rw [hcap]
    exact s.timedOut_attempt k a
  · rw [hcap]
    show ((Capture.setCam k _ _).cam j).frame = _
    rw [Capture.setCam_cam]
    split
    · rfl
    next hj => exact (hframes j).trans (if_neg hj)

end

/-- Settles O49: the limit of the camera wait, and the frame timeout without and with the dose record in hand. -/
theorem camerasTimeOut : Obligations.CamerasTimeOut := by
  refine ⟨fun us t0 a s ha hf => ⟨fun st rest ask retake hphase hprep hdue hop hq hw => ?_,
      fun hphase hdose hsince hdue hV hR => ?_⟩,
    fun us t0 k a dose i v st rest ask retake s hf ha hphase hdose haborting hside hsince hdue hframes hm hv hroom hop hq
      hw => ?_⟩
  · obtain ⟨d, t, hsettle, honly, hrest, hstate, hreason, -⟩ := Core.endUnlitWith_fails (y := s.found us)
      (e := .cameraNotReady (s.core.cap.unready a.side)) rfl hop hw hq rfl
    obtain ⟨hmotion, hvols, -, hcap, hillum, -⟩ := honly.keeps
    have hring := congrArg Capture.ring hcap
    refine ⟨_, rfl, ?_⟩
    rw [State.event_core (Core.cameraWaitOver_of (s.found us) ha hphase hprep hdue), State.found_cap, hsettle]
    exact ⟨congrArg Capture.attempt hcap, hring, congrArg (·.view.suppressed) hillum,
      congrArg (·.camV.frame) hcap, congrArg (·.camR.frame) hcap, hrest, hstate, hreason, hvols, hmotion⟩
  · have hk (j : Camera) : ((s.found us).cap.cam j).frame = .triggered ↔ j = .V := by
      cases j
      · exact iff_of_true hV rfl
      · exact iff_of_false hR (by decide)
    let y : Core := (s.found us).timedOut .V a
    have honly := Core.raiseFault_first y .cameraTimeout (.cameras [.V]) hf
    obtain ⟨-, hvols, hfaults, hcap, -⟩ := honly.keeps
    obtain ⟨hstate, hreason, -⟩ := y.raiseFault_held .cameraTimeout (.cameras [.V])
    refine ⟨_, rfl, ?_⟩
    rw [State.event_core (Core.framesOver_waits (s.found us) ha hsince hdue hk hf hdose),
      Core.settle_of_sig_nil _ honly.sig]
    exact ⟨hcap, hfaults, hstate, hreason, hvols⟩
  · have hover := (s.found us).framesOver_ends hf ha hphase hdose haborting hside hsince hdue hframes
    have honly := Core.raiseFault_first ((s.found us).timedOut k a) .cameraTimeout (.cameras [k]) hf
    obtain ⟨-, -, hqueue, hop'⟩ := ((s.found us).timedOut k a).raiseFault_held .cameraTimeout (.cameras [k])
    generalize ((s.found us).timedOut k a).raiseFault .cameraTimeout (.cameras [k]) = z at hover honly hqueue hop'
    obtain ⟨-, hvols, hfaults, hcap, -⟩ := honly.keeps
    have hstamp : z.stamp = (s.found us).stamp := by rw [honly]; rfl
    obtain ⟨t, hsettle, hcap', hvols', hfaults', hrest, hstate, hreason, hok, hdimmed⟩ := Core.finishAttempt_fails (y := z)
      (a := { a with frameSince := none }) (dose := dose) (outcome := if k = .V then .versoFailed else .rectoFailed)
      haborting (by rw [hvols]; exact hm) (by rw [hvols]; exact hv) honly.sig (hop'.trans hop) hw
      (by cases k <;> simp) (hqueue.trans hq) (by rw [Core.freeExceptions, hvols]; exact hroom)
    refine ⟨_, rfl, ?_⟩
    rw [State.event_core hover, hsettle]
    refine ⟨?_, congrArg Capture.attempt hcap', ?_, hfaults'.trans hfaults, hrest, hstate, hreason, hok, hdimmed⟩
    · show t.cap.ring = _
      rw [hcap']
      show z.cap.ring ++ _ = _
      rw [hcap, Core.timedOut, Capture.setCam_ring, captureRecord, hside]
      rfl
    · show t.vols = _
      rw [hvols', hvols, hstamp]
      cases k <;> rfl

end Sys2Proof.Machine
end

section
/-! PROOF. The two lamp settings under the units' operations: most leave the illumination unit or its settings, and the others
stage a clamped setting (R70) or make the staged one active (R71). -/

namespace Sys2Proof.Machine

/-! ### Operations that leave the illumination unit -/

section
variable (s : Core)

@[simp] theorem Core.editSlot_illum (i : Fin 16) (f : Volume → Volume) : (s.editSlot i f).illum = s.illum := by
  unfold Core.editSlot
  split <;> simp

@[simp] theorem Core.editMounted_illum (f : Volume → Volume) : (s.editMounted f).illum = s.illum := by
  unfold Core.editMounted
  split <;> simp

@[simp] theorem Core.appendException_illum (i : Fin 16) (kind : ExceptionKind) (opening detail : Nat)
    (seq : Option SeqNo) : (s.appendException i kind opening detail seq).illum = s.illum := by
  unfold Core.appendException
  split <;> simp

@[simp] theorem Core.appendMounted_illum (kind : ExceptionKind) (opening detail : Nat) (seq : Option SeqNo) :
    (s.appendMounted kind opening detail seq).illum = s.illum := by
  unfold Core.appendMounted
  split <;> simp

@[simp] theorem Core.stopPause_illum : s.stopPause.illum = s.illum := by
  unfold Core.stopPause
  split <;> simp

@[simp] theorem Core.runPause_illum : s.runPause.illum = s.illum := by
  unfold Core.runPause
  split <;> simp

@[simp] theorem Core.reportHold_illum (reason : HoldReason) : (s.reportHold reason).illum = s.illum := rfl

@[simp] theorem Core.setHold_illum (reason : HoldReason) : (s.setHold reason).illum = s.illum := by
  simp [Core.setHold]

@[simp] theorem Core.enterHold_illum (reason : HoldReason) : (s.enterHold reason).illum = s.illum := by
  simp [s.enterHold_keeps]

@[simp] theorem Core.raiseFault_illum (k : FaultKind) (d : FaultDetail) : (s.raiseFault k d).illum = s.illum := by
  simp [s.raiseFault_keeps]

@[simp] theorem Core.reportAssist_illum (k : AssistKind) (opening : Option Nat) :
    (s.reportAssist k opening).illum = s.illum := rfl

@[simp] theorem Core.holdInterlock_illum : s.holdInterlock.illum = s.illum := by
  unfold Core.holdInterlock
  dsimp only
  split <;> simp

@[simp] theorem Core.endFaults_illum (es : List FaultEntry) : (s.endFaults es).illum = s.illum := by
  induction es generalizing s with
  | nil => rfl
  | cons e es ih =>
    unfold Core.endFaults
    split <;> simp [ih]

@[simp] theorem Core.judgeFaults_illum : s.judgeFaults.illum = s.illum := by
  simp [Core.judgeFaults]

@[simp] theorem Core.beginPeriodAt_illum (eV : Nat) : (s.beginPeriodAt eV).illum = s.illum := by
  unfold Core.beginPeriodAt
  split <;> simp

@[simp] theorem Core.beginPeriod_illum : s.beginPeriod.illum = s.illum := by
  simp [Core.beginPeriod]

@[simp] theorem Core.withdraw_illum (ch : Channel) (gone : Requester → Bool) :
    (s.withdraw ch gone).illum = s.illum := rfl

@[simp] theorem Core.writeRecord_illum (r : Record) : (s.writeRecord r).illum = s.illum := by
  unfold Core.writeRecord
  dsimp only
  (repeat' split) <;> simp

@[simp] theorem Core.latchCapture_illum (ok dimmed : Bool) : (s.latchCapture ok dimmed).illum = s.illum := rfl

@[simp] theorem Core.setPlaten_illum (p : PlatenState) : (s.setPlaten p).illum = s.illum := by
  simp [Core.setPlaten]

@[simp] theorem Core.setArm_illum (a : ArmState) (stage : ArmStage) : (s.setArm a stage).illum = s.illum := by
  simp [Core.setArm]

@[simp] theorem Core.setAngle_illum (a : AngleState) : (s.setAngle a).illum = s.illum := by
  simp [Core.setAngle]

@[simp] theorem Core.angleStopped_illum : s.angleStopped.illum = s.illum := by
  unfold Core.angleStopped
  split <;> simp

@[simp] theorem Core.dropForce_illum : s.dropForce.illum = s.illum := rfl

@[simp] theorem Core.dropGauge_illum : s.dropGauge.illum = s.illum := rfl

@[simp] theorem Core.startPlaten_illum (m : PlatenMove) : (s.startPlaten m).illum = s.illum := by
  simp [Core.startPlaten]

@[simp] theorem Core.startArm_illum (m : ArmMove) (stage : ArmStage) : (s.startArm m stage).illum = s.illum := by
  simp [Core.startArm]

@[simp] theorem Core.beginRaise_illum : s.beginRaise.illum = s.illum := by
  simp [Core.beginRaise]

@[simp] theorem Core.askRaise_illum : s.askRaise.1.illum = s.illum := by
  unfold Core.askRaise
  split <;> simp

@[simp] theorem Core.failLowering_illum (force : Bool) (r : PlatenReason) :
    (s.failLowering force r).illum = s.illum := by
  simp [Core.failLowering]

@[simp] theorem Core.forceResult_illum (r : Result) : (s.forceResult r).illum = s.illum := by
  unfold Core.forceResult
  (repeat' split) <;> simp

@[simp] theorem Core.refuseTurn_illum (o : TurnOutcome) : (s.refuseTurn o).illum = s.illum := rfl

@[simp] theorem Core.beginSuck_illum (t : Turn) : (s.beginSuck t).illum = s.illum := rfl

@[simp] theorem Core.turnAtUp_illum : s.turnAtUp.illum = s.illum := by
  unfold Core.turnAtUp
  (repeat' split) <;> simp

@[simp] theorem Core.turnFromPlaten_illum : s.turnFromPlaten.illum = s.illum := by
  have hraise := s.askRaise_illum
  unfold Core.turnFromPlaten
  rcases hx : s.askRaise with ⟨x, answer⟩
  cases answer <;> simp_all

@[simp] theorem Core.askTurn_illum : s.askTurn.illum = s.illum := by
  unfold Core.askTurn
  (repeat' split) <;> simp

@[simp] theorem Core.putDown_illum (why : PutDown) : (s.putDown why).illum = s.illum := rfl

@[simp] theorem Core.beginReturn_illum : s.beginReturn.illum = s.illum := by
  simp [Core.beginReturn]

@[simp] theorem Core.giveAssist_illum (k : AssistKind) (t : Turn) : (s.giveAssist k t).illum = s.illum := by
  unfold Core.giveAssist
  dsimp only
  split <;> simp

@[simp] theorem Core.countFailure_illum (why : PutDown) (t : Turn) : (s.countFailure why t).illum = s.illum := by
  unfold Core.countFailure
  split <;> simp

@[simp] theorem Core.attemptFailed_illum (why : PutDown) (t : Turn) : (s.attemptFailed why t).illum = s.illum := by
  unfold Core.attemptFailed
  dsimp only
  (repeat' split) <;> simp

@[simp] theorem Core.tryGauging_illum : s.tryGauging.illum = s.illum := by
  unfold Core.tryGauging
  split <;> simp

@[simp] theorem Core.gaugeResult_illum (r : Result) : (s.gaugeResult r).illum = s.illum := by
  unfold Core.gaugeResult
  (repeat' split) <;> simp

@[simp] theorem Core.vacuumLoss_illum (n : Nat) : (s.vacuumLoss n).illum = s.illum := by
  unfold Core.vacuumLoss
  dsimp only
  (repeat' split) <;> simp

@[simp] theorem Core.endTurn_illum : s.endTurn.illum = s.illum := by
  unfold Core.endTurn
  (repeat' split) <;> simp

@[simp] theorem Core.openRefResult_illum (r : Result) : (s.openRefResult r).illum = s.illum := by
  unfold Core.openRefResult
  (repeat' split) <;> simp

@[simp] theorem Core.armFault_illum (m : ArmMove) : (s.armFault m).illum = s.illum := by
  unfold Core.armFault
  dsimp only
  (repeat' split) <;> simp

@[simp] theorem Core.tellRaise_illum (ok : Bool) : (s.tellRaise ok).illum = s.illum := by
  unfold Core.tellRaise
  split <;> simp

@[simp] theorem Core.platenArrived_illum : s.platenArrived.illum = s.illum := by
  unfold Core.platenArrived
  dsimp only
  split <;> simp

@[simp] theorem Core.raiseFailed_illum : s.raiseFailed.illum = s.illum := by
  unfold Core.raiseFailed
  dsimp only
  split <;> simp

@[simp] theorem Core.moveAngle_illum (target : Nat) : (s.moveAngle target).illum = s.illum := by
  simp [Core.moveAngle]

@[simp] theorem Core.mountAngle_illum (target : Nat) : (s.mountAngle target).illum = s.illum := by
  unfold Core.mountAngle
  (repeat' split) <;> simp

@[simp] theorem Core.endHoming_illum (h : Homing) (outcome : HomingOutcome) (renewed : Bool) :
    (s.endHoming h outcome renewed).illum = s.illum := rfl

@[simp] theorem Core.unreference_illum (p : HomingPhase) : (s.unreference p).illum = s.illum := by
  unfold Core.unreference
  split <;> simp

@[simp] theorem Core.breakHoming_illum (outcome : HomingOutcome) : (s.breakHoming outcome).illum = s.illum := by
  unfold Core.breakHoming
  split <;> simp

@[simp] theorem Core.enterPhase_illum (h : Homing) (p : HomingPhase) : (s.enterPhase h p).illum = s.illum := rfl

@[simp] theorem Core.beginHoming_illum (entry : Nat) : (s.beginHoming entry).illum = s.illum := by
  simp [Core.beginHoming]

@[simp] theorem Core.homingRefResult_illum (r : Result) : (s.homingRefResult r).illum = s.illum := by
  unfold Core.homingRefResult
  (repeat' split) <;> simp

@[simp] theorem Core.awaitCameras_illum (a : Attempt) : (s.awaitCameras a).illum = s.illum := rfl

@[simp] theorem Core.writeMark_illum (note : Nat) : (s.writeMark note).illum = s.illum := by
  simp [Core.writeMark]

@[simp] theorem Core.askMark_illum (note : Nat) : (s.askMark note).illum = s.illum := by
  unfold Core.askMark
  (repeat' split) <;> simp

@[simp] theorem Core.captureBreak_illum : s.captureBreak.illum = s.illum := by
  unfold Core.captureBreak
  (repeat' split) <;> simp

@[simp] theorem Core.markAborting_illum : s.markAborting.illum = s.illum := by
  unfold Core.markAborting
  (repeat' split) <;> simp

@[simp] theorem Core.latchResult_illum (ch : Channel) (r : Result) : (s.latchResult ch r).illum = s.illum := by
  simp [Core.latchResult]

@[simp] theorem Core.setAwaiting_illum (k : Option Awaited) : (s.setAwaiting k).illum = s.illum := rfl

@[simp] theorem Core.setHeadWork_illum (w : StepWork) : (s.setHeadWork w).illum = s.illum := by
  unfold Core.setHeadWork
  split <;> simp

@[simp] theorem Core.reportStep_illum (st : Step) (result : StepResult) (reason : Option StepReason) (extra : StepExtra)
    : (s.reportStep st result reason extra).illum = s.illum := rfl

@[simp] theorem Core.endStep_illum (result : StepResult) (reason : Option StepReason) (extra : StepExtra) :
    (s.endStep result reason extra).illum = s.illum := by
  unfold Core.endStep
  dsimp only
  (repeat' split) <;> simp

@[simp] theorem Core.endPlain_illum (result : StepResult) (reason : StepReason) :
    (s.endPlain result reason).illum = s.illum := by
  unfold Core.endPlain
  split <;> simp

@[simp] theorem Core.awaitAssist_illum (k : Awaited) : (s.awaitAssist k).illum = s.illum := by
  unfold Core.awaitAssist
  dsimp only
  split <;> simp

@[simp] theorem Core.holdAtStart_illum (r : HoldReason) : (s.holdAtStart r).illum = s.illum := by
  unfold Core.holdAtStart
  split <;> simp

@[simp] theorem Core.setCycle_illum (c : CycleProgress) : (s.setCycle c).illum = s.illum := rfl

@[simp] theorem Core.endCycle_illum (result : StepResult) (reason : StepReason) (c : CycleProgress) (stop : Nat) :
    (s.endCycle result reason c stop).illum = s.illum := by
  simp [Core.endCycle]

@[simp] theorem Core.cycleE_illum (c : CycleProgress) : (s.cycleE c).illum = s.illum := by
  unfold Core.cycleE
  dsimp only
  split <;> simp

@[simp] theorem Core.cycleD_illum (c : CycleProgress) (stop : Nat) : (s.cycleD c stop).illum = s.illum := by
  have hraise := (s.setCycle { c with pos := .D }).askRaise_illum
  unfold Core.cycleD
  split
  · rcases hx : (s.setCycle { c with pos := .D }).askRaise with ⟨x, answer⟩
    cases answer <;> simp_all
  · simp

@[simp] theorem Core.cycleC_illum (c : CycleProgress) (stop : Nat) : (s.cycleC c stop).illum = s.illum := by
  unfold Core.cycleC
  (repeat' split) <;> simp

@[simp] theorem Core.stepMark_illum (seq : Option SeqNo) : (s.stepMark seq).illum = s.illum := by
  unfold Core.stepMark
  (repeat' split) <;> simp

@[simp] theorem Core.stepRaised_illum : s.stepRaised.illum = s.illum := by
  unfold Core.stepRaised
  dsimp only
  (repeat' split) <;> simp

@[simp] theorem Core.halt_illum : s.halt.illum = s.illum := by
  unfold Core.halt
  (repeat' split) <;> simp

@[simp] theorem Core.seqBreak_illum : s.seqBreak.illum = s.illum := by
  unfold Core.seqBreak
  split <;> simp

@[simp] theorem Core.reportCancelled_illum (reason : StepReason) (count : Nat) (steps : List Step) :
    (s.reportCancelled reason count steps).illum = s.illum := by
  induction steps generalizing s count with
  | nil => rfl
  | cons st rest ih => simp [Core.reportCancelled, ih]

end

/-! ### Operations that leave the two lamp settings -/

/-- The staged and the active lamp setting stand. -/
@[simp] abbrev Core.LampsStand (s t : Core) : Prop :=
  t.illum.staged = s.illum.staged ∧ t.illum.active = s.illum.active

section
variable (s : Core)

@[simp] theorem Core.withView_lampsStand (f : ViewLight → ViewLight) : Core.LampsStand s (s.withView f) := by
  unfold Core.withView
  dsimp only
  (repeat' split) <;> simp

@[simp] theorem Core.reviseView_lampsStand : Core.LampsStand s s.reviseView := by
  unfold Core.reviseView
  (repeat' split) <;> simp

@[simp] theorem Core.fullPeriod_lampsStand (a : Accrual) : Core.LampsStand s (s.fullPeriod a) := by
  unfold Core.fullPeriod
  dsimp only
  split <;> simp

@[simp] theorem Core.moveCursor_lampsStand (k : Nat) : Core.LampsStand s (s.moveCursor k) := by
  unfold Core.moveCursor
  dsimp only
  split <;> simp

@[simp] theorem Core.captureLampOn_lampsStand (qPlan : Nat) : Core.LampsStand s (s.captureLampOn qPlan) := by
  unfold Core.captureLampOn
  (repeat' split) <;> simp

@[simp] theorem Core.lampOn_lampsStand : Core.LampsStand s s.lampOn := by
  unfold Core.lampOn
  (repeat' split) <;> simp

@[simp] theorem Core.grant_lampsStand (ch : Channel) (e : PendingConv) : Core.LampsStand s (s.grant ch e) := by
  unfold Core.grant
  split <;> simp

@[simp] theorem Core.grantNext_lampsStand : Core.LampsStand s s.grantNext := by
  unfold Core.grantNext
  (repeat' split) <;> simp

@[simp] theorem Core.post_lampsStand (ch : Channel) (kind : ConvKind) (who : Requester) :
    Core.LampsStand s (s.post ch kind who) := by
  unfold Core.post
  (repeat' split) <;> simp

@[simp] theorem Core.abandonWindow_lampsStand : Core.LampsStand s s.abandonWindow := by
  unfold Core.abandonWindow
  dsimp only
  (repeat' split) <;> simp

@[simp] theorem Core.restoreView_lampsStand : Core.LampsStand s s.restoreView := by
  simp [Core.restoreView]

@[simp] theorem Core.recordAttempt_lampsStand (a : Attempt) (outcome : CaptureOutcome) (dose : DoseRecord) :
    Core.LampsStand s (s.recordAttempt a outcome dose) := by
  unfold Core.recordAttempt
  split <;> simp

@[simp] theorem Core.finishAttempt_lampsStand (a : Attempt) (outcome : CaptureOutcome) (dose : DoseRecord) :
    Core.LampsStand s (s.finishAttempt a outcome dose) := by
  unfold Core.finishAttempt
  split <;> simp

@[simp] theorem Core.tryFinish_lampsStand : Core.LampsStand s s.tryFinish := by
  unfold Core.tryFinish
  (repeat' split) <;> simp

@[simp] theorem Core.captureDose_lampsStand (rec_ : DoseRecord) : Core.LampsStand s (s.captureDose rec_) := by
  unfold Core.captureDose
  split <;> simp

@[simp] theorem Core.captureLampOff_lampsStand : Core.LampsStand s s.captureLampOff := by
  unfold Core.captureLampOff
  (repeat' split) <;> simp

@[simp] theorem Core.endUnlit_lampsStand : Core.LampsStand s s.endUnlit := by
  simp [Core.endUnlit]

@[simp] theorem Core.endUnlitWith_lampsStand (e : AttemptEnding) : Core.LampsStand s (s.endUnlitWith e) := by
  simp [Core.endUnlitWith]

@[simp] theorem Core.dropFlash_lampsStand : Core.LampsStand s s.dropFlash := by
  simp [Core.dropFlash]

@[simp] theorem Core.refuseFlash_lampsStand (f : Flash) (r : FlashRefusal) : Core.LampsStand s (s.refuseFlash f r) := by
  unfold Core.refuseFlash
  split <;> simp

@[simp] theorem Core.meetHold_lampsStand (f : Flash) : Core.LampsStand s (s.meetHold f) := by
  unfold Core.meetHold
  split <;> simp

@[simp] theorem Core.enterThermal_lampsStand (value : Option Int) : Core.LampsStand s (s.enterThermal value) := by
  unfold Core.enterThermal
  dsimp only
  split <;> simp

@[simp] theorem Core.testHold_lampsStand (faulted : Bool) (value : Option Int) :
    Core.LampsStand s (s.testHold faulted value) := by
  unfold Core.testHold
  split <;> simp

@[simp] theorem Core.handWindow_lampsStand (r : Option Result) : Core.LampsStand s (s.handWindow r) := by
  unfold Core.handWindow
  (repeat' split) <;> simp

@[simp] theorem Core.lampsOff_lampsStand (f : Flash) : Core.LampsStand s (s.lampsOff f) := by
  unfold Core.lampsOff
  split <;> simp

@[simp] theorem Core.abortLit_lampsStand (f : Flash) : Core.LampsStand s (s.abortLit f) := by
  unfold Core.abortLit
  split <;> simp

@[simp] theorem Core.illumAbort_lampsStand : Core.LampsStand s s.illumAbort := by
  unfold Core.illumAbort
  (repeat' split) <;> simp

@[simp] theorem Core.sampleForce_lampsStand : Core.LampsStand s s.sampleForce := by
  simp [Core.sampleForce]

@[simp] theorem Core.beginLowering_lampsStand : Core.LampsStand s s.beginLowering := by
  unfold Core.beginLowering
  dsimp only
  split <;> simp

@[simp] theorem Core.askLowering_lampsStand : Core.LampsStand s s.askLowering := by
  unfold Core.askLowering
  (repeat' split) <;> simp

@[simp] theorem Core.layLeaf_lampsStand (t : Turn) : Core.LampsStand s (s.layLeaf t) := by
  simp [Core.layLeaf]

@[simp] theorem Core.takeHeld_lampsStand : Core.LampsStand s s.takeHeld := by
  unfold Core.takeHeld
  dsimp only
  (repeat' split) <;> simp

@[simp] theorem Core.phaseDone_lampsStand (h : Homing) : Core.LampsStand s (s.phaseDone h) := by
  unfold Core.phaseDone
  split <;> simp

@[simp] theorem Core.phaseFailed_lampsStand (h : Homing) : Core.LampsStand s (s.phaseFailed h) := by
  simp [Core.phaseFailed]

@[simp] theorem Core.motionBreak_lampsStand : Core.LampsStand s s.motionBreak := by
  unfold Core.motionBreak
  dsimp only
  (repeat' split) <;> simp

@[simp] theorem Core.resumePlaten_lampsStand : Core.LampsStand s s.resumePlaten := by
  unfold Core.resumePlaten
  split <;> simp

@[simp] theorem Core.resumeArm_lampsStand (m : ArmMove) (t : Turn) : Core.LampsStand s (s.resumeArm m t) := by
  unfold Core.resumeArm
  dsimp only
  (repeat' split) <;> simp

@[simp] theorem Core.abortStopped_lampsStand (m : ArmMove) (t : Turn) : Core.LampsStand s (s.abortStopped m t) := by
  unfold Core.abortStopped
  (repeat' split) <;> simp

@[simp] theorem Core.motionResume_lampsStand : Core.LampsStand s s.motionResume := by
  unfold Core.motionResume
  dsimp only
  (repeat' split) <;> simp

@[simp] theorem Core.recoverArm_lampsStand : Core.LampsStand s s.recoverArm := by
  unfold Core.recoverArm
  (repeat' split) <;> simp

@[simp] theorem Core.motionClear_lampsStand : Core.LampsStand s s.motionClear := by
  unfold Core.motionClear
  dsimp only
  (repeat' split) <;> simp

@[simp] theorem Core.abortArm_lampsStand : Core.LampsStand s s.abortArm := by
  unfold Core.abortArm
  dsimp only
  (repeat' split) <;> simp

@[simp] theorem Core.abortPlaten_lampsStand : Core.LampsStand s s.abortPlaten := by
  unfold Core.abortPlaten
  dsimp only
  (repeat' split) <;> simp

@[simp] theorem Core.motionAbort_lampsStand : Core.LampsStand s s.motionAbort := by
  simp [Core.motionAbort]

@[simp] theorem Core.gainPlace_lampsStand (a : Attempt) : Core.LampsStand s (s.gainPlace a) := by
  unfold Core.gainPlace
  dsimp only
  split <;> simp

@[simp] theorem Core.askAttempt_lampsStand (ask : SideAsked) : Core.LampsStand s (s.askAttempt ask) := by
  unfold Core.askAttempt
  (repeat' split) <;> simp

@[simp] theorem Core.attemptPlatenFailed_lampsStand (r : PlatenReason) :
    Core.LampsStand s (s.attemptPlatenFailed r) := by
  unfold Core.attemptPlatenFailed
  (repeat' split) <;> simp

@[simp] theorem Core.attemptRefused_lampsStand (r : FlashRefusal) : Core.LampsStand s (s.attemptRefused r) := by
  unfold Core.attemptRefused
  (repeat' split) <;> simp

@[simp] theorem Core.takeRoom_lampsStand : Core.LampsStand s s.takeRoom := by
  unfold Core.takeRoom
  (repeat' split) <;> simp

@[simp] theorem Core.captureAbort_lampsStand : Core.LampsStand s s.captureAbort := by
  unfold Core.captureAbort
  (repeat' split) <;> simp

@[simp] theorem Core.cycleB_lampsStand (c : CycleProgress) (stop : Nat) : Core.LampsStand s (s.cycleB c stop) := by
  unfold Core.cycleB
  dsimp only
  (repeat' split) <;> simp

@[simp] theorem Core.cycleA_lampsStand (c : CycleProgress) (stop : Nat) : Core.LampsStand s (s.cycleA c stop) := by
  unfold Core.cycleA
  split <;> simp

@[simp] theorem Core.cycleAct_lampsStand (c : CycleProgress) (stop retakes : Nat) :
    Core.LampsStand s (s.cycleAct c stop retakes) := by
  unfold Core.cycleAct
  (repeat' split) <;> simp

@[simp] theorem Core.cycleTo_lampsStand (c : CycleProgress) : Core.LampsStand s (s.cycleTo c) := by
  unfold Core.cycleTo
  dsimp only
  (repeat' split) <;> simp

@[simp] theorem Core.startCycle_lampsStand (stop : Nat) : Core.LampsStand s (s.startCycle stop) := by
  unfold Core.startCycle
  split <;> simp

@[simp] theorem Core.cycleAttempt_lampsStand (e : AttemptEnding) (c : CycleProgress) (stop retakes : Nat) :
    Core.LampsStand s (s.cycleAttempt e c stop retakes) := by
  unfold Core.cycleAttempt
  (repeat' split) <;> simp

@[simp] theorem Core.stepAttempt_lampsStand (e : AttemptEnding) : Core.LampsStand s (s.stepAttempt e) := by
  unfold Core.stepAttempt
  dsimp only
  (repeat' split) <;> simp

@[simp] theorem Core.stepTurn_lampsStand (o : TurnOutcome) : Core.LampsStand s (s.stepTurn o) := by
  unfold Core.stepTurn
  dsimp only
  (repeat' split) <;> simp

@[simp] theorem Core.takeOn_lampsStand : Core.LampsStand s s.takeOn := by
  unfold Core.takeOn
  dsimp only
  split <;> simp

@[simp] theorem Core.abort_lampsStand : Core.LampsStand s s.abort := by
  unfold Core.abort
  dsimp only
  split <;> simp

end

/-! ### Staging and admission keep the ranges -/

section
variable {α : Type} [LE α] {new old lo hi : α} (m : Mask) (n : Nat)

theorem pick_le (hnew : new ≤ hi) (hold : old ≤ hi) : pick m n new old ≤ hi := by
  unfold pick
  split <;> assumption

theorem le_pick (hnew : lo ≤ new) (hold : lo ≤ old) : lo ≤ pick m n new old := by
  unfold pick
  split <;> assumption

end

/-- The clamps of section 4.1.1 bring a setting into its ranges (R70). -/
theorem settingClamp_legal (x : Setting) : (settingClamp x).Legal := by
  simp only [Setting.Legal, settingClamp, clamp]
  omega

/-- Fields taken from one legal setting and kept from another make a legal one (R70). -/
theorem settingMerge_legal {new old : Setting} (m : Mask) (hnew : new.Legal) (hold : old.Legal) :
    (settingMerge m new old).Legal := by
  obtain ⟨hvu, hvl, hru, hrl, hlow, hhigh, hfloor, hview⟩ := hnew
  obtain ⟨hvu', hvl', hru', hrl', hlow', hhigh', hfloor', hview'⟩ := hold
  exact ⟨pick_le m 1 hvu hvu', pick_le m 2 hvl hvl', pick_le m 3 hru hru', pick_le m 4 hrl hrl', le_pick m 5 hlow hlow',
    pick_le m 5 hhigh hhigh', pick_le m 6 hfloor hfloor', pick_le m 7 hview hview'⟩

/-- The staged and the active lamp setting are in their ranges (R70, R71). -/
@[simp] abbrev Core.LampsLegal (s : Core) : Prop := s.illum.staged.Legal ∧ s.illum.active.Legal

section
variable (s : Core) (hs : s.LampsLegal)
include hs

/-- An admission makes the staged setting the active one (R71). -/
@[simp] theorem Core.admitFlash_lamps (f : Flash) (r : Result) : (s.admitFlash f r).LampsLegal := by
  unfold Core.admitFlash
  dsimp only
  (repeat' split) <;> simp [hs]

@[simp] theorem Core.useReading_lamps (r : Result) : (s.useReading r).LampsLegal := by
  unfold Core.useReading
  (repeat' split) <;> simp [hs]

@[simp] theorem Core.advance_lamps : s.advance.LampsLegal := by
  unfold Core.advance
  (repeat' split) <;> simp [hs]

@[simp] theorem Core.enterAdmitting_lamps (f : Flash) : (s.enterAdmitting f).LampsLegal := by
  unfold Core.enterAdmitting
  dsimp only
  (repeat' split) <;> simp [hs]

@[simp] theorem Core.leaveThermal_lamps (value : Option Int) : (s.leaveThermal value).LampsLegal := by
  unfold Core.leaveThermal
  dsimp only
  split <;> simp [hs]

@[simp] theorem Core.thermalTest_lamps (faulted : Bool) (value : Option Int) :
    (s.thermalTest faulted value).LampsLegal := by
  unfold Core.thermalTest
  split <;> simp [hs]

@[simp] theorem Core.thermalAtMount_lamps : s.thermalAtMount.LampsLegal := by
  unfold Core.thermalAtMount
  split <;> simp [hs]

@[simp] theorem Core.askFlash_lamps (side : Side) : (s.askFlash side).LampsLegal := by
  unfold Core.askFlash
  (repeat' split) <;> simp [hs]

@[simp] theorem Core.giveLeave_lamps : s.giveLeave.LampsLegal := by
  unfold Core.giveLeave
  split <;> simp [hs]

@[simp] theorem Core.illumBreak_lamps : s.illumBreak.LampsLegal := by
  unfold Core.illumBreak
  (repeat' split) <;> simp [hs]

@[simp] theorem Core.enterAdmission_lamps (a : Attempt) : (s.enterAdmission a).LampsLegal := by
  simp [Core.enterAdmission, hs]

@[simp] theorem Core.startCameraWait_lamps (a : Attempt) : (s.startCameraWait a).LampsLegal := by
  unfold Core.startCameraWait
  dsimp only
  split <;> simp [hs]

@[simp] theorem Core.attemptPlatenDown_lamps : s.attemptPlatenDown.LampsLegal := by
  unfold Core.attemptPlatenDown
  (repeat' split) <;> simp [hs]

@[simp] theorem Core.liftMark_lamps : s.liftMark.LampsLegal := by
  unfold Core.liftMark
  dsimp only
  (repeat' split) <;> simp [hs]

@[simp] theorem Core.handTo_lamps (ch : Channel) (r : Result) (who : Requester) : (s.handTo ch r who).LampsLegal := by
  unfold Core.handTo
  (repeat' split) <;> simp [hs]

@[simp] theorem Core.handT_lamps (r : Result) : (s.handT r).LampsLegal := by
  unfold Core.handT
  split <;> simp [hs]

@[simp] theorem Core.handAll_lamps (c : Conversion) (r : Result) : (s.handAll c r).LampsLegal := by
  have hall (rs : List Requester) (x : Core) (hx : x.LampsLegal) :
      (rs.foldl (fun x who => x.handTo c.channel r who) x).LampsLegal := by
    induction rs generalizing x with
    | nil => exact hx
    | cons who rs ih => exact ih _ (x.handTo_lamps hx c.channel r who)
  unfold Core.handAll
  dsimp only
  split
  · simpa using hall _ _ (s.handT_lamps hs r)
  · simpa using hall _ _ hs

@[simp] theorem Core.deliver_lamps (c : Conversion) (raw : Int) : (s.deliver c raw).LampsLegal := by
  simp [Core.deliver, hs]

@[simp] theorem Core.declareFault_lamps (c : Conversion) : (s.declareFault c).LampsLegal := by
  simp [Core.declareFault, hs]

/-- A setting is staged with its clamps (R70). -/
@[simp] theorem Core.stage_lamps (m : Mask) (x : Setting) : (s.stage m x).LampsLegal := by
  simpa [Core.stage, hs] using settingMerge_legal m (settingClamp_legal x) hs.1

@[simp] theorem Core.beginWork_lamps (w : StepWork) : (s.beginWork w).LampsLegal := by
  unfold Core.beginWork
  split <;> simp [hs]

@[simp] theorem Core.startHead_lamps : s.startHead.LampsLegal := by
  unfold Core.startHead
  (repeat' split) <;> simp [hs]

@[simp] theorem Core.release_lamps : s.release.LampsLegal := by
  unfold Core.release
  dsimp only
  (repeat' split) <;> simp [hs]

@[simp] theorem Core.confirmTurn_lamps : s.confirmTurn.LampsLegal := by
  unfold Core.confirmTurn
  dsimp only
  (repeat' split) <;> simp [hs]

@[simp] theorem Core.handle_lamps (g : Signal) : (s.handle g).LampsLegal := by
  unfold Core.handle
  split <;> simp [hs]

@[simp] theorem Core.settleWithin_lamps (n : Nat) : (s.settleWithin n).LampsLegal := by
  induction n generalizing s with
  | zero => exact hs
  | succ n ih =>
    unfold Core.settleWithin
    split
    · exact hs
    next g rest _ => exact ih _ (Core.handle_lamps { s with sig := rest } hs g)

@[simp] theorem Core.settle_lamps : s.settle.LampsLegal := by
  simp [Core.settle, hs]

end

end Sys2Proof.Machine
end

section
/-! PROOF. Every command keeps the staged and the active lamp setting in their ranges. -/

namespace Sys2Proof.Machine

/-! ### Operations of the panel that leave the illumination unit -/

section
variable (s : Core)

@[simp] theorem Core.setInput_illum (i : PanelInput) (x : InputState) : (s.setInput i x).illum = s.illum := rfl

@[simp] theorem Core.setPressed_illum (i : PanelInput) : (s.setPressed i).illum = s.illum := rfl

@[simp] theorem Core.tone_illum : s.tone.illum = s.illum := rfl

@[simp] theorem Core.reportPress_illum (i : PanelInput) (a : PanelAction) : (s.reportPress i a).illum = s.illum := rfl

@[simp] theorem Core.clearVacuum_illum : s.clearVacuum.illum = s.illum := rfl

end

section
variable (s : Core) (hs : s.LampsLegal)
include hs

/-! ### The volume table -/

@[simp] theorem Core.classSet_lamps (id cls : Nat) (m : Mask) (x : ClassFields) :
    (s.classSet id cls m x).LampsLegal := by
  unfold Core.classSet
  dsimp only
  (repeat' split) <;> simp [hs]

@[simp] theorem Core.volumeAdd_lamps (id : Nat) (shelf : List Byte) (cls budget : Nat) (m : Mask) (p : Nat)
    (segs : List SegmentSpec) : (s.volumeAdd id shelf cls budget m p segs).LampsLegal := by
  unfold Core.volumeAdd
  dsimp only
  (repeat' split) <;> simp [hs]

@[simp] theorem Core.mount_lamps (i : Fin 16) (cursor : Nat) : (s.mount i cursor).LampsLegal := by
  simp [Core.mount, hs]

@[simp] theorem Core.volumeMount_lamps (id slot : Nat) (m : Mask) (start angle : Nat) :
    (s.volumeMount id slot m start angle).LampsLegal := by
  unfold Core.volumeMount
  dsimp only
  (repeat' split) <;> simp [hs]

@[simp] theorem Core.endMounting_lamps : s.endMounting.LampsLegal := by
  simp [Core.endMounting, hs]

@[simp] theorem Core.leaveFor_lamps (i : Fin 16) (st : RecordState) : (s.leaveFor i st).LampsLegal := by
  unfold Core.leaveFor
  dsimp only
  (repeat' split) <;> simp [hs]

@[simp] theorem Core.volumeUnmount_lamps (id slot : Nat) : (s.volumeUnmount id slot).LampsLegal := by
  unfold Core.volumeUnmount
  (repeat' split) <;> simp [hs]

@[simp] theorem Core.volumeClose_lamps (id slot : Nat) (force : Bool) : (s.volumeClose id slot force).LampsLegal := by
  unfold Core.volumeClose
  dsimp only
  (repeat' split) <;> simp [hs]

@[simp] theorem Core.volumeWithdraw_lamps (id slot : Nat) : (s.volumeWithdraw id slot).LampsLegal := by
  unfold Core.volumeWithdraw
  (repeat' split) <;> simp [hs]

@[simp] theorem Core.volumeRemove_lamps (id slot : Nat) : (s.volumeRemove id slot).LampsLegal := by
  unfold Core.volumeRemove
  (repeat' split) <;> simp [hs]

@[simp] theorem Core.volumeSet_lamps (id slot : Nat) (m : Mask) (budget p cls : Nat) (segs : List SegmentSpec) :
    (s.volumeSet id slot m budget p cls segs).LampsLegal := by
  unfold Core.volumeSet
  dsimp only
  (repeat' split) <;> simp [hs]

@[simp] theorem Core.volumeGet_lamps (id slot : Nat) (m : Mask) (start : Nat) :
    (s.volumeGet id slot m start).LampsLegal := by
  unfold Core.volumeGet
  (repeat' split) <;> simp [hs]

@[simp] theorem Core.revisit_lamps (k : Nat) : (s.revisit k).LampsLegal := by
  simp [Core.revisit, hs]

@[simp] theorem Core.cursorSet_lamps (id opening : Nat) : (s.cursorSet id opening).LampsLegal := by
  unfold Core.cursorSet
  dsimp only
  (repeat' split) <;> simp [hs]

@[simp] theorem Core.exceptionsTake_lamps (id slot n : Nat) : (s.exceptionsTake id slot n).LampsLegal := by
  unfold Core.exceptionsTake
  (repeat' split) <;> simp [hs]

/-! ### Light -/

@[simp] theorem Core.lightStage_lamps (id : Nat) (m : Mask) (x : Setting) : (s.lightStage id m x).LampsLegal := by
  unfold Core.lightStage
  dsimp only
  (repeat' split) <;> simp [hs]

@[simp] theorem Core.limitsSet_lamps (id eOp : Nat) : (s.limitsSet id eOp).LampsLegal := by
  simp [Core.limitsSet, hs]

@[simp] theorem Core.lampsCalibrate_lamps (id : Nat) (m : Mask) (x : LampCal) :
    (s.lampsCalibrate id m x).LampsLegal := by
  unfold Core.lampsCalibrate
  dsimp only
  (repeat' split) <;> simp [hs]

@[simp] theorem Core.calibrationFlash_lamps (id : Nat) : (s.calibrationFlash id).LampsLegal := by
  unfold Core.calibrationFlash
  (repeat' split) <;> simp [hs]

@[simp] theorem Core.viewOn_lamps (id : Nat) : (s.viewOn id).LampsLegal := by
  unfold Core.viewOn
  dsimp only
  (repeat' split) <;> simp [hs]

@[simp] theorem Core.viewOff_lamps (id : Nat) : (s.viewOff id).LampsLegal := by
  simp [Core.viewOff, hs]

@[simp] theorem Core.lampOffEvent_lamps (window : Option Int) : (s.lampOffEvent window).LampsLegal := by
  unfold Core.lampOffEvent
  dsimp only
  (repeat' split) <;> simp [hs]

@[simp] theorem Core.recoveryOver_lamps : s.recoveryOver.LampsLegal := by
  unfold Core.recoveryOver
  (repeat' split) <;> simp [hs]

@[simp] theorem Core.thermalWaitOver_lamps : s.thermalWaitOver.LampsLegal := by
  unfold Core.thermalWaitOver
  (repeat' split) <;> simp [hs]

@[simp] theorem Core.periodOver_lamps : s.periodOver.LampsLegal := by
  unfold Core.periodOver
  (repeat' split) <;> simp [hs]

/-! ### The converter -/

@[simp] theorem Core.startTimer_lamps (was : Option CalPair) (ch : Channel) : (s.startTimer was ch).LampsLegal := by
  unfold Core.startTimer
  (repeat' split) <;> simp [hs]

@[simp] theorem Core.calibrate_lamps (id channel : Nat) (m : Mask) (x : CalPair) :
    (s.calibrate id channel m x).LampsLegal := by
  unfold Core.calibrate
  dsimp only
  (repeat' split) <;> simp [hs]

@[simp] theorem Core.measureChannel_lamps (id channel : Nat) : (s.measureChannel id channel).LampsLegal := by
  unfold Core.measureChannel
  (repeat' split) <;> simp [hs]

@[simp] theorem Core.spotArrives_lamps (code : Int) : (s.spotArrives code).LampsLegal := by
  unfold Core.spotArrives
  (repeat' split) <;> simp [hs]

@[simp] theorem Core.conversionPasses_lamps : s.conversionPasses.LampsLegal := by
  unfold Core.conversionPasses
  (repeat' split) <;> simp [hs]

@[simp] theorem Core.tempTick_lamps : s.tempTick.LampsLegal := by
  unfold Core.tempTick
  (repeat' split) <;> simp [hs]

/-! ### The cradle -/

@[simp] theorem Core.home_lamps (id : Nat) : (s.home id).LampsLegal := by
  unfold Core.home
  (repeat' split) <;> simp [hs]

@[simp] theorem Core.angleSet_lamps (id degrees : Nat) : (s.angleSet id degrees).LampsLegal := by
  unfold Core.angleSet
  dsimp only
  (repeat' split) <;> simp [hs]

@[simp] theorem Core.homingStep_lamps : s.homingStep.LampsLegal := by
  unfold Core.homingStep
  (repeat' split) <;> simp [hs]

@[simp] theorem Core.homingLimit_lamps : s.homingLimit.LampsLegal := by
  unfold Core.homingLimit
  (repeat' split) <;> simp [hs]

@[simp] theorem Core.angleArrives_lamps : s.angleArrives.LampsLegal := by
  unfold Core.angleArrives
  (repeat' split) <;> simp [hs]

@[simp] theorem Core.anglePasses_lamps : s.anglePasses.LampsLegal := by
  unfold Core.anglePasses
  dsimp only
  (repeat' split) <;> simp [hs]

@[simp] theorem Core.sampleDue_lamps : s.sampleDue.LampsLegal := by
  unfold Core.sampleDue
  (repeat' split) <;> simp [hs]

@[simp] theorem Core.settled_lamps : s.settled.LampsLegal := by
  unfold Core.settled
  (repeat' split) <;> simp [hs]

@[simp] theorem Core.loweringPasses_lamps : s.loweringPasses.LampsLegal := by
  unfold Core.loweringPasses
  dsimp only
  (repeat' split) <;> simp [hs]

@[simp] theorem Core.cupLands_lamps : s.cupLands.LampsLegal := by
  unfold Core.cupLands
  (repeat' split) <;> simp [hs]

@[simp] theorem Core.puffOver_lamps : s.puffOver.LampsLegal := by
  unfold Core.puffOver
  (repeat' split) <;> simp [hs]

@[simp] theorem Core.noVacuum_lamps : s.noVacuum.LampsLegal := by
  unfold Core.noVacuum
  (repeat' split) <;> simp [hs]

@[simp] theorem Core.vacuumFalls_lamps : s.vacuumFalls.LampsLegal := by
  unfold Core.vacuumFalls
  dsimp only
  (repeat' split) <;> simp [hs]

@[simp] theorem Core.leafIsUp_lamps : s.leafIsUp.LampsLegal := by
  unfold Core.leafIsUp
  (repeat' split) <;> simp [hs]

@[simp] theorem Core.putDownOver_lamps : s.putDownOver.LampsLegal := by
  unfold Core.putDownOver
  dsimp only
  (repeat' split) <;> simp [hs]

@[simp] theorem Core.sweepEnds_lamps : s.sweepEnds.LampsLegal := by
  unfold Core.sweepEnds
  (repeat' split) <;> simp [hs]

@[simp] theorem Core.releaseEnds_lamps : s.releaseEnds.LampsLegal := by
  unfold Core.releaseEnds
  (repeat' split) <;> simp [hs]

@[simp] theorem Core.armParks_lamps : s.armParks.LampsLegal := by
  unfold Core.armParks
  (repeat' split) <;> simp [hs]

@[simp] theorem Core.armPasses_lamps : s.armPasses.LampsLegal := by
  unfold Core.armPasses
  (repeat' split) <;> simp [hs]

/-! ### The cameras -/

@[simp] theorem Core.captureDrain_lamps (id n : Nat) : (s.captureDrain id n).LampsLegal := by
  unfold Core.captureDrain
  dsimp only
  (repeat' split) <;> simp [hs]

@[simp] theorem Core.capturePeek_lamps (id n : Nat) : (s.capturePeek id n).LampsLegal := by
  unfold Core.capturePeek
  (repeat' split) <;> simp [hs]

@[simp] theorem Core.framesSet_lamps (id ms : Nat) : (s.framesSet id ms).LampsLegal := by
  simp [Core.framesSet, hs]

@[simp] theorem Core.tryCameras_lamps : s.tryCameras.LampsLegal := by
  unfold Core.tryCameras
  (repeat' split) <;> simp [hs]

@[simp] theorem Core.cameraLines_lamps (k : Camera) (ready fault : Bool) :
    (s.cameraLines k ready fault).LampsLegal := by
  simp [Core.cameraLines, hs]

@[simp] theorem Core.cameraWaitOver_lamps : s.cameraWaitOver.LampsLegal := by
  unfold Core.cameraWaitOver
  (repeat' split) <;> simp [hs]

@[simp] theorem Core.timeOutCamera_lamps (k : Camera) : (s.timeOutCamera k).LampsLegal := by
  unfold Core.timeOutCamera
  (repeat' split) <;> simp [hs]

@[simp] theorem Core.framesOver_lamps : s.framesOver.LampsLegal := by
  unfold Core.framesOver
  (repeat' split) <;> simp [hs]

/-! ### Steps and faults -/

@[simp] theorem Core.appendStep_lamps (origin : Origin) (w : StepWork) (gate : Option Guard) :
    (s.appendStep origin w gate).LampsLegal := by
  simp [Core.appendStep, hs]

@[simp] theorem Core.startIfIdle_lamps : s.startIfIdle.LampsLegal := by
  unfold Core.startIfIdle
  (repeat' split) <;> simp [hs]

@[simp] theorem Core.stepQueue_lamps (id : Nat) (w : StepSpec) (g : Option GuardSpec) :
    (s.stepQueue id w g).LampsLegal := by
  unfold Core.stepQueue
  (repeat' split) <;> simp [hs]

@[simp] theorem Core.stopSet_lamps (id step opening : Nat) : (s.stopSet id step opening).LampsLegal := by
  unfold Core.stopSet
  dsimp only
  (repeat' split) <;> simp [hs]

@[simp] theorem Core.resume_lamps (id : Nat) : (s.resume id).LampsLegal := by
  unfold Core.resume
  dsimp only
  split <;> simp [hs]

@[simp] theorem Core.stepFlush_lamps (id : Nat) : (s.stepFlush id).LampsLegal := by
  simp [Core.stepFlush, hs]

@[simp] theorem Core.pauseOver_lamps : s.pauseOver.LampsLegal := by
  unfold Core.pauseOver
  (repeat' split) <;> simp [hs]

@[simp] theorem Core.clearAll_lamps (id : Nat) : (s.clearAll id).LampsLegal := by
  unfold Core.clearAll
  dsimp only
  (repeat' split) <;> simp [hs]

@[simp] theorem Core.clearKind_lamps (id : Nat) (k : FaultKind) : (s.clearKind id k).LampsLegal := by
  unfold Core.clearKind
  dsimp only
  (repeat' split) <;> simp [hs]

@[simp] theorem Core.faultClear_lamps (id code : Nat) : (s.faultClear id code).LampsLegal := by
  unfold Core.faultClear
  (repeat' split) <;> simp [hs]

/-! ### The panel -/

@[simp] theorem Core.queueByPanel_lamps (i : PanelInput) (w : StepWork) : (s.queueByPanel i w).LampsLegal := by
  simp [Core.queueByPanel, hs]

@[simp] theorem Core.pressContinue_lamps (i : PanelInput) : (s.pressContinue i).LampsLegal := by
  unfold Core.pressContinue
  dsimp only
  split <;> simp [hs]

@[simp] theorem Core.pressAdvance_lamps : s.pressAdvance.LampsLegal := by
  unfold Core.pressAdvance
  (repeat' split) <;> simp [hs]

@[simp] theorem Core.pressRetake_lamps : s.pressRetake.LampsLegal := by
  unfold Core.pressRetake
  (repeat' split) <;> simp [hs]

@[simp] theorem Core.pressTurned_lamps : s.pressTurned.LampsLegal := by
  unfold Core.pressTurned
  dsimp only
  (repeat' split) <;> simp [hs]

@[simp] theorem Core.pressBack_lamps : s.pressBack.LampsLegal := by
  unfold Core.pressBack
  (repeat' split) <;> simp [hs]

@[simp] theorem Core.pressHold_lamps : s.pressHold.LampsLegal := by
  simp [Core.pressHold, hs]

@[simp] theorem Core.pressAction_lamps (i : PanelInput) : (s.pressAction i).LampsLegal := by
  cases i with
  | advance => exact s.pressAdvance_lamps hs
  | retake => exact s.pressRetake_lamps hs
  | turned => exact s.pressTurned_lamps hs
  | back => exact s.pressBack_lamps hs
  | hold => exact s.pressHold_lamps hs
  | cont => exact s.pressContinue_lamps hs .cont

@[simp] theorem Core.press_lamps (i : PanelInput) : (s.press i).LampsLegal := by
  unfold Core.press
  split <;> simp [hs]

@[simp] theorem Core.releaseInput_lamps (i : PanelInput) : (s.releaseInput i).LampsLegal := by
  unfold Core.releaseInput
  dsimp only
  (repeat' split) <;> simp [hs]

@[simp] theorem Core.settleInput_lamps (i : PanelInput) : (s.settleInput i).LampsLegal := by
  unfold Core.settleInput
  dsimp only
  (repeat' split) <;> simp [hs]

@[simp] theorem Core.inputLevel_lamps (i : PanelInput) (pressed : Bool) : (s.inputLevel i pressed).LampsLegal := by
  unfold Core.inputLevel
  dsimp only
  (repeat' split) <;> simp [hs]

@[simp] theorem Core.measureInput_lamps (i : PanelInput) : (s.measureInput i).LampsLegal :=
  Core.settle_lamps _ (Core.press_lamps _ (Core.releaseInput_lamps _ (s.settleInput_lamps hs i) i) i)

theorem Core.measureInputs_lamps (is : List PanelInput) : (is.foldl Core.measureInput s).LampsLegal := by
  induction is generalizing s with
  | nil => exact hs
  | cons i is ih => exact ih _ (s.measureInput_lamps hs i)

@[simp] theorem Core.panelSet_lamps (id ms : Nat) : (s.panelSet id ms).LampsLegal := by
  unfold Core.panelSet
  split
  · exact Core.measureInputs_lamps _ (by exact hs) panelInputs
  · exact hs

@[simp] theorem Core.toneOver_lamps : s.toneOver.LampsLegal := by
  unfold Core.toneOver
  (repeat' split) <;> simp [hs]

/-! ### Counters and time -/

@[simp] theorem Core.bandsSet_lamps (id t1 t2 t3 t4 : Nat) : (s.bandsSet id t1 t2 t3 t4).LampsLegal := by
  unfold Core.bandsSet
  dsimp only
  (repeat' split) <;> simp [hs]

@[simp] theorem Core.depthSample_lamps : s.depthSample.LampsLegal := by
  unfold Core.depthSample
  (repeat' split) <;> simp [hs]

@[simp] theorem Core.tick_lamps : s.tick.LampsLegal := by
  unfold Core.tick
  dsimp only
  (repeat' split) <;> simp [hs]

/-! ### The curtain -/

@[simp] theorem Core.curtainBreaks_lamps : s.curtainBreaks.LampsLegal := by
  unfold Core.curtainBreaks
  dsimp only
  split <;> simp [hs]

@[simp] theorem Core.curtainClears_lamps : s.curtainClears.LampsLegal := by
  unfold Core.curtainClears
  dsimp only
  (repeat' split) <;> simp [hs]

@[simp] theorem Core.rawCurtain_lamps (interrupted : Bool) : (s.rawCurtain interrupted).LampsLegal := by
  unfold Core.rawCurtain
  (repeat' split) <;> simp [hs]

end

/-! ### The station reset -/

section
variable (s : Core)

@[simp] theorem Core.keepDose_illum (p : Core × DoseRecord) : (Core.keepDose p).illum = p.1.illum := by
  simp [Core.keepDose_dark]

@[simp] theorem Core.resetClosing_lampsStand : Core.LampsStand s s.resetClosing := by
  unfold Core.resetClosing
  (repeat' split) <;> simp

@[simp] theorem Core.resetFlash_lampsStand : Core.LampsStand s s.resetFlash := by
  unfold Core.resetFlash
  dsimp only
  (repeat' split) <;> simp

@[simp] theorem Core.resetIllum_lampsStand : Core.LampsStand s s.resetIllum := by
  simp [Core.resetIllum]

@[simp] theorem Core.resetCapture_lampsStand : Core.LampsStand s s.resetCapture := by
  unfold Core.resetCapture
  dsimp only
  (repeat' split) <;> simp

@[simp] theorem Core.resetMotion_illum : s.resetMotion.illum = s.illum := by
  simp [Core.resetMotion, apply_ite Core.illum]

@[simp] theorem Core.resetSequencer_illum : s.resetSequencer.illum = s.illum := rfl

/-- A station reset leaves the lamp settings as they are (R91). -/
theorem Core.stationReset_lampsStand : Core.LampsStand s s.stationReset := by
  simp [Core.stationReset, Core.resetMeasure_workKeeps]

end

/-! ### Every command -/

section
variable (s : State)

theorem State.run_lamps (f : Core → Core) (hs : s.core.LampsLegal) (h : ∀ c : Core, c.LampsLegal → (f c).LampsLegal) :
    (s.run f).core.LampsLegal := Core.settle_lamps _ (h { s.core with out := [], sig := [] } hs)

theorem State.event_lamps (us : Nat) (f : Core → Core) (hs : s.core.LampsLegal)
    (h : ∀ c : Core, c.LampsLegal → (f c).LampsLegal) : (s.event us f).core.LampsLegal :=
  s.run_lamps _ hs fun c hc => h (c.atUs us) hc

theorem State.accept_lamps (us : Nat) (kind tag : Byte) (owner : Nat → State → State) (hs : s.core.LampsLegal)
    (h : ∀ id t, t.core.LampsLegal → (owner id t).core.LampsLegal) :
    (s.accept us kind tag owner).core.LampsLegal := by
  unfold State.accept
  dsimp only
  (repeat' split)
  · exact hs
  · exact hs
  · exact h _ _ hs

theorem State.request_lamps (q : Req) (kind : Byte) (owner : Nat → State → State) (hs : s.core.LampsLegal)
    (h : ∀ id t, t.core.LampsLegal → (owner id t).core.LampsLegal) :
    (s.request q kind owner).core.LampsLegal := by
  refine s.accept_lamps _ _ _ _ hs fun id t ht => ?_
  split
  · exact h id t ht
  · exact t.run_lamps _ ht fun _ hc => hc

theorem State.ask_lamps (q : Req) (kind : Byte) (f : Nat → Core → Core) (hs : s.core.LampsLegal)
    (h : ∀ id (c : Core), c.LampsLegal → (f id c).LampsLegal) : (s.ask q kind f).core.LampsLegal :=
  s.request_lamps q kind _ hs fun id t ht => t.run_lamps (f id) ht (h id)

end

/-- Every command answers a next state, and keeps the lamp settings in their ranges. -/
theorem exec_keeps_lamps (c : Instr) (s : State) (hs : s.core.LampsLegal) :
    ∃ t, exec c s = .next t ∧ t.core.LampsLegal := by
  cases c with
  | powerOn => exact ⟨_, rfl, Setting.powerOn_legal, Setting.powerOn_legal⟩
  | identify q => exact ⟨_, rfl, s.ask_lamps _ _ _ hs fun _ _ hc => hc⟩
  | linkStatus q clear =>
    refine ⟨_, rfl, s.request_lamps _ _ _ hs fun id t ht => ?_⟩
    cases clear <;> exact State.run_lamps _ _ ht fun _ hc => hc
  | statusGet q =>
    refine ⟨_, rfl, s.request_lamps _ _ _ hs fun id t ht => t.run_lamps _ ht fun c hc => ?_⟩
    unfold Core.countShown
    split <;> exact hc
  | stationReset q => exact ⟨_, rfl, s.ask_lamps _ _ _ hs fun _ c hc => by simpa [c.stationReset_lampsStand] using hc⟩
  | linkReset q => exact ⟨_, rfl, s.request_lamps _ _ _ hs fun _ _ ht => State.run_lamps _ _ ht fun _ hc => hc⟩
  | classSet q n m x => exact ⟨_, rfl, s.ask_lamps _ _ _ hs fun id c hc => c.classSet_lamps hc ..⟩
  | volumeAdd q shelf cls b m p segs => exact ⟨_, rfl, s.ask_lamps _ _ _ hs fun id c hc => c.volumeAdd_lamps hc ..⟩
  | volumeMount q n m k a => exact ⟨_, rfl, s.ask_lamps _ _ _ hs fun id c hc => c.volumeMount_lamps hc ..⟩
  | volumeUnmount q n => exact ⟨_, rfl, s.ask_lamps _ _ _ hs fun id c hc => c.volumeUnmount_lamps hc ..⟩
  | volumeClose q n force => exact ⟨_, rfl, s.ask_lamps _ _ _ hs fun id c hc => c.volumeClose_lamps hc ..⟩
  | volumeWithdraw q n => exact ⟨_, rfl, s.ask_lamps _ _ _ hs fun id c hc => c.volumeWithdraw_lamps hc ..⟩
  | volumeRemove q n => exact ⟨_, rfl, s.ask_lamps _ _ _ hs fun id c hc => c.volumeRemove_lamps hc ..⟩
  | volumeSet q n m b p cls segs => exact ⟨_, rfl, s.ask_lamps _ _ _ hs fun id c hc => c.volumeSet_lamps hc ..⟩
  | volumeGet q n m k => exact ⟨_, rfl, s.ask_lamps _ _ _ hs fun id c hc => c.volumeGet_lamps hc ..⟩
  | cursorSet q k => exact ⟨_, rfl, s.ask_lamps _ _ _ hs fun id c hc => c.cursorSet_lamps hc ..⟩
  | exceptionsTake q n k => exact ⟨_, rfl, s.ask_lamps _ _ _ hs fun id c hc => c.exceptionsTake_lamps hc ..⟩
  | lightStage q m x => exact ⟨_, rfl, s.ask_lamps _ _ _ hs fun id c hc => c.lightStage_lamps hc ..⟩
  | limitsSet q e => exact ⟨_, rfl, s.ask_lamps _ _ _ hs fun id c hc => c.limitsSet_lamps hc ..⟩
  | lampsCalibrate q m x => exact ⟨_, rfl, s.ask_lamps _ _ _ hs fun id c hc => c.lampsCalibrate_lamps hc ..⟩
  | calibrationFlash q => exact ⟨_, rfl, s.ask_lamps _ _ _ hs fun id c hc => c.calibrationFlash_lamps hc ..⟩
  | viewOn q => exact ⟨_, rfl, s.ask_lamps _ _ _ hs fun id c hc => c.viewOn_lamps hc ..⟩
  | viewOff q => exact ⟨_, rfl, s.ask_lamps _ _ _ hs fun id c hc => c.viewOff_lamps hc ..⟩
  | calibrate q ch m x y => exact ⟨_, rfl, s.ask_lamps _ _ _ hs fun id c hc => c.calibrate_lamps hc ..⟩
  | measure q ch => exact ⟨_, rfl, s.ask_lamps _ _ _ hs fun id c hc => c.measureChannel_lamps hc ..⟩
  | home q => exact ⟨_, rfl, s.ask_lamps _ _ _ hs fun id c hc => c.home_lamps hc ..⟩
  | angleSet q d => exact ⟨_, rfl, s.ask_lamps _ _ _ hs fun id c hc => c.angleSet_lamps hc ..⟩
  | captureDrain q n => exact ⟨_, rfl, s.ask_lamps _ _ _ hs fun id c hc => c.captureDrain_lamps hc ..⟩
  | capturePeek q n => exact ⟨_, rfl, s.ask_lamps _ _ _ hs fun id c hc => c.capturePeek_lamps hc ..⟩
  | framesSet q ms => exact ⟨_, rfl, s.ask_lamps _ _ _ hs fun id c hc => c.framesSet_lamps hc ..⟩
  | stepQueue q w g => exact ⟨_, rfl, s.ask_lamps _ _ _ hs fun id c hc => c.stepQueue_lamps hc ..⟩
  | stopSet q k n => exact ⟨_, rfl, s.ask_lamps _ _ _ hs fun id c hc => c.stopSet_lamps hc ..⟩
  | halt q => exact ⟨_, rfl, s.ask_lamps _ _ _ hs fun _ _ hc => by simp [hc]⟩
  | abort q => exact ⟨_, rfl, s.ask_lamps _ _ _ hs fun _ _ hc => by simp [hc]⟩
  | resume q => exact ⟨_, rfl, s.ask_lamps _ _ _ hs fun id c hc => c.resume_lamps hc ..⟩
  | stepFlush q => exact ⟨_, rfl, s.ask_lamps _ _ _ hs fun id c hc => c.stepFlush_lamps hc ..⟩
  | faultClear q k => exact ⟨_, rfl, s.ask_lamps _ _ _ hs fun id c hc => c.faultClear_lamps hc ..⟩
  | faultClearAll q => exact ⟨_, rfl, s.ask_lamps _ _ _ hs fun id c hc => c.clearAll_lamps hc ..⟩
  | panelSet q ms => exact ⟨_, rfl, s.ask_lamps _ _ _ hs fun id c hc => c.panelSet_lamps hc ..⟩
  | counterSet q n m en e th inv edge =>
    refine ⟨_, rfl, s.request_lamps _ _ _ hs fun id t ht => ?_⟩
    unfold State.counterSet
    dsimp only
    (repeat' split) <;> exact State.run_lamps _ _ ht fun _ hc => hc
  | counterGet q m => exact ⟨_, rfl, s.request_lamps _ _ _ hs fun _ _ ht => State.run_lamps _ _ ht fun _ hc => hc⟩
  | bandsSet q t1 t2 t3 t4 => exact ⟨_, rfl, s.ask_lamps _ _ _ hs fun id c hc => c.bandsSet_lamps hc ..⟩
  | unknownKind us kind tag =>
    change ∃ t, execUnknownKind us kind tag s = .next t ∧ t.core.LampsLegal
    unfold execUnknownKind
    split
    · exact ⟨_, rfl, hs⟩
    · exact ⟨_, rfl, s.accept_lamps _ _ _ _ hs fun _ t ht => t.run_lamps _ ht fun _ hc => hc⟩
  | droppedRequest us kind tag =>
    change ∃ t, execDroppedRequest us kind tag s = .next t ∧ t.core.LampsLegal
    unfold execDroppedRequest
    split
    · exact ⟨_, rfl, s.accept_lamps _ _ _ _ hs fun _ _ ht => ht⟩
    · exact ⟨_, rfl, hs⟩
  | checkError us frame =>
    change ∃ t, execCheckError us frame s = .next t ∧ t.core.LampsLegal
    unfold execCheckError
    dsimp only
    split <;> exact ⟨_, rfl, hs⟩
  | fragment us bytes cause =>
    change ∃ t, execFragment us bytes cause s = .next t ∧ t.core.LampsLegal
    unfold execFragment
    dsimp only
    split
    · exact ⟨_, rfl, hs⟩
    · cases cause <;> exact ⟨_, rfl, hs⟩
  | interByteGap us bytes next =>
    change ∃ t, execInterByteGap us bytes next s = .next t ∧ t.core.LampsLegal
    unfold execInterByteGap
    dsimp only
    split <;> exact ⟨_, rfl, hs⟩
  | lineBreak us =>
    change ∃ t, execLineBreak us s = .next t ∧ t.core.LampsLegal
    unfold execLineBreak
    dsimp only
    split <;> exact ⟨_, rfl, hs⟩
  | frameSent us => exact ⟨_, rfl, hs⟩
  | advance us => exact ⟨_, rfl, s.event_lamps us _ hs fun c hc => c.press_lamps hc ..⟩
  | retakeKey us => exact ⟨_, rfl, s.event_lamps us _ hs fun c hc => c.press_lamps hc ..⟩
  | turnedKey us => exact ⟨_, rfl, s.event_lamps us _ hs fun c hc => c.press_lamps hc ..⟩
  | backKey us => exact ⟨_, rfl, s.event_lamps us _ hs fun c hc => c.press_lamps hc ..⟩
  | holdKey us => exact ⟨_, rfl, s.event_lamps us _ hs fun c hc => c.press_lamps hc ..⟩
  | continueKey us => exact ⟨_, rfl, s.event_lamps us _ hs fun c hc => c.press_lamps hc ..⟩
  | keyRelease us k => exact ⟨_, rfl, s.event_lamps us _ hs fun c hc => c.releaseInput_lamps hc ..⟩
  | curtainBroken us => exact ⟨_, rfl, s.event_lamps us _ hs fun c hc => c.curtainBreaks_lamps hc⟩
  | curtainClear us => exact ⟨_, rfl, s.event_lamps us _ hs fun c hc => c.curtainClears_lamps hc⟩
  | toneEnd us => exact ⟨_, rfl, s.event_lamps us _ hs fun c hc => c.toneOver_lamps hc⟩
  | spotResult us code => exact ⟨_, rfl, s.event_lamps us _ hs fun c hc => c.spotArrives_lamps hc ..⟩
  | conversionFault us => exact ⟨_, rfl, s.event_lamps us _ hs fun c hc => c.conversionPasses_lamps hc⟩
  | lateResultDiscarded us code => exact ⟨_, rfl, s.event_lamps us _ hs fun _ hc => hc⟩
  | tempTimer us => exact ⟨_, rfl, s.event_lamps us _ hs fun c hc => c.tempTick_lamps hc⟩
  | lampOff us w => exact ⟨_, rfl, s.event_lamps us _ hs fun c hc => c.lampOffEvent_lamps hc ..⟩
  | recoveryEnd us => exact ⟨_, rfl, s.event_lamps us _ hs fun c hc => c.recoveryOver_lamps hc⟩
  | thermalWaitExpiry us => exact ⟨_, rfl, s.event_lamps us _ hs fun c hc => c.thermalWaitOver_lamps hc⟩
  | viewPeriodEnd us => exact ⟨_, rfl, s.event_lamps us _ hs fun c hc => c.periodOver_lamps hc⟩
  | homingPhaseDone us => exact ⟨_, rfl, s.event_lamps us _ hs fun c hc => c.homingStep_lamps hc⟩
  | homingPhaseTimeout us => exact ⟨_, rfl, s.event_lamps us _ hs fun c hc => c.homingLimit_lamps hc⟩
  | angleReached us => exact ⟨_, rfl, s.event_lamps us _ hs fun c hc => c.angleArrives_lamps hc⟩
  | angleTimeout us => exact ⟨_, rfl, s.event_lamps us _ hs fun c hc => c.anglePasses_lamps hc⟩
  | platenSampleTimer us => exact ⟨_, rfl, s.event_lamps us _ hs fun c hc => c.sampleDue_lamps hc⟩
  | settlingEnd us => exact ⟨_, rfl, s.event_lamps us _ hs fun c hc => c.settled_lamps hc⟩
  | loweringTimeout us => exact ⟨_, rfl, s.event_lamps us _ hs fun c hc => c.loweringPasses_lamps hc⟩
  | platenUp us =>
    refine ⟨_, rfl, s.event_lamps us _ hs fun c hc => ?_⟩
    split
    · simp [hc]
    · exact hc
  | raiseTimeout us =>
    refine ⟨_, rfl, s.event_lamps us _ hs fun c hc => ?_⟩
    split
    · simp [hc]
    · exact hc
  | cupContact us => exact ⟨_, rfl, s.event_lamps us _ hs fun c hc => c.cupLands_lamps hc⟩
  | vacuumAtLevel us => exact ⟨_, rfl, s.event_lamps us _ hs fun _ hc => by simp [hc]⟩
  | puffEnd us => exact ⟨_, rfl, s.event_lamps us _ hs fun c hc => c.puffOver_lamps hc⟩
  | vacuumTimeout us => exact ⟨_, rfl, s.event_lamps us _ hs fun c hc => c.noVacuum_lamps hc⟩
  | vacuumBelow us => exact ⟨_, rfl, s.event_lamps us _ hs fun c hc => c.vacuumFalls_lamps hc⟩
  | leafRaised us => exact ⟨_, rfl, s.event_lamps us _ hs fun c hc => c.leafIsUp_lamps hc⟩
  | putDownDone us => exact ⟨_, rfl, s.event_lamps us _ hs fun c hc => c.putDownOver_lamps hc⟩
  | sweepArrived us => exact ⟨_, rfl, s.event_lamps us _ hs fun c hc => c.sweepEnds_lamps hc⟩
  | releaseDone us => exact ⟨_, rfl, s.event_lamps us _ hs fun c hc => c.releaseEnds_lamps hc⟩
  | armAtPark us => exact ⟨_, rfl, s.event_lamps us _ hs fun c hc => c.armParks_lamps hc⟩
  | armLimitExpiry us => exact ⟨_, rfl, s.event_lamps us _ hs fun c hc => c.armPasses_lamps hc⟩
  | cameraLineChange us k r f => exact ⟨_, rfl, s.event_lamps us _ hs fun c hc => c.cameraLines_lamps hc ..⟩
  | cameraWaitExpiry us => exact ⟨_, rfl, s.event_lamps us _ hs fun c hc => c.cameraWaitOver_lamps hc⟩
  | frameTimeout us => exact ⟨_, rfl, s.event_lamps us _ hs fun c hc => c.framesOver_lamps hc⟩
  | pauseEnd us => exact ⟨_, rfl, s.event_lamps us _ hs fun c hc => c.pauseOver_lamps hc⟩
  | queueDepthSample us => exact ⟨_, rfl, s.event_lamps us _ hs fun c hc => c.depthSample_lamps hc⟩
  | msTick => exact ⟨_, rfl, s.run_lamps _ hs fun c hc => c.tick_lamps hc⟩
  | rawCurtainInputChange us interrupted =>
    exact ⟨_, rfl, s.event_lamps us _ hs fun c hc => c.rawCurtain_lamps hc interrupted⟩
  | rawInputLevelChange us k x => exact ⟨_, rfl, s.event_lamps us _ hs fun c hc => c.inputLevel_lamps hc ..⟩
  | firstSettling us k => exact ⟨_, rfl, s.event_lamps us _ hs fun c hc => c.settleInput_lamps hc ..⟩
  | lineReturnToIdle us => exact ⟨_, rfl, hs⟩

end Sys2Proof.Machine
end

section
/-! PROOF. The ranges of the settings that one command each owns, and the settings of the station (O6). -/

namespace Sys2Proof.Machine

/-! ### Ranges -/

/-- The ranges of the settings that one command each owns. -/
structure Settings.Legal (x : Settings) : Prop where
  debounce : x.debounce ∈ [10, 20, 40, 80]
  bands : 1 ≤ x.bands.t1 ∧ x.bands.t1 < x.bands.t2 ∧ x.bands.t2 < x.bands.t3 ∧ x.bands.t3 < x.bands.t4
    ∧ x.bands.t4 ≤ 200000
  cap : x.eOp ≤ 200000
  frameTimeout : 1000 ≤ x.frameTimeout ∧ x.frameTimeout ≤ 30000
  lamps : ∀ y : LampCal, x.lampCal = some y → y.Legal
  channels : ∀ (ch : Channel) (y : CalPair), x.cal.get ch = some y → y.Legal ch
  classes : ∀ (i : Fin 8) (y : ClassFields), x.classes[i] = some y → y.Legal

/-- The settings of the station are the settings with one owner each and the two lamp settings. -/
theorem Core.settingsLegal_iff (s : Core) : s.SettingsLegal ↔ s.settings.Legal ∧ s.LampsLegal := by
  constructor
  · rintro ⟨hdebounce, hbands, hcap, hframe, hstaged, hactive, hlamps, hchannels, hclasses⟩
    exact ⟨⟨hdebounce, hbands, hcap, hframe, hlamps, hchannels, hclasses⟩, hstaged, hactive⟩
  · rintro ⟨⟨hdebounce, hbands, hcap, hframe, hlamps, hchannels, hclasses⟩, hstaged, hactive⟩
    exact ⟨hdebounce, hbands, hcap, hframe, hstaged, hactive, hlamps, hchannels, hclasses⟩

/-- What every value of an option and a default have, the value or the default has. -/
theorem getD_of_forall {α : Type} {P : α → Prop} {o : Option α} {d : α} (ho : ∀ x, o = some x → P x) (hd : P d) :
    P (o.getD d) := by
  cases o with
  | none => exact hd
  | some x => exact ho x rfl

/-! ### Classes -/

/-- The fields of a class that have a range of their own are in it (section 1.2). -/
structure ClassRanged (x : ClassFields) : Prop where
  eMat : 500 ≤ x.eMat ∧ x.eMat ≤ 200000
  cOpen : 1000 ≤ x.cOpen ∧ x.cOpen ≤ 1000000000
  warn : -400 ≤ x.warn ∧ x.warn ≤ 1990
  limit : x.limit ≤ 2000
  maxAngle : 80 ≤ x.maxAngle ∧ x.maxAngle ≤ 180
  vacuum : 5 ≤ x.vacuum ∧ x.vacuum ≤ 200
  puff : 10 ≤ x.puff ∧ x.puff ≤ 500
  retryLimit : x.retryLimit ≤ 3
  openFloor : x.openFloor ≤ 1000
  force : 5 ≤ x.force ∧ x.force ≤ 300

/-- A class is legal with its fields in range, a name, a limit 10 above its warn temperature, and its single floor below
its open floor (R5). -/
theorem classLegal_iff (x : ClassFields) :
    x.Legal ↔ ClassRanged x ∧ nameOk x.name = true ∧ x.warn + 10 ≤ x.limit ∧ x.singleFloor < x.openFloor := by
  unfold ClassFields.Legal
  constructor
  · rintro ⟨hname, hmat, hmat', hopen, hopen', hwarn, hwarn', hlimit, hlimit', hangle, hangle', hvac, hvac', hpuff,
      hpuff', hretry, hfloor, hfloor', hforce, hforce'⟩
    exact ⟨⟨⟨hmat, hmat'⟩, ⟨hopen, hopen'⟩, ⟨hwarn, hwarn'⟩, hlimit', ⟨hangle, hangle'⟩, ⟨hvac, hvac'⟩, ⟨hpuff, hpuff'⟩,
      hretry, hfloor', ⟨hforce, hforce'⟩⟩, hname, hlimit, hfloor⟩
  · rintro ⟨⟨⟨hmat, hmat'⟩, ⟨hopen, hopen'⟩, ⟨hwarn, hwarn'⟩, hlimit', ⟨hangle, hangle'⟩, ⟨hvac, hvac'⟩,
      ⟨hpuff, hpuff'⟩, hretry, hfloor', ⟨hforce, hforce'⟩⟩, hname, hlimit, hfloor⟩
    exact ⟨hname, hmat, hmat', hopen, hopen', hwarn, hwarn', hlimit, hlimit', hangle, hangle', hvac, hvac', hpuff,
      hpuff', hretry, hfloor, hfloor', hforce, hforce'⟩

/-- A number limited to a range lies in it. -/
theorem clamp_mem {lo hi : Nat} (x : Nat) (h : lo ≤ hi) : lo ≤ clamp lo hi x ∧ clamp lo hi x ≤ hi :=
  ⟨Nat.le_max_left _ _, Nat.max_le.mpr ⟨h, Nat.min_le_left _ _⟩⟩

/-- A signed number limited to a range lies in it. -/
theorem clampInt_mem {lo hi : Int} (x : Int) (h : lo ≤ hi) : lo ≤ clampInt lo hi x ∧ clampInt lo hi x ≤ hi :=
  ⟨Int.le_max_left _ _, Int.max_le.mpr ⟨h, Int.min_le_left _ _⟩⟩

/-- The clamps of section 1.2 bring each field into its range (R5). -/
theorem classClamp_ranged (x : ClassFields) : ClassRanged (classClamp x) where
  eMat := clamp_mem _ (by decide)
  cOpen := clamp_mem _ (by decide)
  warn := clampInt_mem _ (by decide)
  limit := Int.min_le_left _ _
  maxAngle := clamp_mem _ (by decide)
  vacuum := clamp_mem _ (by decide)
  puff := clamp_mem _ (by decide)
  retryLimit := Nat.min_le_left _ _
  openFloor := (clamp_mem _ (by decide)).2
  force := clamp_mem _ (by decide)

section
variable (m : Mask)

/-- A number taken or kept lies in the range that both lie in. -/
theorem pick_mem {α : Type} [LE α] {new old lo hi : α} (n : Nat) (hnew : lo ≤ new ∧ new ≤ hi)
    (hold : lo ≤ old ∧ old ≤ hi) : lo ≤ pick m n new old ∧ pick m n new old ≤ hi :=
  ⟨le_pick m n hnew.1 hold.1, pick_le m n hnew.2 hold.2⟩

theorem classMerge_ranged {new old : ClassFields} (hnew : ClassRanged new) (hold : ClassRanged old) :
    ClassRanged (classMerge m new old) where
  eMat := pick_mem m 3 hnew.eMat hold.eMat
  cOpen := pick_mem m 4 hnew.cOpen hold.cOpen
  warn := pick_mem m 5 hnew.warn hold.warn
  limit := pick_le m 6 hnew.limit hold.limit
  maxAngle := pick_mem m 7 hnew.maxAngle hold.maxAngle
  vacuum := pick_mem m 8 hnew.vacuum hold.vacuum
  puff := pick_mem m 9 hnew.puff hold.puff
  retryLimit := pick_le m 10 hnew.retryLimit hold.retryLimit
  openFloor := pick_le m 11 hnew.openFloor hold.openFloor
  force := pick_mem m 13 hnew.force hold.force

/-- A class that is defined for the first time has every field, its name among them (R5). -/
theorem hasField_of_firstAbsent {fields : List Nat} (h : firstAbsent m fields = none) :
    ∀ n ∈ fields, hasField m n = true := by
  simpa [firstAbsent] using h

/-- What CLASS_SET has tested of a class that it forms (R5): every field of a class not defined yet is present, a name
that is present is one, and the class as it stands has its limit and its floors apart. -/
theorem classForm_ok {x y : ClassFields} {old : Option ClassFields} {clamped : Mask}
    (h : classForm m x old = .ok (y, clamped)) :
    (old = none → firstAbsent m classFieldNumbers = none) ∧ (hasField m 2 = true → nameOk x.name = true)
      ∧ y = classMerge m (classClamp x) (old.getD (classClamp x)) ∧ y.warn + 10 ≤ y.limit
      ∧ y.singleFloor < y.openFloor := by
  unfold classForm at h
  dsimp only at h
  (repeat' split at h) <;> cases h
  next hpresent hname hlimit hfloor _ _ =>
    exact ⟨fun hnone => by simpa [hnone] using hpresent, fun htwo => by simpa [htwo] using hname, rfl, by omega,
      by omega⟩

/-- The class that CLASS_SET forms from a class not defined or a legal one is legal (R5). -/
theorem classForm_legal (x : ClassFields) {old : Option ClassFields} {y : ClassFields} {clamped : Mask}
    (hold : ∀ o, old = some o → o.Legal) (h : classForm m x old = .ok (y, clamped)) : y.Legal := by
  obtain ⟨hpresent, hname, rfl, hlimit, hfloor⟩ := classForm_ok m h
  have hbase : ClassRanged (old.getD (classClamp x)) :=
    getD_of_forall (fun o ho => ((classLegal_iff o).mp (hold o ho)).1) (classClamp_ranged x)
  refine (classLegal_iff _).mpr ⟨classMerge_ranged m (classClamp_ranged x) hbase, ?_, hlimit, hfloor⟩
  cases htwo : hasField m 2 with
  | true => simpa [classMerge, classClamp, pick, htwo] using hname htwo
  | false =>
    cases old with
    | none => exact absurd (hasField_of_firstAbsent m (hpresent rfl) 2 (by decide)) (by simp [htwo])
    | some o =>
      obtain ⟨-, ho, -⟩ := (classLegal_iff o).mp (hold o rfl)
      simpa [classMerge, pick, htwo] using ho

/-! ### Calibrations -/

theorem lampClamp_legal (x : LampCal) : (lampClamp x).Legal :=
  ⟨Nat.min_le_right _ _, Nat.min_le_right _ _, Nat.min_le_right _ _, Nat.min_le_right _ _, Nat.min_le_right _ _⟩

theorem lampMerge_legal {new old : LampCal} (hnew : new.Legal) (hold : old.Legal) : (lampMerge m new old).Legal := by
  obtain ⟨hvu, hvl, hru, hrl, hview⟩ := hnew
  obtain ⟨hvu', hvl', hru', hrl', hview'⟩ := hold
  exact ⟨pick_le m 1 hvu hvu', pick_le m 2 hvl hvl', pick_le m 3 hru hru', pick_le m 4 hrl hrl',
    pick_le m 5 hview hview'⟩

/-- The clamps of section 3.3 bring a channel's calibration into its ranges (R60). -/
theorem calClamp_legal (ch : Channel) (x : CalPair) : (calClamp ch x).Legal ch := by
  cases ch <;> simp only [CalPair.Legal, calClamp, clampInt] <;> omega

/-- Fields taken from one legal calibration and kept from another make a legal one (R60). -/
theorem CalPair.pick_legal {new old : CalPair} (ch : Channel) (hnew : new.Legal ch) (hold : old.Legal ch) :
    CalPair.Legal { x := pick m 2 new.x old.x, y := pick m 3 new.y old.y } ch := by
  cases ch with
  | G => exact pick_mem m 2 hnew hold
  | _ =>
    obtain ⟨hx, hx', hy⟩ := hnew
    obtain ⟨kx, kx', ky⟩ := hold
    exact ⟨le_pick m 2 hx kx, pick_le m 2 hx' kx', pick_mem m 3 hy ky⟩

theorem PerChannel.get_set {α : Type} (x : PerChannel α) (ch c : Channel) (v : α) :
    (x.set ch v).get c = if c = ch then v else x.get c := by
  cases ch <;> cases c <;> rfl

end

/-! ### The owners keep the ranges -/

section
variable (s : Core) (id : Nat) (hs : s.settings.Legal)
include hs

theorem Core.classSet_legal (n : Nat) (m : Mask) (x : ClassFields) : (s.classSet id n m x).settings.Legal := by
  unfold Core.classSet
  dsimp only
  split
  next hn =>
    split
    next => exact hs
    next =>
      split
      next => exact hs
      next y clamped hform =>
        refine { hs with classes := fun i c hc => ?_ }
        have hset : (s.vols.classes.set n (some y))[i.val] = some c := hc
        rw [Vector.getElem_set] at hset
        split at hset
        next => exact Option.some.inj hset ▸ classForm_legal m x (fun o ho => hs.classes ⟨n, hn⟩ o ho) hform
        next => exact hs.classes i c hset
  next => exact hs

theorem Core.bandsSet_legal (t1 t2 t3 t4 : Nat) : (s.bandsSet id t1 t2 t3 t4).settings.Legal := by
  unfold Core.bandsSet
  split
  next => exact hs
  next hfault =>
    refine { hs with bands := ?_ }
    simp only [bandsFault, badBand, Bool.or_eq_true, decide_eq_true_eq] at hfault
    (repeat' split at hfault) <;> simp at hfault
    change 1 ≤ t1 ∧ t1 < t2 ∧ t2 < t3 ∧ t3 < t4 ∧ t4 ≤ 200000
    omega

theorem Core.panelSet_legal (ms : Nat) : (s.panelSet id ms).settings.Legal := by
  unfold Core.panelSet
  split
  next hms =>
    rw [Core.measureInputs_settings]
    exact { hs with debounce := by simpa [Core.settings] using hms }
  next => exact hs

theorem Core.framesSet_legal (ms : Nat) : (s.framesSet id ms).settings.Legal :=
  { hs with frameTimeout := clamp_mem ms (by decide) }

theorem Core.limitsSet_legal (e : Nat) : (s.limitsSet id e).settings.Legal := by
  rw [Core.limitsSet_settings]
  refine { hs with cap := ?_ }
  simp [Core.limitsSet]

theorem Core.lampsCalibrate_legal (m : Mask) (x : LampCal) : (s.lampsCalibrate id m x).settings.Legal := by
  rw [Core.lampsCalibrate_settings]
  refine { hs with lamps := ?_ }
  unfold Core.lampsCalibrate
  dsimp only
  (repeat' split)
  · exact hs.lamps
  · exact hs.lamps
  · intro y hy
    have hy : lampMerge m (lampClamp x) (s.illum.lampCal.getD (lampClamp x)) = y := by simpa using hy
    exact hy ▸ lampMerge_legal m (lampClamp_legal x) (getD_of_forall hs.lamps (lampClamp_legal x))

theorem Core.calibrate_legal (n : Nat) (m : Mask) (x : CalPair) : (s.calibrate id n m x).settings.Legal := by
  rw [Core.calibrate_settings]
  refine { hs with channels := fun c y hy => ?_ }
  unfold Core.calibrate at hy
  dsimp only at hy
  split at hy
  next => exact hs.channels c y hy
  next ch _ =>
    split at hy
    next => exact hs.channels c y hy
    next => exact hs.channels c y hy
    next =>
      simp only [Core.startTimer_kept, Core.reply_kept, PerChannel.get_set] at hy
      split at hy
      next hc =>
        subst hc
        exact Option.some.inj hy ▸ CalPair.pick_legal m c (calClamp_legal c x)
          (getD_of_forall (hs.channels c) (calClamp_legal c x))
      next => exact hs.channels c y hy

end

/-- Every command keeps the settings that have an owner in their ranges: the owner by its clamps and refusals, and every
other command by leaving them as they are. -/
theorem exec_keeps_ranges {c : Instr} {s t : State} (ht : exec c s = .next t) (hs : s.core.settings.Legal) :
    t.core.settings.Legal := by
  have hasked (q : Req) (kind : Byte) (f : Nat → Core → Core)
      (h : ∀ id (c : Core), c.settings.Legal → (f id c).settings.Legal)
      (hask : (.next (s.ask q kind f) : Result') = .next t) : t.core.settings.Legal :=
    Host.Outcome.next.inj hask ▸ State.ask_settings (fun a b => a.Legal → b.Legal) q kind f s (fun _ => id) h hs
  cases c with
  | powerOn => exact Host.Outcome.next.inj ht ▸ ((Core.settingsLegal_iff _).mp Core.powerOn_settingsLegal).1
  | classSet q n m x => exact hasked _ _ _ (fun id c hc => c.classSet_legal id hc n m x) ht
  | bandsSet q t1 t2 t3 t4 => exact hasked _ _ _ (fun id c hc => c.bandsSet_legal id hc t1 t2 t3 t4) ht
  | panelSet q ms => exact hasked _ _ _ (fun id c hc => c.panelSet_legal id hc ms) ht
  | framesSet q ms => exact hasked _ _ _ (fun id c hc => c.framesSet_legal id hc ms) ht
  | limitsSet q e => exact hasked _ _ _ (fun id c hc => c.limitsSet_legal id hc e) ht
  | lampsCalibrate q m x => exact hasked _ _ _ (fun id c hc => c.lampsCalibrate_legal id hc m x) ht
  | calibrate q ch m x y => exact hasked _ _ _ (fun id c hc => c.calibrate_legal id hc ch m _) ht
  | _ =>
    obtain ⟨u, hu, hmake⟩ := exec_mayMake _ s
    obtain rfl := Host.Outcome.next.inj (hu.symm.trans ht)
    exact Eq.subst (motive := Settings.Legal) (Eq.symm hmake) hs

/-- Every command keeps the settings of the station in their ranges. -/
theorem exec_keeps_settingsLegal {c : Instr} {s t : State} (ht : exec c s = .next t) (hs : s.core.SettingsLegal) :
    t.core.SettingsLegal := by
  obtain ⟨hranges, hlamps⟩ := (Core.settingsLegal_iff _).mp hs
  obtain ⟨u, hu, hlamps'⟩ := exec_keeps_lamps c s hlamps
  obtain rfl := Host.Outcome.next.inj (hu.symm.trans ht)
  exact (Core.settingsLegal_iff _).mpr ⟨exec_keeps_ranges ht hranges, hlamps'⟩

/-- Settles O6: `exec_keeps_settingsLegal`, and an empty queue changes nothing. -/
theorem stepKeepsSettingsLegal : Obligations.StepKeepsSettingsLegal := by
  intro s t hs ht
  unfold step at ht
  split at ht
  next => exact Host.Outcome.next.inj ht ▸ hs
  next c rest _ => exact exec_keeps_settingsLegal ht hs

end Sys2Proof.Machine
end

section
/-! PROOF. The debounce of the panel inputs, PANEL_SET and the end of the tone (O57). -/

namespace Sys2Proof.Machine

section
variable (s : Core) (i : PanelInput)

/-- An input that has settled is not settled afresh. -/
theorem Core.settleInput_settled (h : (s.input i).settled = true) : s.settleInput i = s := by
  simp [Core.settleInput, h]

/-- A change of level starts the count of a settled input afresh (R156). -/
theorem Core.inputLevel_changed {level : Bool} (hraw : (s.input i).raw ≠ level)
    (hsettled : (s.input i).settled = true) :
    s.inputLevel i level = s.setInput i { s.input i with raw := level, since := s.now } := by
  rw [Core.inputLevel, if_neg hraw, s.settleInput_settled i hsettled]

section
variable (hdue : (s.input i).since + s.panel.debounce * 1000 ≤ s.now)
include hdue

/-- A raw level that has stood for the debounce time is stable (R156). -/
theorem Core.stable_of : s.stable i = true := decide_eq_true hdue

/-- The first settling of a stable input takes the level it stands at (R156). -/
theorem Core.settleInput_first (h : (s.input i).settled = false) :
    s.settleInput i = s.setInput i { s.input i with pressed := (s.input i).raw, settled := true } := by
  simp [Core.settleInput, h, s.stable_of i hdue]

/-- The release of a stable input is taken (R156). -/
theorem Core.releaseInput_stable (hpressed : (s.input i).pressed = true) (hraw : (s.input i).raw = false) :
    s.releaseInput i = s.setInput i { s.input i with pressed := false, settled := true } := by
  simp [Core.releaseInput, hpressed, hraw, s.stable_of i hdue]

end

/-- An input that has settled and stands as it is debounced is due for nothing, whatever the debounce time (R157). -/
theorem Core.measureInput_settled (hsettled : (s.input i).settled = true)
    (hpressed : (s.input i).pressed = (s.input i).raw) (hsig : s.sig = []) : s.measureInput i = s := by
  have hrelease : s.releaseInput i = s := by simp [Core.releaseInput, hpressed]
  have hpress : s.press i = s := by simp [Core.press, Core.pressDue, hpressed]
  rw [Core.measureInput, s.settleInput_settled i hsettled, hrelease, hpress, Core.settle_of_sig_nil s hsig]

end

/-- Inputs that have settled and stand as they are debounced leave the blocks as they are. -/
theorem Core.measureInputs_settled (s : Core) (is : List PanelInput)
    (h : ∀ i, (s.input i).settled = true ∧ (s.input i).pressed = (s.input i).raw) (hsig : s.sig = []) :
    is.foldl Core.measureInput s = s := by
  induction is with
  | nil => rfl
  | cons i is ih => rw [List.foldl_cons, s.measureInput_settled i (h i).1 (h i).2 hsig, ih]

/-- PANEL_SET of another value than the four is refused (R157). -/
theorem Core.panelSet_refused (s : Core) (id : Nat) {ms : Nat} (h : ms ∉ [10, 20, 40, 80]) :
    s.panelSet id ms = s.reply id (.badField 1) .empty :=
  if_neg (by simpa using h)

/-- PANEL_SET of one of the four values, with no input due under it (R157). -/
theorem Core.panelSet_taken (s : Core) (id : Nat) {ms : Nat} (h : ms ∈ [10, 20, 40, 80])
    (hinputs : ∀ i, (s.input i).settled = true ∧ (s.input i).pressed = (s.input i).raw) (hsig : s.sig = []) :
    s.panelSet id ms = { s with panel := { s.panel with debounce := ms } }.reply id .done (.debounce ms) := by
  rw [Core.panelSet, if_pos (by simpa using h)]
  exact Core.measureInputs_settled _ _ hinputs hsig

/-- The tone falls silent when 150 ms have passed since the last refusal (R166). -/
theorem Core.toneOver_due (s : Core) {t : Micros} (h : s.panel.tone = some t) (hdue : t + 150000 ≤ s.now) :
    s.toneOver = { s with panel := { s.panel with tone := none } } := by
  simp [Core.toneOver, h, Core.due, hdue]

/-- Settles O57, by what each event makes of an input and by PANEL_SET on inputs that are due for nothing. -/
theorem inputsAreDebounced : Obligations.InputsAreDebounced := by
  intro q us ms t0 i level s
  refine ⟨fun hraw hsettled => ?_, fun hsettled hdue => ?_, fun hpressed hraw hdue => ?_, fun hq hms => ?_,
    fun hq hms hinputs => ?_, fun htone hdue => ?_⟩
  · exact congrArg _ (State.event_quietly us _ s _ ((s.found us).inputLevel_changed i hraw hsettled) rfl rfl)
  · exact congrArg _ (State.event_quietly us _ s _ ((s.found us).settleInput_first i hdue hsettled) rfl rfl)
  · exact congrArg _ (State.event_quietly us _ s _ ((s.found us).releaseInput_stable i hdue hpressed hraw) rfl rfl)
  · refine congrArg _ (State.ask_replies hq ?_ rfl rfl)
    exact (s.found q.us).panelSet_refused _ hms
  · refine congrArg _ (State.ask_replies hq ?_ rfl rfl)
    exact (s.found q.us).panelSet_taken _ hms hinputs rfl
  · exact congrArg _ (State.event_quietly us _ s _ ((s.found us).toneOver_due htone hdue) rfl rfl)

end Sys2Proof.Machine
end

section
/-! PROOF. The activity counters (O59, O60): what a counter makes of an event, and the settings of the counters and of
the bands. -/

namespace Sys2Proof.Machine

/-! ### What a counter takes -/

/-- The events whose samples the counter compares with its threshold (R182). -/
def Counter.Compares (c : Counter) (e : CounterEvent) : Prop :=
  e = .flashLux ∨ e = .tempSamples ∨ (e = .queueDepth ∧ c.threshold ≠ 0)

/-- What a counter adds for an event that it counts without comparing (R181): the depth of the queue, or 1. -/
def CounterEvent.amount (x : Int) : CounterEvent → Nat
  | .queueDepth => x.toNat
  | _ => 1

section
variable (c : Counter) {e : CounterEvent} (x : Int)

/-- A counter that is disabled, or set to another event, takes nothing (R181). -/
theorem Counter.take_other (h : c.enable = false ∨ c.event ≠ e) : c.take e x = c := by
  refine if_neg fun hon => ?_
  obtain ⟨henable, hevent⟩ : c.enable = true ∧ c.event = e := by simpa using hon
  cases h with
  | inl hoff => simp [hoff] at henable
  | inr hother => exact hother hevent

section
variable (henable : c.enable = true) (hevent : c.event = e)
include henable hevent

theorem Counter.take_compares (h : c.Compares e) : c.take e x = c.compare x := by
  unfold Counter.take
  rw [if_pos (by simp [henable, hevent])]
  obtain rfl | rfl | ⟨rfl, hthreshold⟩ := h
  · rfl
  · rfl
  · exact if_neg hthreshold

theorem Counter.take_counts (h : ¬ c.Compares e) : c.take e x = c.add (e.amount x) := by
  unfold Counter.take
  rw [if_pos (by simp [henable, hevent])]
  cases e with
  | flashLux => exact absurd (.inl rfl) h
  | tempSamples => exact absurd (.inr (.inl rfl)) h
  | queueDepth => exact if_pos (not_not.mp fun hthreshold => h (.inr (.inr ⟨rfl, hthreshold⟩)))
  | _ => rfl

end

theorem Counter.add_of_le {n : Nat} (h : c.value + n ≤ 4294967295) : c.add n = { c with value := c.value + n } :=
  if_pos h

/-- An addition past 2^32 - 1 stops there and sets the overflow flag (R183). -/
theorem Counter.add_of_gt {n : Nat} (h : 4294967295 < c.value + n) :
    c.add n = { c with value := 4294967295, overflow := true } :=
  if_neg (by unfold max32; omega)

/-- The count knows nothing of invert and edge. -/
theorem Counter.add_invert_edge (n : Nat) (inv ed : Bool) :
    ({ c with invert := inv, edge := ed } : Counter).add n = { c.add n with invert := inv, edge := ed } := by
  unfold Counter.add
  dsimp only
  split <;> rfl

/-- The memory takes the condition at the sample (R182). -/
theorem Counter.compare_memory : (c.compare x).memory = (decide (c.threshold ≤ x) != c.invert) := rfl

theorem Counter.compare_memory_iff : (c.compare x).memory = true ↔
    (c.threshold ≤ x ∧ c.invert = false) ∨ (x < c.threshold ∧ c.invert = true) := by
  rw [Counter.compare_memory]
  cases c.invert <;> simp

/-- A sample adds 1 when the condition holds and, with edge set, did not hold at the sample before (R182). -/
theorem Counter.compare_eq : c.compare x =
    { (if (c.compare x).memory = true ∧ (c.edge = false ∨ c.memory = false) then c.add 1 else c) with
      memory := (c.compare x).memory } := by
  simp [Counter.compare]

end

/-- A configuration that changes event, threshold, invert or edge starts the count afresh (R180). -/
theorem counterForm_afresh (m : Mask) (en : Bool) (e : CounterEvent) (th : Int) (inv ed : Bool) (c : Counter)
    (h : (counterForm m en e th inv ed c).event ≠ c.event ∨ (counterForm m en e th inv ed c).threshold ≠ c.threshold
      ∨ (counterForm m en e th inv ed c).invert ≠ c.invert ∨ (counterForm m en e th inv ed c).edge ≠ c.edge) :
    (counterForm m en e th inv ed c).memory = false ∧ (counterForm m en e th inv ed c).value = 0 := by
  unfold counterForm at h ⊢
  dsimp only at h ⊢
  split at h
  next hsame =>
    obtain ⟨hevent, hthreshold, hinvert, hedge⟩ := hsame
    simp [hevent, hthreshold, hinvert, hedge] at h
  next hchanged => simp [if_neg hchanged]

/-- Settles O60, by the two things that a counter does with an event of its own: it compares the sample, or it adds. -/
theorem samplesAreCompared : Obligations.SamplesAreCompared := by
  refine ⟨fun c e x henable hevent he => ?_, fun c e x hoff => c.take_other x (.inl hoff),
    fun c e x inv ed hf ht hq => ?_, fun i => ?_, counterForm_afresh⟩
  · rw [c.take_compares x henable hevent he]
    exact ⟨c.compare_memory_iff x, c.compare_eq x⟩
  · by_cases hon : c.enable = true ∧ c.event = e
    · obtain ⟨henable, hevent⟩ := hon
      have hcounts : ¬ c.Compares e := by
        rintro (rfl | rfl | ⟨rfl, hthreshold⟩)
        · exact hf rfl
        · exact ht rfl
        · exact hthreshold (hq rfl)
      rw [c.take_counts x henable hevent hcounts]
      exact (Counter.take_counts { c with invert := inv, edge := ed } x henable hevent hcounts).trans
        (c.add_invert_edge _ inv ed)
    · have hother : c.enable = false ∨ c.event ≠ e := by simpa [imp_iff_not_or] using hon
      rw [c.take_other x hother]
      exact Counter.take_other _ x hother
  · simp [State.reset, Counter.powerOn]

/-! ### The settings of the counters -/

/-- COUNTER_SET with every field present (R180): a change of enable alone keeps the count. -/
theorem counterForm_full (en : Bool) (e : CounterEvent) (th : Int) (inv ed : Bool) (c : Counter) :
    counterForm 0x3E#16 en e th inv ed c =
      if c.event = e ∧ c.threshold = th ∧ c.invert = inv ∧ c.edge = ed then { c with enable := en }
      else { value := 0, overflow := false, enable := en, event := e, threshold := th, invert := inv, edge := ed
             memory := false } := by
  have hfield : ∀ n ∈ [2, 3, 4, 5, 6], hasField 0x3E#16 n = true := by decide
  simp only [List.forall_mem_cons] at hfield
  obtain ⟨h2, h3, h4, h5, h6, -⟩ := hfield
  simp only [counterForm, pick, h2, h3, h4, h5, h6, if_true]
  by_cases hsame : c.event = e ∧ c.threshold = th ∧ c.invert = inv ∧ c.edge = ed
  · obtain ⟨rfl, rfl, rfl, rfl⟩ := hsame
    simp
  · rw [if_neg hsame, if_neg (fun h => hsame ⟨h.1.symm, h.2.1.symm, h.2.2.1.symm, h.2.2.2.symm⟩)]

/-- A request answered at once by the activity counters, which may have changed. -/
theorem State.request_counters {q : Req} {kind : Byte} {s : State} (hq : Taken q s) (st : Status) (b : Body)
    (cs : Vector Counter 4) (owner : Nat → State → State)
    (howner : owner s.link.nextEntry (s.entered q kind) =
      { s.entered q kind with counters := cs }.run fun x => x.reply s.link.nextEntry st b) :
    s.request q kind owner = { s.answered q kind st b (s.found q.us) with counters := cs } := by
  rw [State.request_taken q kind owner s hq]
  exact howner.trans (State.run_reply q kind st b { s.entered q kind with counters := cs } { s with counters := cs } _
    (s.found q.us) hq.fresh rfl rfl rfl rfl rfl)

section
variable {q : Req} {s : State} (hq : Taken q s)
include hq

theorem counterSet_refused {n : Nat} (hn : 4 ≤ n) (mask : Mask) (en : Bool) (code : Nat) (th : Int) (inv ed : Bool) :
    exec (.counterSet q n mask en code th inv ed) s =
      .next (s.answered q 0x50 (.badField 1) .empty (s.found q.us)) := by
  refine congrArg _ (s.request_counters hq (.badField 1) .empty s.counters _ ?_)
  exact dif_neg (Nat.not_lt.mpr hn)

theorem counterSet_full (i : Fin 4) {code : Nat} {e : CounterEvent} (hcode : counterEventCodes[code]? = some e)
    (en : Bool) (th : Int) (inv ed : Bool) :
    exec (.counterSet q i.val 0x3E#16 en code th inv ed) s =
      .next { s.answered q 0x50 .done (.counter (counterForm 0x3E#16 en e th inv ed (s.counters[i]))) (s.found q.us) with
        counters := s.counters.set i (counterForm 0x3E#16 en e th inv ed (s.counters[i])) } := by
  have hevent : ∀ held, eventOf 0x3E#16 code held = some e := fun _ => (if_pos (by decide)).trans hcode
  have hstray : strayField 0x3E#16 6 = none := by decide
  refine congrArg _ (s.request_counters hq _ _ _ _ ?_)
  simp only [State.counterSet, i.isLt, dif_pos, hevent, hstray]
  rfl

theorem counterGet_eq (mask : Mask) :
    exec (.counterGet q mask) s =
      .next { s.answered q 0x51 .done (.counters s.counters.toList) (s.found q.us) with
        counters := Vector.ofFn fun j : Fin 4 =>
          if mask.getLsbD j then { s.counters[j] with value := 0, overflow := false } else s.counters[j] } :=
  congrArg _ (s.request_counters hq .done (.counters s.counters.toList) _ _ rfl)

/-! ### The bands -/

theorem bandsSet_taken {t1 t2 t3 t4 : Nat} (h1 : 1 ≤ t1) (h2 : t1 < t2) (h3 : t2 < t3) (h4 : t3 < t4)
    (hlast : t4 ≤ 200000) :
    exec (.bandsSet q t1 t2 t3 t4) s = .next
      (s.answered q 0x52 .done (.bands { t1 := t1, t2 := t2, t3 := t3, t4 := t4 })
        { s.found q.us with bands := { t1 := t1, t2 := t2, t3 := t3, t4 := t4 } }) := by
  have hfault : bandsFault t1 t2 t3 t4 = none := by grind [bandsFault, badBand]
  refine congrArg _ (State.ask_replies hq ?_ rfl rfl)
  rw [Core.bandsSet, hfault]

theorem bandsSet_refused {t1 t2 t3 t4 n : Nat} (hfault : bandsFault t1 t2 t3 t4 = some n) :
    exec (.bandsSet q t1 t2 t3 t4) s = .next (s.answered q 0x52 (.badField n) .empty (s.found q.us)) := by
  refine congrArg _ (State.ask_replies hq ?_ rfl rfl)
  rw [Core.bandsSet, hfault]

end

theorem badBand_iff {t : Nat} : badBand t = true ↔ t = 0 ∨ 200000 < t := by
  simp [badBand]

/-- The first threshold outside its range, or else the first not above the one before it (R185). -/
theorem bandsFault_of {t1 t2 t3 t4 n : Nat}
    (h : (1 ≤ t1 ∧ t1 ≤ 200000 ∧ (t2 = 0 ∨ 200000 < t2) ∧ n = 2)
      ∨ (1 ≤ t1 ∧ t1 ≤ 200000 ∧ 1 ≤ t2 ∧ t2 ≤ 200000 ∧ (t3 = 0 ∨ 200000 < t3) ∧ n = 3)
      ∨ (1 ≤ t1 ∧ t1 ≤ 200000 ∧ 1 ≤ t2 ∧ t2 ≤ 200000 ∧ 1 ≤ t3 ∧ t3 ≤ 200000 ∧ (t4 = 0 ∨ 200000 < t4) ∧ n = 4)
      ∨ (1 ≤ t1 ∧ t1 ≤ 200000 ∧ 1 ≤ t2 ∧ t2 ≤ 200000 ∧ 1 ≤ t3 ∧ t3 ≤ 200000 ∧ 1 ≤ t4 ∧ t4 ≤ 200000
        ∧ ((t2 ≤ t1 ∧ n = 2) ∨ (t1 < t2 ∧ t3 ≤ t2 ∧ n = 3) ∨ (t1 < t2 ∧ t2 < t3 ∧ t4 ≤ t3 ∧ n = 4)))) :
    bandsFault t1 t2 t3 t4 = some n := by
  simp only [bandsFault, badBand_iff]
  grind

/-! ### The two timers -/

theorem queueDepthSample_due (us : Nat) (s : State) (h : s.core.depthAt + 100000 ≤ (s.found us).now) :
    exec (.queueDepthSample us) s = .next { s.quietly { s.found us with depthAt := s.core.depthAt + 100000 } with
      counters := s.counters.map fun c => c.take .queueDepth s.core.seq.queue.length } := by
  have hdue : (s.found us).due (s.found us).depthAt 100 = true := decide_eq_true (by simpa using h)
  exact State.event_next (f := Core.depthSample) (if_pos hdue) rfl

section
variable {s : State}

/-- A millisecond that hands the counters nothing or one event. -/
theorem msTick_of {c : Core} (h : Core.tick { s.core with out := [], sig := [] } = c) (hsig : c.sig = []) :
    exec .msTick s = .next { s with
      core := { c with out := [], sig := [] }
      link := (c.out.foldl Link.take s.link).pump
      counters := c.out.foldl takeCounts s.counters } :=
  congrArg _ (State.run_of_sig_nil _ s c h hsig)

theorem msTick_dark (hview : s.core.illum.view.state ≠ .lit) (hhold : s.core.illum.hold = false) :
    exec .msTick s = .next (s.quietly { s.core with now := (s.core.now / 1000 + 1) * 1000 }) :=
  msTick_of (c := { s.core with now := (s.core.now / 1000 + 1) * 1000, out := [], sig := [] })
    (by simp [Core.tick, hview, hhold]) rfl

theorem msTick_lit (hview : s.core.illum.view.state = .lit) (hhold : s.core.illum.hold = false) :
    exec .msTick s = .next { s.quietly { s.core with now := (s.core.now / 1000 + 1) * 1000 } with
      counters := s.counters.map fun c => c.take .viewLightMs 0 } :=
  msTick_of (c := { s.core with now := (s.core.now / 1000 + 1) * 1000, out := [.count .viewLightMs 0], sig := [] })
    (by simp [Core.tick, hview, hhold, Core.tell, Core.emit]) rfl

theorem msTick_held (hview : s.core.illum.view.state ≠ .lit) (hhold : s.core.illum.hold = true) :
    exec .msTick s = .next { s.quietly { s.core with now := (s.core.now / 1000 + 1) * 1000 } with
      counters := s.counters.map fun c => c.take .thermalHoldMs 0 } :=
  msTick_of (c := { s.core with now := (s.core.now / 1000 + 1) * 1000, out := [.count .thermalHoldMs 0], sig := [] })
    (by simp [Core.tick, hview, hhold, Core.tell, Core.emit]) rfl

end

/-- An event counted without a sample is none of the three that have one, and adds 1 (R181). -/
theorem Counter.take_one (c : Counter) {e : CounterEvent} (x : Int) (henable : c.enable = true) (hevent : c.event = e)
    (he : e ∉ [.flashLux, .tempSamples, .queueDepth]) : c.take e x = c.add 1 := by
  obtain ⟨hf, ht, hq⟩ : e ≠ .flashLux ∧ e ≠ .tempSamples ∧ e ≠ .queueDepth := by simpa using he
  have hcounts : ¬ c.Compares e := by
    rintro (h | h | ⟨h, -⟩)
    · exact hf h
    · exact ht h
    · exact hq h
  have hamount : e.amount x = 1 := by
    cases e with
    | queueDepth => exact absurd rfl hq
    | _ => rfl
  rw [c.take_counts x henable hevent hcounts, hamount]

/-- A QUEUE_DEPTH of threshold 0 adds the depth (R184). -/
theorem Counter.take_depth (c : Counter) (d : Nat) (henable : c.enable = true) (hevent : c.event = .queueDepth)
    (hthreshold : c.threshold = 0) : c.take .queueDepth d = c.add d := by
  have hcounts : ¬ c.Compares .queueDepth := by simp [Counter.Compares, hthreshold]
  exact (c.take_counts d henable hevent hcounts).trans (by rw [CounterEvent.amount, Int.toNat_natCast])

/-- Settles O59, by the reply of each request, the two timers and what a counter adds for an event. -/
theorem countersAreSetReadAndCount : Obligations.CountersAreSetReadAndCount := by
  refine ⟨⟨fun q i n code e th en inv ed mask t1 t2 t3 t4 s hq =>
      ⟨fun hn => counterSet_refused hq hn mask en code th inv ed, fun hcode => ?_, counterGet_eq hq mask,
        bandsSet_taken hq, fun h1 => bandsSet_refused hq (if_pos (badBand_iff.mpr h1))⟩,
    fun us s => ⟨queueDepthSample_due us s, msTick_dark, msTick_lit, msTick_held, fun c e n => ⟨c.take_other n,
      fun henable hevent he hroom => ?_, fun henable hevent he hfull => ?_,
      fun d henable hevent hthreshold hroom => ?_⟩⟩⟩,
    fun q t1 t2 t3 t4 n s hq h => bandsSet_refused hq (bandsFault_of h)⟩
  · rw [counterSet_full hq i hcode, counterForm_full]
  · rw [c.take_one n henable hevent he, c.add_of_le (by omega)]
  · rw [c.take_one n henable hevent he, c.add_of_gt (by omega), hfull]
  · rw [c.take_depth d henable hevent hthreshold, c.add_of_le hroom]

end Sys2Proof.Machine
end

section
/-! PROOF. What a command keeps of time, of the capacities and of the entry numbers (O4, O7): one relation between the
blocks as a command finds them and the blocks as they stand while it runs, with a rule for each change of one block. -/

namespace Sys2Proof.Machine

/-! ### The pools -/

/-- A replaced element changes a sum by the difference of the two. -/
theorem sum_map_set_balanced {α : Type} (f : α → Nat) (l : List α) (n : Nat) (h : n < l.length) (x : α) :
    ((l.set n x).map f).sum + f l[n] = (l.map f).sum + f x := by
  rcases Nat.le_total (f l[n]) (f x) with hle | hle
  · have hset := sum_map_set f l n h x (f x - f l[n]) (by omega)
    omega
  · have hback := sum_map_set f (l.set n x) n (by simpa using h) l[n] (f l[n] - f x) (by simp; omega)
    rw [List.set_set, List.set_getElem_self] at hback
    omega

/-- The entries of the exception pool that a slot holds. -/
def slotExceptions : Option Volume → Nat
  | some v => v.exceptions.length
  | none => 0

/-- The entries of the segment pool that a slot holds. -/
def slotSegments : Option Volume → Nat
  | some v => v.segs.length
  | none => 0

section
variable (s : Core) (i : Fin 16) (x : Option Volume)

theorem Core.setSlot_toList : (s.setSlot i x).vols.slots.toList = s.vols.slots.toList.set i.val x :=
  Vector.toList_set i.isLt

theorem Core.exceptionTotal_setSlot :
    (s.setSlot i x).exceptionTotal + slotExceptions s.vols.slots[i] = s.exceptionTotal + slotExceptions x := by
  have h := sum_map_set_balanced slotExceptions s.vols.slots.toList i.val (by simp) x
  rw [← s.setSlot_toList i x] at h
  exact h

theorem Core.segmentTotal_setSlot :
    (s.setSlot i x).segmentTotal + slotSegments s.vols.slots[i] = s.segmentTotal + slotSegments x := by
  have h := sum_map_set_balanced slotSegments s.vols.slots.toList i.val (by simp) x
  rw [← s.setSlot_toList i x] at h
  exact h

theorem Core.freeExceptions_eq : s.freeExceptions = 256 - s.exceptionTotal := rfl

theorem Core.freeSegments_eq : s.freeSegments = 256 - s.segmentTotal := rfl

/-- What a slot holds after one was replaced. -/
theorem Core.setSlot_slots (j : Fin 16) :
    (s.setSlot i x).vols.slots[j] = if j = i then x else s.vols.slots[j] := by
  by_cases hj : j = i
  · subst hj
    simp [Core.setSlot]
  · have hne : i.val ≠ j.val := fun hij => hj (Fin.ext hij.symm)
    simp [Core.setSlot, hj, hne]

end

/-! ### What is watched -/

/-- What is watched while a command runs: the places of the ring lent to a record whose attempt is still in hand,
whether a turn on its way must have its leaf ahead, and the entry numbers that the command itself brings. -/
structure Watch where
  lent : Nat
  carry : Bool
  new : Nat → Prop

/-- The places of the ring that are taken: its records, and the reservation of an attempt (R117). -/
def Capture.load (c : Capture) : Nat := c.ring.length + c.reserved

/-- The step queue within its capacity (R135), and empty in IDLE. -/
def Sequencer.Fits (q : Sequencer) : Prop := q.queue.length ≤ 16 ∧ (q.state = .idle → q.queue = [])

/-- A turn is on its way, with its leaf not yet laid. -/
def Motion.Carries (m : Motion) : Prop := m.turn.isSome = true ∧ m.arm.carrying = true

/-- The mounted volume has a leaf to turn: its cursor stands below L. -/
def Core.LeafAhead (s : Core) : Prop := ∃ v, s.volume = some v ∧ v.cursor < v.leaves

/-- The capacities, with the places lent and the leaf ahead as they are watched. -/
structure Core.Within (w : Watch) (s : Core) : Prop where
  ring : s.cap.load ≤ 64 + w.lent
  seq : s.seq.Fits
  exceptions : s.exceptionTotal ≤ 256
  segments : s.segmentTotal ≤ 256
  cursors : ∀ (i : Fin 16) (v : Volume), s.vols.slots[i] = some v → v.cursor ≤ v.leaves
  carried : w.carry = true → s.motion.Carries → s.LeafAhead

/-- The illumination unit keeps an entry number: that of a calibration flash in hand or past its lamp-off. -/
def Illum.Holds (x : Illum) (e : Nat) : Prop :=
  x.flash.map (·.by_) = some (.calibration e) ∨ x.closing.map (·.by_) = some (.calibration e)

/-- The cradle keeps an entry number: that of a homing. -/
def Motion.Holds (m : Motion) (e : Nat) : Prop := m.homing.map (·.entry) = some e

/-- Work in hand keeps an entry number (R190). -/
def Core.Holds (s : Core) (e : Nat) : Prop :=
  s.illum.Holds e ∨ s.motion.Holds e ∨ .measure e ∈ s.meas.allWaiting

/-- An entry number that the work found by the command kept, or that the command brings. -/
def Watch.Known (w : Watch) (z : Core) (e : Nat) : Prop := z.Holds e ∨ w.new e

/-- The entry number that a flash keeps, if any, is known. -/
def Watch.Owns (w : Watch) (z : Core) (f : Flash) : Prop := ∀ e, f.by_ = .calibration e → w.Known z e

/-- The blocks `s`, which a command has made of the blocks `z`: time stands, the capacities hold as they are watched,
and the work in hand keeps known entry numbers. -/
structure Core.Sound (w : Watch) (z s : Core) : Prop where
  now : s.now = z.now
  within : z.WithinCapacities → s.Within w
  holds : ∀ e, s.Holds e → w.Known z e

/-- What the relation reads of a flash in hand or past its lamp-off. -/
def Illum.watched (x : Illum) : Option FlashBy × Option FlashBy := (x.flash.map (·.by_), x.closing.map (·.by_))

/-- What the relation reads of the cradle. -/
def Motion.watched (m : Motion) : Bool × Bool × Option Nat := (m.turn.isSome, m.arm.carrying, m.homing.map (·.entry))

/-- What the relation reads of the blocks. -/
def Core.watched (s : Core) :=
  (s.now, s.cap.load, (s.seq.queue, s.seq.state), s.vols.slots, s.vols.mounted, s.motion.watched, s.illum.watched,
    s.meas.allWaiting)

/-- A change of a record that keeps its segments and its cursor, and adds no exception. -/
structure Volume.Keeps (f : Volume → Volume) : Prop where
  segs : ∀ v, (f v).segs = v.segs
  cursor : ∀ v, (f v).cursor = v.cursor
  exceptions : ∀ v, (f v).exceptions.length ≤ v.exceptions.length

/-- The watch of a command that brings no entry number, with nothing lent. -/
def Watch.plain : Watch := { lent := 0, carry := true, new := fun _ => False }

/-- The watch of a command that brings one entry number. -/
def Watch.bringing (id : Nat) : Watch := { Watch.plain with new := fun e => e = id }

theorem Core.watched_eq_iff {s t : Core} : t.watched = s.watched ↔ t.now = s.now ∧ t.cap.load = s.cap.load ∧
    (t.seq.queue, t.seq.state) = (s.seq.queue, s.seq.state) ∧ t.vols.slots = s.vols.slots ∧
    t.vols.mounted = s.vols.mounted ∧ t.motion.watched = s.motion.watched ∧ t.illum.watched = s.illum.watched ∧
    t.meas.allWaiting = s.meas.allWaiting := by
  simp only [Core.watched, Prod.mk.injEq]

theorem Sequencer.fits_congr {p q : Sequencer} (h : (p.queue, p.state) = (q.queue, q.state)) (hq : q.Fits) :
    p.Fits := by
  obtain ⟨hqueue, hstate⟩ := Prod.mk.inj h
  rwa [Sequencer.Fits, hqueue, hstate]

theorem Motion.carries_congr {m n : Motion} (h : m.watched = n.watched) (hm : m.Carries) :
    n.Carries := by
  simp only [Motion.watched, Prod.mk.injEq] at h
  obtain ⟨hturn, harm, -⟩ := h
  rwa [Motion.Carries, ← hturn, ← harm]

theorem Motion.holds_congr {m n : Motion} {e : Nat} (h : m.watched = n.watched) (hm : m.Holds e) : n.Holds e := by
  simp only [Motion.watched, Prod.mk.injEq] at h
  obtain ⟨-, -, hhoming⟩ := h
  exact hhoming.symm.trans hm

theorem Illum.holds_congr {x y : Illum} {e : Nat} (h : x.watched = y.watched) (hx : x.Holds e) : y.Holds e := by
  obtain ⟨hflash, hclosing⟩ := Prod.mk.inj h
  exact hx.imp hflash.symm.trans hclosing.symm.trans

theorem Volume.Keeps.of_eq {f : Volume → Volume}
    (h : ∀ v, ((f v).segs, (f v).cursor, (f v).exceptions) = (v.segs, v.cursor, v.exceptions)) : Volume.Keeps f := by
  simp only [Prod.mk.injEq] at h
  exact ⟨fun v => (h v).1, fun v => (h v).2.1, fun v => (congrArg List.length (h v).2.2).le⟩

theorem Core.within_iff {w : Watch} {s : Core} (hlent : w.lent = 0) (hcarry : w.carry = true) :
    s.Within w ↔ s.WithinCapacities := by
  refine ⟨fun h => ?_, fun h => ?_⟩
  · obtain ⟨hlength, hidle⟩ := h.seq
    exact ⟨by simpa [hlent, Capture.load] using h.ring, hlength, hidle, h.exceptions, h.segments, h.cursors,
      fun hturn harm => h.carried hcarry ⟨hturn, harm⟩⟩
  · exact ⟨by simpa [hlent, Capture.load] using h.ring, ⟨h.queue, h.idle⟩, h.exceptions, h.segments, h.cursors,
      fun _ ⟨hturn, harm⟩ => h.carried hturn harm⟩

theorem State.numbersIssued_iff {s : State} : s.NumbersIssued ↔ ∀ e, s.core.Holds e → e < s.link.nextEntry := by
  refine ⟨fun h e he => ?_, fun h => ⟨fun f e hf he => ?_, fun f e hf he => ?_, fun x hx => ?_, fun e he => ?_⟩⟩
  · obtain (hflash | hclosing) | hhoming | hwaits := he
    · obtain ⟨f, hf, he⟩ := Option.map_eq_some_iff.mp hflash
      exact h.flash f e hf he
    · obtain ⟨f, hf, he⟩ := Option.map_eq_some_iff.mp hclosing
      exact h.closing f e hf he
    · obtain ⟨x, hx, rfl⟩ := Option.map_eq_some_iff.mp hhoming
      exact h.homing x hx
    · exact h.measures e hwaits
  · exact h e (.inl (.inl (by simp [hf, he])))
  · exact h e (.inl (.inr (by simp [hf, he])))
  · exact h x.entry (.inr (.inl (by simp [Motion.Holds, hx])))
  · exact h e (.inr (.inr he))

/-! ### The records as they are read -/

section
variable {s t : Core}

theorem Core.mounted_congr (hslots : t.vols.slots = s.vols.slots) (hmounted : t.vols.mounted = s.vols.mounted) :
    t.mounted = s.mounted := by
  unfold Core.mounted
  rw [hslots, hmounted]

theorem Core.volume_congr (hslots : t.vols.slots = s.vols.slots) (hmounted : t.vols.mounted = s.vols.mounted) :
    t.volume = s.volume := by
  rw [Core.volume, Core.mounted_congr hslots hmounted, Core.volume]

theorem Core.mounted_eq_some {i : Fin 16} {v : Volume} :
    s.mounted = some (i, v) ↔ s.vols.mounted = some i ∧ s.vols.slots[i] = some v := by
  unfold Core.mounted
  cases s.vols.mounted with
  | none => simp
  | some j =>
    simp only [Option.map_eq_some_iff, Prod.mk.injEq, Option.some.injEq]
    constructor
    · rintro ⟨v', hv, rfl, rfl⟩
      exact ⟨rfl, hv⟩
    · rintro ⟨rfl, hv⟩
      exact ⟨v, hv, rfl, rfl⟩

theorem Core.volume_eq_some {v : Volume} :
    s.volume = some v ↔ ∃ i, s.vols.mounted = some i ∧ s.vols.slots[i] = some v := by
  simp [Core.volume, Option.map_eq_some_iff, Core.mounted_eq_some]

end

/-! ### The rules for one block -/

namespace Core.Sound
variable {w : Watch} {z s t : Core}

theorem refl (w : Watch) (z : Core) : Core.Sound w z z := by
  refine ⟨rfl, fun h => ?_, fun e he => .inl he⟩
  have hz := (Core.within_iff (w := .plain) rfl rfl).mpr h
  exact ⟨hz.ring.trans (Nat.le_add_right _ _), hz.seq, hz.exceptions, hz.segments, hz.cursors, fun _ => hz.carried rfl⟩

/-- A change that leaves the records and brings nothing that the watch does not know. -/
theorem update (h : Core.Sound w z s) (now : t.now = s.now) (ring : t.cap.load ≤ s.cap.load)
    (seq : s.seq.Fits → t.seq.Fits) (slots : t.vols.slots = s.vols.slots) (mounted : t.vols.mounted = s.vols.mounted)
    (carries : t.motion.Carries → s.motion.Carries ∨ s.LeafAhead)
    (illum : ∀ e, t.illum.Holds e → s.illum.Holds e ∨ w.Known z e)
    (homing : ∀ e, t.motion.Holds e → s.motion.Holds e ∨ w.Known z e)
    (meas : ∀ e, .measure e ∈ t.meas.allWaiting → .measure e ∈ s.meas.allWaiting ∨ w.Known z e) :
    Core.Sound w z t := by
  refine ⟨now.trans h.now, fun hz => ?_, fun e he => ?_⟩
  · have hs := h.within hz
    refine ⟨ring.trans hs.ring, seq hs.seq, ?_, ?_, fun i v hv => hs.cursors i v (slots ▸ hv), fun hcarry ht => ?_⟩
    · unfold Core.exceptionTotal
      rw [slots]
      exact hs.exceptions
    · unfold Core.segmentTotal
      rw [slots]
      exact hs.segments
    · have hahead : s.LeafAhead := (carries ht).elim (hs.carried hcarry) id
      obtain ⟨v, hv, hlt⟩ := hahead
      exact ⟨v, (Core.volume_congr slots mounted).trans hv, hlt⟩
  · rcases he with he | he | he
    · exact (illum e he).elim (fun hs => h.holds e (.inl hs)) id
    · exact (homing e he).elim (fun hs => h.holds e (.inr (.inl hs))) id
    · exact (meas e he).elim (fun hs => h.holds e (.inr (.inr hs))) id

/-- A change of nothing that the relation reads. -/
theorem keep (h : Core.Sound w z s) (ht : t.watched = s.watched) : Core.Sound w z t := by
  obtain ⟨now, ring, seq, slots, mounted, motion, illum, meas⟩ := Core.watched_eq_iff.mp ht
  exact h.update now ring.le (Sequencer.fits_congr seq) slots mounted
    (fun hc => .inl (Motion.carries_congr motion hc)) (fun _ he => .inl (Illum.holds_congr illum he))
    (fun _ he => .inl (Motion.holds_congr motion he)) fun _ he => .inl (meas ▸ he)

section
variable (h : Core.Sound w z s)
include h

theorem setDose {d : Dose} : Core.Sound w z { s with dose := d } := h.keep rfl

theorem setPanel {p : Panel} : Core.Sound w z { s with panel := p } := h.keep rfl

theorem setCap {c : Capture} (load : c.load ≤ s.cap.load) : Core.Sound w z { s with cap := c } :=
  h.update rfl load id rfl rfl .inl (fun _ => .inl) (fun _ => .inl) fun _ => .inl

theorem setSequencer {q : Sequencer} (fits : s.seq.Fits → q.Fits) : Core.Sound w z { s with seq := q } :=
  h.update rfl (Nat.le_refl _) fits rfl rfl .inl (fun _ => .inl) (fun _ => .inl) fun _ => .inl

/-- A change of the sequencer, with nothing else that the relation reads. -/
theorem requeue (fits : s.seq.Fits → t.seq.Fits) (ht : { t with seq := s.seq }.watched = s.watched) :
    Core.Sound w z t := (h.keep ht).setSequencer fits

theorem setIllum {x : Illum} (holds : ∀ e, x.Holds e → s.illum.Holds e ∨ w.Known z e) :
    Core.Sound w z { s with illum := x } :=
  h.update rfl (Nat.le_refl _) id rfl rfl .inl holds (fun _ => .inl) fun _ => .inl

theorem setMotion {m : Motion} (carries : m.Carries → s.motion.Carries ∨ s.LeafAhead)
    (holds : ∀ e, m.Holds e → s.motion.Holds e ∨ w.Known z e) : Core.Sound w z { s with motion := m } :=
  h.update rfl (Nat.le_refl _) id rfl rfl carries (fun _ => .inl) holds fun _ => .inl

theorem setMeas {m : Measure}
    (waits : ∀ e, .measure e ∈ m.allWaiting → .measure e ∈ s.meas.allWaiting ∨ w.Known z e) :
    Core.Sound w z { s with meas := m } :=
  h.update rfl (Nat.le_refl _) id rfl rfl .inl (fun _ => .inl) (fun _ => .inl) waits

end

/-- A slot's record replaced by one of at most as many entries, with its cursor in bounds and its leaf still ahead. -/
theorem setSlot {i : Fin 16} {x : Option Volume} (h : Core.Sound w z s)
    (exceptions : s.exceptionTotal ≤ 256 → s.exceptionTotal + slotExceptions x ≤ 256 + slotExceptions s.vols.slots[i])
    (segments : s.segmentTotal ≤ 256 → s.segmentTotal + slotSegments x ≤ 256 + slotSegments s.vols.slots[i])
    (cursor : (∀ v, s.vols.slots[i] = some v → v.cursor ≤ v.leaves) → ∀ v, x = some v → v.cursor ≤ v.leaves)
    (ahead : w.carry = true → s.motion.Carries → s.vols.mounted = some i →
      ∀ v, s.vols.slots[i] = some v → v.cursor < v.leaves → ∃ v', x = some v' ∧ v'.cursor < v'.leaves) :
    Core.Sound w z (s.setSlot i x) := by
  refine ⟨h.now, fun hz => ?_, h.holds⟩
  have hs := h.within hz
  have hexceptions := s.exceptionTotal_setSlot i x
  have hsegments := s.segmentTotal_setSlot i x
  refine ⟨hs.ring, hs.seq, ?_, ?_, fun j v hv => ?_, fun hcarry hcarries => ?_⟩
  · have := exceptions hs.exceptions
    omega
  · have := segments hs.segments
    omega
  · rw [Core.setSlot_slots] at hv
    split at hv
    · exact cursor (hs.cursors i) v hv
    · exact hs.cursors j v hv
  · obtain ⟨v, hv, hlt⟩ := hs.carried hcarry hcarries
    obtain ⟨j, hm, hj⟩ := Core.volume_eq_some.mp hv
    have hget := s.setSlot_slots i x j
    by_cases hji : j = i
    · subst hji
      obtain ⟨v', hx, hlt'⟩ := ahead hcarry hcarries hm v hj hlt
      rw [if_pos rfl] at hget
      exact ⟨v', Core.volume_eq_some.mpr ⟨j, hm, hget.trans hx⟩, hlt'⟩
    · rw [if_neg hji, hj] at hget
      exact ⟨v, Core.volume_eq_some.mpr ⟨j, hm, hget⟩, hlt⟩

/-- A record changed in nothing that fills a pool or moves its cursor. -/
theorem editSlot {i : Fin 16} {f : Volume → Volume} (h : Core.Sound w z s) (hf : Volume.Keeps f) :
    Core.Sound w z (s.editSlot i f) := by
  obtain ⟨segs, cursor, exceptions⟩ := hf
  have hleaves (v : Volume) : (f v).leaves = v.leaves := by simp only [Volume.leaves, segs]
  unfold Core.editSlot
  split
  next v hv =>
    refine h.setSlot (fun hs => ?_) (fun hs => ?_) (fun hs v' hv' => ?_) fun _ _ _ v' hv' hlt => ?_
    · have := exceptions v
      simp only [slotExceptions, hv]
      omega
    · simp only [slotSegments, hv, segs]
      omega
    · obtain rfl := Option.some.inj hv'
      rw [cursor, hleaves]
      exact hs v hv
    · obtain rfl := Option.some.inj (hv.symm.trans hv')
      exact ⟨f v, rfl, by rwa [cursor, hleaves]⟩
  next => exact h

theorem editMounted {f : Volume → Volume} (h : Core.Sound w z s) (hf : Volume.Keeps f) :
    Core.Sound w z (s.editMounted f) := by
  unfold Core.editMounted
  split
  · exact h.editSlot hf
  · exact h

/-- An append takes a free entry of the pool, or is not made (R22). -/
theorem appendException {i : Fin 16} {k : ExceptionKind} {opening detail : Nat} {seq : Option SeqNo}
    (h : Core.Sound w z s) : Core.Sound w z (s.appendException i k opening detail seq) := by
  unfold Core.appendException
  split
  · exact h
  next hfree =>
    rw [Core.freeExceptions_eq] at hfree
    unfold Core.editSlot
    split
    next v hv =>
      refine h.setSlot (fun hs => ?_) (fun hs => ?_) (fun hs v' hv' => ?_) fun _ _ _ v' hv' hlt => ?_
      · simp only [slotExceptions, hv, List.length_append, List.length_singleton]
        omega
      · simp only [slotSegments, hv]
        omega
      · obtain rfl := Option.some.inj hv'
        exact hs v hv
      · obtain rfl := Option.some.inj (hv.symm.trans hv')
        exact ⟨_, rfl, hlt⟩
    next => exact h

theorem appendMounted {k : ExceptionKind} {opening detail : Nat} {seq : Option SeqNo} (h : Core.Sound w z s) :
    Core.Sound w z (s.appendMounted k opening detail seq) := by
  unfold Core.appendMounted
  split
  · exact h.appendException
  · exact h

end Core.Sound

end Sys2Proof.Machine
end

section
/-! PROOF. The rules for the operations that the units share and for the charges of light (O4, O7), in the order of
the definitions. -/

namespace Sys2Proof.Machine

namespace Core.Sound
variable {w : Watch} {z s : Core}

/-! ### Messages and holds -/

theorem emit {o : Out} (h : Core.Sound w z s) : Core.Sound w z (s.emit o) := h.keep rfl

theorem report {r : Report} (h : Core.Sound w z s) : Core.Sound w z (s.report r) := h.emit

theorem reply {id : Nat} {st : Status} {b : Body} (h : Core.Sound w z s) : Core.Sound w z (s.reply id st b) := h.emit

theorem tell {e : CounterEvent} {n : Int} (h : Core.Sound w z s) : Core.Sound w z (s.tell e n) := h.emit

theorem signal {g : Signal} (h : Core.Sound w z s) : Core.Sound w z (s.signal g) := h.keep rfl

theorem stopPause (h : Core.Sound w z s) : Core.Sound w z s.stopPause := by
  unfold Core.stopPause
  split
  · exact h.keep rfl
  · exact h

theorem runPause (h : Core.Sound w z s) : Core.Sound w z s.runPause := by
  unfold Core.runPause
  split
  · exact h.keep rfl
  · exact h

theorem setHold {r : HoldReason} (h : Core.Sound w z s) : Core.Sound w z (s.setHold r) := by
  unfold Core.setHold Core.reportHold
  exact .report (.stopPause (h.setSequencer fun ⟨hlength, _⟩ => ⟨hlength, nofun⟩))

theorem enterHold {r : HoldReason} (h : Core.Sound w z s) : Core.Sound w z (s.enterHold r) := by
  unfold Core.enterHold
  split
  · exact h
  · exact h.setHold

theorem raiseFault {k : FaultKind} {d : FaultDetail} (h : Core.Sound w z s) : Core.Sound w z (s.raiseFault k d) :=
  .enterHold (.report (h.keep rfl))

theorem reportAssist {k : AssistKind} {opening : Option Nat} (h : Core.Sound w z s) :
    Core.Sound w z (s.reportAssist k opening) := h.report

theorem holdInterlock (h : Core.Sound w z s) : Core.Sound w z s.holdInterlock := by
  unfold Core.holdInterlock
  dsimp only
  split
  · exact h.enterHold
  · exact .reportAssist (h.enterHold.keep rfl)

theorem endFaults {es : List FaultEntry} (h : Core.Sound w z s) : Core.Sound w z (s.endFaults es) := by
  induction es generalizing s with
  | nil => exact h
  | cons e es ih =>
    unfold Core.endFaults
    split
    · exact ih (.report (h.keep rfl))
    · exact ih h

theorem judgeFaults (h : Core.Sound w z s) : Core.Sound w z s.judgeFaults := h.endFaults

/-! ### The checks and the charges of light -/

theorem forceView {close : Core → Core} {f : ViewLight → ViewLight} (h : Core.Sound w z s)
    (hclose : ∀ {s}, Core.Sound w z s → Core.Sound w z (close s)) : Core.Sound w z (s.forceView close f) :=
  hclose (h.keep rfl)

theorem checkCeiling {close : Core → Core} (h : Core.Sound w z s)
    (hclose : ∀ {s}, Core.Sound w z s → Core.Sound w z (close s)) : Core.Sound w z (s.checkCeiling close) := by
  unfold Core.checkCeiling
  (repeat' split)
  · exact h.forceView hclose
  all_goals exact h

theorem checkLow {i : Fin 16} (h : Core.Sound w z s) : Core.Sound w z (s.checkLow i) := by
  unfold Core.checkLow
  (repeat' split)
  · exact .report (h.editSlot (.of_eq fun _ => rfl))
  all_goals exact h

theorem checkExhausted {close : Core → Core} {i : Fin 16} {seq : Option SeqNo} (h : Core.Sound w z s)
    (hclose : ∀ {s}, Core.Sound w z s → Core.Sound w z (close s)) : Core.Sound w z (s.checkExhausted close i seq) := by
  unfold Core.checkExhausted
  dsimp only
  (repeat' split)
  · exact .forceView (.appendException (.report (h.editSlot (.of_eq fun _ => rfl)))) hclose
  · exact .appendException (.report (h.editSlot (.of_eq fun _ => rfl)))
  all_goals exact h

theorem checksWith {close : Core → Core} {i : Fin 16} {seq : Option SeqNo} (h : Core.Sound w z s)
    (hclose : ∀ {s}, Core.Sound w z s → Core.Sound w z (close s)) : Core.Sound w z (s.checksWith close i seq) := by
  unfold Core.checksWith
  dsimp only
  split
  · exact (h.checkCeiling hclose).checkLow.checkExhausted hclose
  · exact h.checkLow.checkExhausted hclose

theorem checksStill {seq : Option SeqNo} (h : Core.Sound w z s) : Core.Sound w z (s.checksStill seq) := by
  unfold Core.checksStill
  split
  · exact h.checksWith id
  · exact h

theorem addDose {q : Nat} {f : Volume → Volume} (h : Core.Sound w z s) (hf : Volume.Keeps f) :
    Core.Sound w z (s.addDose q f) := .editMounted (h.keep rfl) hf

theorem chargeView {eV ms : Nat} (h : Core.Sound w z s) : Core.Sound w z (s.chargeView eV ms) :=
  h.addDose (.of_eq fun _ => rfl)

theorem closePeriod (h : Core.Sound w z s) : Core.Sound w z s.closePeriod := by
  unfold Core.closePeriod
  split
  · exact .checksStill (.chargeView (h.keep rfl))
  · exact h

theorem checks {i : Fin 16} {seq : Option SeqNo} (h : Core.Sound w z s) : Core.Sound w z (s.checks i seq) :=
  h.checksWith closePeriod

theorem beginPeriodAt {eV : Nat} (h : Core.Sound w z s) : Core.Sound w z (s.beginPeriodAt eV) := by
  unfold Core.beginPeriodAt
  split
  · exact h.keep rfl
  · exact h

theorem beginPeriod (h : Core.Sound w z s) : Core.Sound w z s.beginPeriod := h.beginPeriodAt

theorem withView {f : ViewLight → ViewLight} (h : Core.Sound w z s) : Core.Sound w z (s.withView f) := by
  unfold Core.withView
  dsimp only
  (repeat' split)
  · exact h.keep rfl
  · exact .closePeriod (h.keep rfl)
  · exact .beginPeriod (h.keep rfl)

theorem reviseView (h : Core.Sound w z s) : Core.Sound w z s.reviseView := by
  unfold Core.reviseView
  (repeat' split)
  · exact h
  · exact h.closePeriod.beginPeriod
  · exact h

theorem fullPeriod {a : Accrual} (h : Core.Sound w z s) : Core.Sound w z (s.fullPeriod a) := by
  have hperiod : Core.Sound w z
      (({ s with dose := { s.dose with accrual := none } }.chargeView a.eV 100).checksStill none) :=
    .checksStill (.chargeView (h.keep rfl))
  unfold Core.fullPeriod
  dsimp only
  split
  · exact hperiod.keep rfl
  · exact hperiod

theorem tellFlash {e : Nat} {dimmed : Bool} {cause : Cause} (h : Core.Sound w z s) :
    Core.Sound w z (s.tellFlash e dimmed cause) := by
  have hdimmed : Core.Sound w z (if dimmed then (s.tell .flashes 0).tell .flashesDimmed 0 else s.tell .flashes 0) := by
    split
    · exact h.tell.tell
    · exact h.tell
  unfold Core.tellFlash
  cases cause with
  | none => exact hdimmed.tell
  | _ => exact hdimmed.tell.tell

theorem chargeFlash {adm : Admission} {used : Nat × Source × Bool} {q : Nat} {seq : SeqNo} (h : Core.Sound w z s) :
    Core.Sound w z (s.chargeFlash adm used q seq).1 := by
  have hdose : Core.Sound w z (s.addDose q fun v => { v with uF := satAdd max40 v.uF q }) :=
    h.addDose (.of_eq fun _ => rfl)
  unfold Core.chargeFlash
  dsimp only
  (repeat' split)
  · exact .tellFlash (hdose.checks.appendMounted.editMounted (.of_eq fun _ => rfl))
  · exact .tellFlash (hdose.appendMounted.editMounted (.of_eq fun _ => rfl))
  · exact .tellFlash (hdose.checks.editMounted (.of_eq fun _ => rfl))
  · exact .tellFlash (hdose.editMounted (.of_eq fun _ => rfl))

theorem chargeWindow {adm : Admission} {r : Option Result} {seq : SeqNo} (h : Core.Sound w z s) :
    Core.Sound w z (s.chargeWindow adm r seq).1 := by
  unfold Core.chargeWindow
  split
  · exact h.chargeFlash
  · exact h.chargeFlash

theorem chargeAborted {adm : Admission} {us : Micros} {seq : SeqNo} (h : Core.Sound w z s) :
    Core.Sound w z (s.chargeAborted adm us seq).1 := by
  unfold Core.chargeAborted
  split
  · exact h.chargeFlash
  · exact h.chargeFlash

/-! ### The cursor -/

end Core.Sound

/-- The mounted record after a change that keeps the records but for their doses, flags and exceptions. -/
theorem Core.Ledger.volume_of {R : Volume → Volume → Prop} {s t : Core} (h : Core.Ledger R s t)
    (hR : ∀ {v v'}, R v v' → Volume.Kept v v') (hm : t.vols.mounted = s.vols.mounted) {v' : Volume}
    (hv : t.volume = some v') : ∃ v, s.volume = some v ∧ v'.leaves = v.leaves ∧ v'.cursor = v.cursor := by
  obtain ⟨i, hi, hget⟩ := Core.volume_eq_some.mp hv
  cases hs : s.vols.slots[i] with
  | none => simp [h.none_of hs] at hget
  | some v =>
    obtain ⟨u, hu, hrel⟩ := h.some_of hs
    obtain rfl := Option.some.inj (hu.symm.trans hget)
    have hkept := hR hrel
    exact ⟨v, Core.volume_eq_some.mpr ⟨i, hm ▸ hi, hs⟩, by rw [hkept.same]; rfl, hkept.cursor⟩

/-- The mounted record after it was changed. -/
theorem Core.volume_editMounted (f : Volume → Volume) (s : Core) : (s.editMounted f).volume = s.volume.map f := by
  unfold Core.editMounted
  split
  next i hm =>
    cases hv : s.vols.slots[i] with
    | none => simp [Core.editSlot, hv, Core.volume, Core.mounted, hm]
    | some v =>
      rw [s.editSlot_of i v f hv, Core.volume_of (s.setSlot i (some (f v))) i (f v) hm (Core.setSlot_get _ _ _),
        Core.volume_of s i v hm hv]
      rfl
  next hm => simp [Core.volume, Core.mounted, hm]

namespace Core.Sound
variable {w : Watch} {z s : Core}

/-- A mounted record's cursor set within bounds, with no turn on its way. -/
theorem setCursor {k : Nat} (h : Core.Sound w z s) (hk : z.WithinCapacities → ∀ v, s.volume = some v → k ≤ v.leaves)
    (hcarry : w.carry = true → ¬ s.motion.Carries) :
    Core.Sound w z (s.editMounted fun v => { v with cursor := k }) := by
  unfold Core.editMounted
  split
  next i hm =>
    unfold Core.editSlot
    split
    next v hv =>
      have hset : Core.Sound w z (s.setSlot i (some { v with cursor := min k v.leaves })) := by
        refine h.setSlot (fun hs => ?_) (fun hs => ?_) (fun _ v' hv' => ?_) fun hc hturn => absurd hturn (hcarry hc)
        · simp only [slotExceptions, hv]
          omega
        · simp only [slotSegments, hv]
          omega
        · obtain rfl := Option.some.inj hv'
          exact Nat.min_le_right _ _
      refine ⟨hset.now, fun hz => ?_, hset.holds⟩
      have hle := hk hz v (Core.volume_eq_some.mpr ⟨i, hm, hv⟩)
      have hw := hset.within hz
      rwa [Nat.min_eq_left hle] at hw
    next => exact h
  next => exact h

/-- The delivery of a cursor in bounds (R18), with no turn on its way. -/
theorem moveCursor {k : Nat} (h : Core.Sound w z s) (hk : z.WithinCapacities → ∀ v, s.volume = some v → k ≤ v.leaves)
    (hcarry : w.carry = true → ¬ s.motion.Carries) : Core.Sound w z (s.moveCursor k) := by
  have hclosed : Core.Sound w z (s.closePeriod.editMounted fun v => { v with cursor := k }) := by
    refine h.closePeriod.setCursor (fun hz v hv => ?_) (by simpa using hcarry)
    obtain ⟨u, hu, hleaves, -⟩ := s.closePeriod_ledger.volume_of (fun hg => hg.toKept) (by simp) hv
    rw [hleaves]
    exact hk hz u hu
  unfold Core.moveCursor
  dsimp only
  split
  · exact .setCap (.withView (.beginPeriodAt hclosed.setDose)) (Nat.le_refl _)
  · exact .setCap (.withView hclosed.setDose) (Nat.le_refl _)

end Core.Sound

end Sys2Proof.Machine
end

section
/-! PROOF. The rules for the converter, the endings of an attempt and the flash (O4, O7), in the order of the
definitions. -/

namespace Sys2Proof.Machine

/-! ### Who waits for a conversion -/

/-- The requesters of a list that keep an entry number keep a known one. -/
def Watch.Knows (w : Watch) (z : Core) (rs : List Requester) : Prop := ∀ e, .measure e ∈ rs → w.Known z e

theorem mem_waiters {r : Requester} {x : Option PendingConv} : r ∈ waiters x ↔ ∃ e, x = some e ∧ r ∈ e.requesters := by
  cases x <;> simp [waiters]

theorem Measure.mem_allWaiting {m : Measure} {r : Requester} :
    r ∈ m.allWaiting ↔
      (∃ c, m.conv = some c ∧ r ∈ c.requesters) ∨ ∃ ch e, m.pending.get ch = some e ∧ r ∈ e.requesters := by
  have hpending : (∃ ch e, m.pending.get ch = some e ∧ r ∈ e.requesters) ↔
      r ∈ waiters m.pending.p ∨ r ∈ waiters m.pending.g ∨ r ∈ waiters m.pending.f ∨ r ∈ waiters m.pending.t := by
    simp only [mem_waiters]
    refine ⟨fun ⟨ch, h⟩ => ?_, fun h => ?_⟩
    · cases ch with
      | P => exact .inl h
      | G => exact .inr (.inl h)
      | F => exact .inr (.inr (.inl h))
      | T => exact .inr (.inr (.inr h))
    · rcases h with h | h | h | h
      · exact ⟨.P, h⟩
      · exact ⟨.G, h⟩
      · exact ⟨.F, h⟩
      · exact ⟨.T, h⟩
  rw [hpending]
  unfold Measure.allWaiting
  cases m.conv <;> simp

namespace Core.Sound
variable {w : Watch} {z s : Core}

theorem conv_known {c : Conversion} (h : Core.Sound w z s) (hc : s.meas.conv = some c) : w.Knows z c.requesters :=
  fun e he => h.holds e (.inr (.inr (Measure.mem_allWaiting.mpr (.inl ⟨c, hc, he⟩))))

theorem pending_known {ch : Channel} {x : PendingConv} (h : Core.Sound w z s) (hx : s.meas.pending.get ch = some x) :
    w.Knows z x.requesters :=
  fun e he => h.holds e (.inr (.inr (Measure.mem_allWaiting.mpr (.inr ⟨ch, x, hx, he⟩))))

/-- The conversion in progress and the pending entries replaced by ones that keep known entry numbers. -/
theorem setWaiting {m : Measure} (h : Core.Sound w z s) (hconv : ∀ c, m.conv = some c → w.Knows z c.requesters)
    (hpending : ∀ ch x, m.pending.get ch = some x → w.Knows z x.requesters) :
    Core.Sound w z { s with meas := m } := by
  refine h.setMeas fun e he => .inr ?_
  obtain ⟨c, hc, he⟩ | ⟨ch, x, hx, he⟩ := Measure.mem_allWaiting.mp he
  · exact hconv c hc e he
  · exact hpending ch x hx e he

/-! ### Lamp-on -/

/-- The attempt in hand replaced by one that needs no more places of the ring. -/
theorem setAttemptOf {a b : Attempt} {c : Capture} (h : Core.Sound w z s) (ha : s.cap.attempt = some a)
    (hb : c.attempt = some b) (hring : c.ring = s.cap.ring)
    (hphase : a.phase = .ringWait → b.phase = .ringWait) : Core.Sound w z { s with cap := c } := by
  refine h.setCap ?_
  unfold Capture.load Capture.reserved
  rw [ha, hb, hring]
  dsimp only
  split
  · omega
  next hne => rw [if_neg fun hwait => hne (hphase hwait)]

theorem captureLampOn {q : Nat} (h : Core.Sound w z s) : Core.Sound w z (s.captureLampOn q) := by
  unfold Core.captureLampOn
  split
  next a ha =>
    split
    next hphase => exact .editMounted (h.setAttemptOf ha rfl rfl (by simp [hphase])) (.of_eq fun _ => rfl)
    next => exact h
  next => exact h

theorem lampOn (h : Core.Sound w z s) : Core.Sound w z s.lampOn := by
  unfold Core.lampOn
  split
  next f hf =>
    split
    · have hlit : Core.Sound w z
          { s with illum := { s.illum with life := .lit, flash := some { f with litAt := s.now } } } :=
        h.setIllum fun e he => .inl (by simpa [Illum.Holds, hf] using he)
      dsimp only
      split
      · exact hlit.captureLampOn
      · exact hlit
    · exact h
  next => exact h

/-! ### The converter -/

theorem grant {ch : Channel} {x : PendingConv} (h : Core.Sound w z s) (hx : w.Knows z x.requesters) :
    Core.Sound w z (s.grant ch x) := by
  have hbegun : Core.Sound w z { s with meas := { s.meas with
      conv := some { channel := ch, kind := x.kind, requesters := x.requesters, since := s.now,
                     limit := s.convLimit x.kind } } } := by
    refine h.setWaiting (fun c hc => ?_) fun ch' x' => h.pending_known
    obtain rfl := Option.some.inj hc
    exact hx
  unfold Core.grant
  dsimp only
  split
  · exact hbegun.lampOn
  · exact hbegun

/-- A pending entry replaced. -/
theorem setPending {ch : Channel} {x : Option PendingConv} {m : Measure} (h : Core.Sound w z s)
    (hx : ∀ y, x = some y → w.Knows z y.requesters) (hm : m.pending = s.meas.pending.set ch x)
    (hconv : ∀ c, m.conv = some c → w.Knows z c.requesters) : Core.Sound w z { s with meas := m } := by
  refine h.setWaiting hconv fun ch' y hy => ?_
  rw [hm, PerChannel.get_set] at hy
  split at hy
  · exact hx y hy
  · exact h.pending_known hy

theorem grantNext (h : Core.Sound w z s) : Core.Sound w z s.grantNext := by
  unfold Core.grantNext
  split
  next ch hconv _ =>
    split
    next x hx => exact .grant (h.setPending (x := none) nofun rfl fun c => h.conv_known) (h.pending_known hx)
    next => exact h
  next => exact h

theorem joinEntry_known {kind : ConvKind} {who : Requester} {ch : Channel} (h : Core.Sound w z s)
    (hwho : ∀ e, who = .measure e → w.Known z e) :
    w.Knows z (joinEntry kind who (s.meas.pending.get ch)).requesters := by
  intro e he
  unfold joinEntry at he
  split at he
  · exact hwho e (List.mem_singleton.mp he).symm
  next x hx =>
    rcases List.mem_append.mp he with he | he
    · exact h.pending_known hx e he
    · exact hwho e (List.mem_singleton.mp he).symm

theorem post {ch : Channel} {kind : ConvKind} {who : Requester} (h : Core.Sound w z s)
    (hwho : ∀ e, who = .measure e → w.Known z e) : Core.Sound w z (s.post ch kind who) := by
  have hjoin {t : Core} (ht : Core.Sound w z t) : Core.Sound w z { t with meas := { t.meas with
      pending := t.meas.pending.set ch (some (joinEntry kind who (s.meas.pending.get ch))) } } := by
    refine ht.setPending (fun y hy => ?_) rfl fun c => ht.conv_known
    obtain rfl := Option.some.inj hy
    exact h.joinEntry_known hwho
  unfold Core.post
  dsimp only
  (repeat' split)
  · exact hjoin h.tell
  · exact h.grant fun e he => hwho e (List.mem_singleton.mp he).symm
  · exact hjoin h

theorem withdraw {ch : Channel} {gone : Requester → Bool} (h : Core.Sound w z s) :
    Core.Sound w z (s.withdraw ch gone) := by
  refine h.setPending (fun y hy e he => ?_) rfl fun c hc e he => ?_
  · obtain ⟨x, hx, hy⟩ := Option.bind_eq_some_iff.mp hy
    unfold withdrawEntry at hy
    dsimp only at hy
    split at hy
    · exact absurd hy nofun
    · obtain rfl := Option.some.inj hy
      exact h.pending_known hx e (List.mem_filter.mp he).1
  · obtain ⟨x, hx, rfl⟩ := Option.map_eq_some_iff.mp hc
    refine h.conv_known hx e ?_
    split at he
    · exact (List.mem_filter.mp he).1
    · exact he

theorem abandonWindow (h : Core.Sound w z s) : Core.Sound w z s.abandonWindow := by
  unfold Core.abandonWindow
  split
  next c hc =>
    split
    · have hfree : Core.Sound w z { s with meas := { s.meas with conv := none } } :=
        h.setWaiting nofun fun _ _ => h.pending_known
      have hspots : w.Knows z (c.requesters.filter fun r => r != .window) := fun e he =>
        h.conv_known hc e (List.mem_filter.mp he).1
      dsimp only
      split
      · exact hfree.grantNext
      · refine .grantNext (hfree.setPending (ch := .P) (fun y hy e he => ?_) rfl nofun)
        obtain rfl := Option.some.inj hy
        split at he
        next x hx =>
          rcases List.mem_append.mp he with he | he
          · exact h.pending_known (ch := .P) hx e he
          · exact hspots e he
        next => exact hspots e he
    · exact h
  next => exact h

/-! ### The endings of an attempt -/

theorem tellOutcome {opening : Nat} {seq : SeqNo} {o : CaptureOutcome} (h : Core.Sound w z s) :
    Core.Sound w z (s.tellOutcome opening seq o) := by
  unfold Core.tellOutcome
  dsimp only
  (repeat' split)
  · exact h.editMounted (.of_eq fun _ => rfl)
  · exact .appendMounted (h.editMounted (.of_eq fun _ => rfl))
  · exact h.editMounted (.of_eq fun _ => rfl)
  · exact h
  · exact h.appendMounted

theorem restoreView (h : Core.Sound w z s) : Core.Sound w z s.restoreView := h.withView

theorem latchCapture {ok dimmed : Bool} (h : Core.Sound w z s) : Core.Sound w z (s.latchCapture ok dimmed) :=
  h.keep rfl

/-- A record takes a place of the ring, lent to it while its attempt is still in hand. -/
theorem writeRecord {r : Record} (h : Core.Sound w z s) :
    Core.Sound { w with lent := w.lent + 1 } z (s.writeRecord r) := by
  have hwritten :
      Core.Sound { w with lent := w.lent + 1 } z { s with cap := { s.cap with ring := s.cap.ring ++ [r] } } := by
    refine ⟨h.now, fun hz => ?_, h.holds⟩
    have hs := h.within hz
    refine ⟨?_, hs.seq, hs.exceptions, hs.segments, hs.cursors, hs.carried⟩
    have hring := hs.ring
    simp only [Capture.load, List.length_append, List.length_singleton] at hring ⊢
    exact Nat.le_trans (by simp only [Capture.reserved]; omega) (Nat.add_le_add_right hring 1)
  unfold Core.writeRecord
  dsimp only
  (repeat' split)
  · exact hwritten.report
  · exact hwritten
  · exact hwritten

/-- Nothing is lent that is not watched. -/
theorem lend (h : Core.Sound w z s) : Core.Sound { w with lent := w.lent + 1 } z s := by
  refine ⟨h.now, fun hz => ?_, h.holds⟩
  have hs := h.within hz
  exact ⟨hs.ring.trans (by simp), hs.seq, hs.exceptions, hs.segments, hs.cursors, hs.carried⟩

theorem recordAttempt {a : Attempt} {o : CaptureOutcome} {dose : DoseRecord} (h : Core.Sound w z s) :
    Core.Sound { w with lent := w.lent + 1 } z (s.recordAttempt a o dose) := by
  unfold Core.recordAttempt
  dsimp only
  split
  · exact h.writeRecord.tellOutcome
  · exact h.lend.tellOutcome

/-- The place lent is given back when an attempt that holds a reservation goes. -/
theorem giveBack {c : Capture} (h : Core.Sound { w with lent := w.lent + 1 } z s) (hc : c.load + 1 ≤ s.cap.load) :
    Core.Sound w z { s with cap := c } := by
  refine ⟨h.now, fun hz => ?_, h.holds⟩
  have hs := h.within hz
  have hring := hs.ring
  exact ⟨by dsimp only at hring ⊢; omega, hs.seq, hs.exceptions, hs.segments, hs.cursors, hs.carried⟩

end Core.Sound

theorem Capture.toIdle_load_le (c : Capture) : c.toIdle.load ≤ c.load := by
  simp [Capture.load, Capture.toIdle, Capture.reserved]

/-- An attempt that waits for no room holds one place of the ring (R117). -/
theorem Capture.toIdle_load {c : Capture} {a : Attempt} (ha : c.attempt = some a) (hphase : a.phase ≠ .ringWait) :
    c.toIdle.load + 1 = c.load := by
  simp [Capture.load, Capture.toIdle, Capture.reserved, ha, hphase]

theorem Core.writeRecord_attempt (r : Record) (s : Core) : (s.writeRecord r).cap.attempt = s.cap.attempt := by
  unfold Core.writeRecord
  dsimp only
  (repeat' split) <;> rfl

theorem Core.recordAttempt_attempt (a : Attempt) (o : CaptureOutcome) (dose : DoseRecord) (s : Core) :
    (s.recordAttempt a o dose).cap.attempt = s.cap.attempt := by
  unfold Core.recordAttempt
  dsimp only
  split
  · simp [Core.writeRecord_attempt]
  · simp

namespace Core.Sound
variable {w : Watch} {z s : Core}

theorem finishAttempt {a b : Attempt} {o : CaptureOutcome} {dose : DoseRecord} (h : Core.Sound w z s)
    (hb : s.cap.attempt = some b) (hphase : b.phase ≠ .ringWait) : Core.Sound w z (s.finishAttempt a o dose) := by
  have hattempt :
      (((s.recordAttempt a o dose).latchCapture (o == .ok) dose.dimmed).restoreView).cap.attempt = some b := by
    simp [Core.restoreView, Core.withView_chargeKept, Core.latchCapture, Core.recordAttempt_attempt, hb]
  have hidle := h.recordAttempt (a := a) (o := o) (dose := dose)
    |>.latchCapture (ok := o == .ok) (dimmed := dose.dimmed)
    |>.restoreView.giveBack (Nat.le_of_eq (Capture.toIdle_load hattempt hphase))
  unfold Core.finishAttempt
  dsimp only
  split
  · exact hidle
  · exact hidle.signal

theorem tryFinish (h : Core.Sound w z s) : Core.Sound w z s.tryFinish := by
  unfold Core.tryFinish
  split
  next a ha =>
    split
    next hphase _ =>
      have hne : a.phase ≠ .ringWait := by simp [hphase]
      (repeat' split)
      · exact h.finishAttempt ha hne
      · exact h.finishAttempt ha hne
      · exact h
    next => exact h
  next => exact h

theorem captureDose {r : DoseRecord} (h : Core.Sound w z s) : Core.Sound w z (s.captureDose r) := by
  unfold Core.captureDose
  split
  next a ha => exact .tryFinish (h.setAttemptOf ha rfl rfl id)
  next => exact h

theorem captureLampOff (h : Core.Sound w z s) : Core.Sound w z s.captureLampOff := by
  unfold Core.captureLampOff
  split
  next a ha =>
    split
    next hphase => exact h.setAttemptOf ha rfl rfl (by simp [hphase])
    next => exact h
  next => exact h

theorem endUnlit (h : Core.Sound w z s) : Core.Sound w z s.endUnlit := h.restoreView.setCap (Capture.toIdle_load_le _)

theorem endUnlitWith {e : AttemptEnding} (h : Core.Sound w z s) : Core.Sound w z (s.endUnlitWith e) := h.endUnlit.signal

end Core.Sound

end Sys2Proof.Machine
end

section
/-! PROOF. The rules for the flash and the thermal hold (O4, O7), in the order of the definitions. -/

namespace Sys2Proof.Machine

theorem Illum.holds_iff {x : Illum} {e : Nat} :
    x.Holds e ↔ ∃ f, (x.flash = some f ∨ x.closing = some f) ∧ f.by_ = .calibration e := by
  simp only [Illum.Holds, Option.map_eq_some_iff, or_and_right, exists_or]

namespace Core.Sound
variable {w : Watch} {z s : Core} {f : Flash}

/-! ### The flash in hand -/

theorem flash_owned (h : Core.Sound w z s) (hf : s.illum.flash = some f) : w.Owns z f :=
  fun e he => h.holds e (.inl (Illum.holds_iff.mpr ⟨f, .inl hf, he⟩))

theorem closing_owned (h : Core.Sound w z s) (hf : s.illum.closing = some f) : w.Owns z f :=
  fun e he => h.holds e (.inl (Illum.holds_iff.mpr ⟨f, .inr hf, he⟩))

/-- The flash in hand and the one past its lamp-off replaced by ones that keep known entry numbers. -/
theorem setFlashes {x : Illum} (h : Core.Sound w z s) (hflash : ∀ f, x.flash = some f → w.Owns z f)
    (hclosing : ∀ f, x.closing = some f → w.Owns z f) : Core.Sound w z { s with illum := x } := by
  refine h.setIllum fun e he => .inr ?_
  obtain ⟨f, hf | hf, he⟩ := Illum.holds_iff.mp he
  · exact hflash f hf e he
  · exact hclosing f hf e he

/-- The flash in hand is gone. -/
theorem loseFlash {x : Illum} (h : Core.Sound w z s) (hflash : x.flash = none)
    (hclosing : x.closing = s.illum.closing) : Core.Sound w z { s with illum := x } :=
  h.setFlashes (by simp [hflash]) fun _ hf => h.closing_owned (hclosing ▸ hf)

/-- The flash past its lamp-off is gone. -/
theorem loseClosing {x : Illum} (h : Core.Sound w z s) (hflash : x.flash = s.illum.flash)
    (hclosing : x.closing = none) : Core.Sound w z { s with illum := x } :=
  h.setFlashes (fun _ hf => h.flash_owned (hflash ▸ hf)) (by simp [hclosing])

/-- The flash in hand is now past its lamp-off. -/
theorem closeFlash {x : Illum} (h : Core.Sound w z s) (hf : w.Owns z f) (hflash : x.flash = none)
    (hclosing : x.closing = some f) : Core.Sound w z { s with illum := x } :=
  h.setFlashes (by simp [hflash]) (by simpa [hclosing] using hf)

theorem setFlash {life : Lifecycle} (h : Core.Sound w z s) (hf : w.Owns z f) :
    Core.Sound w z (s.setFlash life (some f)) := by
  refine h.setFlashes (fun x hx => ?_) fun _ => h.closing_owned
  obtain rfl := Option.some.inj hx
  exact hf

theorem dropFlash (h : Core.Sound w z s) : Core.Sound w z s.dropFlash := h.loseFlash rfl rfl

theorem refuseFlash {r : FlashRefusal} (h : Core.Sound w z s) : Core.Sound w z (s.refuseFlash f r) := by
  unfold Core.refuseFlash
  dsimp only
  split
  · exact h.tell.dropFlash.signal
  · exact h.tell.dropFlash.reply

theorem meetHold (h : Core.Sound w z s) (hf : w.Owns z f) : Core.Sound w z (s.meetHold f) := by
  unfold Core.meetHold
  split
  · exact h.setFlash hf
  · exact h.refuseFlash

/-! ### The thermal hold -/

theorem enterThermal {value : Option Int} (h : Core.Sound w z s) : Core.Sound w z (s.enterThermal value) := by
  unfold Core.enterThermal
  extract_lets _ s1 s2
  have hheld : Core.Sound w z s2 := .withView (.report (h.keep rfl))
  split
  · exact hheld.keep rfl
  next f _ hf => exact hheld.meetHold (hheld.flash_owned hf)
  · exact hheld

/-! ### Admission -/

theorem admitFlash {r : Result} (h : Core.Sound w z s) (hf : w.Owns z f) : Core.Sound w z (s.admitFlash f r) := by
  unfold Core.admitFlash
  split
  next cal _ =>
    extract_lets _ s1 answer s2
    have hcounted : Core.Sound w z s2 := by
      unfold s2
      split
      · exact h.keep rfl
      · exact h.keep rfl
    clear_value answer s2
    cases answer with
    | ok a => exact .post (hcounted.setFlash hf) nofun
    | error e => exact hcounted.refuseFlash
  next => exact h.refuseFlash

theorem useReading {r : Result} (h : Core.Sound w z s) : Core.Sound w z (s.useReading r) := by
  unfold Core.useReading
  split
  next f _ hf =>
    have hown : w.Owns z f := h.flash_owned hf
    split
    · exact h.admitFlash hown
    · exact h.setFlash hown
  next => exact h

theorem testHold {faulted : Bool} {value : Option Int} (h : Core.Sound w z s) :
    Core.Sound w z (s.testHold faulted value) := by
  unfold Core.testHold
  split
  · exact h.enterThermal
  · exact h

theorem advance (h : Core.Sound w z s) : Core.Sound w z s.advance := by
  unfold Core.advance
  split
  next f _ hf =>
    have hown : w.Owns z f := h.flash_owned hf
    have hasked : Core.Sound w z ((s.setFlash .admitting (some { f with tAsked := true })).post .T .spot .admission) :=
      .post (h.setFlash hown) nofun
    (repeat' split)
    · exact h.testHold.useReading
    · exact hasked
    · exact hasked
    · exact h
  next => exact h

theorem enterAdmitting (h : Core.Sound w z s) (hf : w.Owns z f) : Core.Sound w z (s.enterAdmitting f) := by
  unfold Core.enterAdmitting
  dsimp only
  (repeat' split)
  · exact h.refuseFlash
  · exact h.refuseFlash
  · exact h.meetHold hf
  · exact .advance (h.setFlash hf)

theorem leaveThermal {value : Option Int} (h : Core.Sound w z s) : Core.Sound w z (s.leaveThermal value) := by
  unfold Core.leaveThermal
  extract_lets _ s1 s2
  have hleft : Core.Sound w z s2 := .withView (.report (h.keep rfl))
  split
  next f _ hf => exact hleft.enterAdmitting (hleft.flash_owned hf)
  · exact hleft.keep rfl
  · exact hleft

theorem thermalTest {faulted : Bool} {value : Option Int} (h : Core.Sound w z s) :
    Core.Sound w z (s.thermalTest faulted value) := by
  unfold Core.thermalTest
  split
  · exact h.leaveThermal
  · exact h.testHold

theorem thermalAtMount (h : Core.Sound w z s) : Core.Sound w z s.thermalAtMount := by
  unfold Core.thermalAtMount
  split
  · exact h.thermalTest
  · exact h

theorem askFlash {side : Side} (h : Core.Sound w z s) : Core.Sound w z (s.askFlash side) := by
  have hnew : w.Owns z (newFlash (.capture side) s.now) := nofun
  unfold Core.askFlash
  dsimp only
  (repeat' split)
  · exact h.signal
  · exact h.meetHold hnew
  · exact h.enterAdmitting hnew

theorem giveLeave (h : Core.Sound w z s) : Core.Sound w z s.giveLeave := by
  unfold Core.giveLeave
  split
  next f hf => exact .advance (h.setIllum fun e he => .inl (by simpa [Illum.Holds, hf] using he))
  next => exact h

/-! ### Lamp-off -/

theorem handWindow {r : Option Result} (h : Core.Sound w z s) : Core.Sound w z (s.handWindow r) := by
  unfold Core.handWindow
  split
  next f _ =>
    extract_lets _ s1
    have hgone : Core.Sound w z s1 := h.loseClosing rfl rfl
    split
    · exact hgone.chargeWindow.captureDose
    · exact hgone.tellFlash.reply
    · exact hgone
  next => exact h

theorem lampsOff (h : Core.Sound w z s) (hf : w.Owns z f) : Core.Sound w z (s.lampsOff f) := by
  unfold Core.lampsOff
  extract_lets _ s1
  have hoff : Core.Sound w z s1 := h.closeFlash hf rfl rfl
  split
  · exact hoff.captureLampOff
  · exact hoff

/-! ### The curtain and ABORT -/

theorem illumBreak (h : Core.Sound w z s) : Core.Sound w z s.illumBreak := by
  unfold Core.illumBreak
  split
  next f hf =>
    have hown : w.Owns z f := h.flash_owned hf
    dsimp only
    split
    · exact h.setFlash hown
    · exact h.setFlash hown
    · exact h.withdraw.enterAdmitting hown
    · exact h
  next => exact h

theorem abortLit (h : Core.Sound w z s) : Core.Sound w z (s.abortLit f) := by
  unfold Core.abortLit
  extract_lets t _ s1
  have hoff : Core.Sound w z s1 := h.loseFlash rfl rfl
  split
  · exact hoff.captureLampOff.abandonWindow.chargeAborted.captureDose
  · exact hoff.abandonWindow.tellFlash.reply
  · exact hoff

theorem illumAbort (h : Core.Sound w z s) : Core.Sound w z s.illumAbort := by
  unfold Core.illumAbort
  split
  next f _ =>
    extract_lets drop
    have hdrop {x : Core} (hx : Core.Sound w z x) : Core.Sound w z (drop x) := by
      unfold drop
      split
      · exact hx.dropFlash
      · exact hx.dropFlash.reply
    split
    · exact hdrop h.withdraw
    · exact hdrop h.withdraw
    · exact hdrop h.withdraw
    · exact h.abortLit
    · exact h
  next => exact h

end Core.Sound

end Sys2Proof.Machine
end

section
/-! PROOF. The rules for the cradle (O4, O7), in the order of the definitions. -/

namespace Sys2Proof.Machine

/-- A motion of the arm is on the way of a turn but in its return, whether the curtain stops it at its start or not. -/
theorem ArmState.carrying_start (m : ArmMove) (broken : Bool) :
    (if broken then ArmState.stopped m .curtain else ArmState.moving m).carrying = (m != .returning) := by
  cases broken <;> rfl

/-- An arm on its return carries no leaf. -/
theorem Core.beginReturn_stops (s : Core) : ¬ s.beginReturn.motion.Carries := by
  simp [Motion.Carries, ArmState.carrying_start]

namespace Core.Sound
variable {w : Watch} {z s : Core}

/-! ### Axes -/

theorem setPlaten {p : PlatenState} (h : Core.Sound w z s) : Core.Sound w z (s.setPlaten p) := .judgeFaults (h.keep rfl)

theorem setAngle {a : AngleState} (h : Core.Sound w z s) : Core.Sound w z (s.setAngle a) := .judgeFaults (h.keep rfl)

theorem setArm {a : ArmState} {stage : ArmStage} (h : Core.Sound w z s)
    (ha : a.carrying = true → s.motion.turn.isSome = true → s.motion.arm.carrying = true ∨ s.LeafAhead) :
    Core.Sound w z (s.setArm a stage) :=
  .judgeFaults (h.setMotion (fun ⟨hturn, harm⟩ => (ha harm hturn).imp (⟨hturn, ·⟩) id) fun _ => .inl)

theorem angleStopped (h : Core.Sound w z s) : Core.Sound w z s.angleStopped := by
  unfold Core.angleStopped
  split
  · exact h.keep rfl
  · exact h

theorem dropForce (h : Core.Sound w z s) : Core.Sound w z s.dropForce := h.withdraw

theorem dropGauge (h : Core.Sound w z s) : Core.Sound w z s.dropGauge := h.withdraw

theorem startPlaten {m : PlatenMove} (h : Core.Sound w z s) : Core.Sound w z (s.startPlaten m) := h.setPlaten

/-- The arm in a state that is not on the way of a turn. -/
theorem restArm {a : ArmState} {stage : ArmStage} (h : Core.Sound w z s) (ha : a.carrying = false) :
    Core.Sound w z (s.setArm a stage) := h.setArm fun hcarrying => absurd (ha.symm.trans hcarrying) nofun

theorem startArm {m : ArmMove} {stage : ArmStage} (h : Core.Sound w z s)
    (hm : m ≠ .returning → s.motion.turn.isSome = true → s.motion.arm.carrying = true ∨ s.LeafAhead) :
    Core.Sound w z (s.startArm m stage) :=
  h.setArm fun ha => hm (by simpa [ArmState.carrying_start] using ha)

/-! ### The platen -/

theorem beginRaise (h : Core.Sound w z s) : Core.Sound w z s.beginRaise := .startPlaten (h.dropForce.keep rfl)

theorem askRaise (h : Core.Sound w z s) : Core.Sound w z s.askRaise.1 := by
  unfold Core.askRaise
  split
  · exact h
  · exact h.beginRaise
  · exact h.beginRaise
  · exact h
  · exact h

theorem sampleForce (h : Core.Sound w z s) : Core.Sound w z s.sampleForce := .post (h.keep rfl) nofun

theorem beginLowering (h : Core.Sound w z s) : Core.Sound w z s.beginLowering := by
  unfold Core.beginLowering
  extract_lets _ s1
  have hlowering : Core.Sound w z s1 := .startPlaten (h.keep rfl)
  split
  · exact hlowering.sampleForce
  · exact hlowering

theorem askLowering (h : Core.Sound w z s) : Core.Sound w z s.askLowering := by
  unfold Core.askLowering
  (repeat' split)
  · exact h.signal
  · exact h.keep rfl
  · exact h.beginLowering
  all_goals exact h.signal

theorem failLowering {force : Bool} {r : PlatenReason} (h : Core.Sound w z s) :
    Core.Sound w z (s.failLowering force r) := .signal (.beginRaise (h.keep rfl))

theorem forceResult {r : Result} (h : Core.Sound w z s) : Core.Sound w z (s.forceResult r) := by
  unfold Core.forceResult
  (repeat' split)
  · exact h.failLowering
  · exact h.raiseFault.failLowering
  · exact h.keep rfl
  all_goals exact h

/-! ### The turn -/

theorem refuseTurn {o : TurnOutcome} (h : Core.Sound w z s) : Core.Sound w z (s.refuseTurn o) := .signal (h.keep rfl)

theorem beginSuck {t : Turn} (h : Core.Sound w z s) : Core.Sound w z (s.beginSuck t) := h.keep rfl

theorem turnAtUp (h : Core.Sound w z s) : Core.Sound w z s.turnAtUp := by
  unfold Core.turnAtUp
  split
  next v hv =>
    split
    · exact h.refuseTurn
    next hbelow =>
      have hahead : s.LeafAhead := ⟨v, hv, Nat.lt_of_not_le hbelow⟩
      split
      · exact h.refuseTurn
      · exact .startArm (h.setMotion (fun _ => .inr hahead) fun _ => .inl) fun _ _ => .inr hahead
  next => exact h.refuseTurn

theorem turnFromPlaten (h : Core.Sound w z s) : Core.Sound w z s.turnFromPlaten := by
  have hraise := h.askRaise
  unfold Core.turnFromPlaten
  split
  next heq =>
    rw [heq] at hraise
    exact hraise.turnAtUp
  next heq =>
    rw [heq] at hraise
    exact hraise.keep rfl
  next heq =>
    rw [heq] at hraise
    exact hraise.refuseTurn

theorem askTurn (h : Core.Sound w z s) : Core.Sound w z s.askTurn := by
  unfold Core.askTurn
  (repeat' split)
  · exact h.signal
  · exact h.signal
  · exact h.signal
  · exact h.signal
  · exact h.signal
  · exact h.keep rfl
  · exact h.turnFromPlaten

theorem putDown {why : PutDown} (h : Core.Sound w z s) : Core.Sound w z (s.putDown why) := h.dropGauge.keep rfl

theorem beginReturn (h : Core.Sound w z s) : Core.Sound w z s.beginReturn := h.startArm fun hne => absurd rfl hne

theorem giveAssist {k : AssistKind} {t : Turn} (h : Core.Sound w z s) (hturn : s.motion.turn.isSome = true) :
    Core.Sound w z (s.giveAssist k t) := by
  unfold Core.giveAssist
  extract_lets pending _ s1 s2
  have hmarked : Core.Sound w z s1 := h.setMotion (fun ⟨_, harm⟩ => .inl ⟨hturn, harm⟩) fun _ => .inl
  have htold : Core.Sound w z s2 := by
    unfold s2
    split
    · exact hmarked
    · exact hmarked.reportAssist
  exact htold.enterHold

theorem countFailure {why : PutDown} {t : Turn} (h : Core.Sound w z s) : Core.Sound w z (s.countFailure why t) := by
  unfold Core.countFailure
  dsimp only
  split
  · exact h.tell.appendMounted
  · exact .tell (h.tell.appendMounted.editMounted (.of_eq fun _ => rfl))
  · exact h.tell

theorem attemptFailed {why : PutDown} {t : Turn} (h : Core.Sound w z s) (hturn : s.motion.turn.isSome = true)
    (harm : s.motion.arm.carrying = true) : Core.Sound w z (s.attemptFailed why t) := by
  unfold Core.attemptFailed
  extract_lets s1 t1 _ s2
  have hcounted : Core.Sound w z s1 := h.countFailure
  have hmotion : s1.motion = s.motion := s.countFailure_motion why t
  have hfailed : Core.Sound w z s2 :=
    hcounted.setMotion (fun ⟨_, ha⟩ => .inl ⟨by rwa [hmotion], ha⟩) fun _ => .inl
  have harm2 : s2.motion.arm.carrying = true := (congrArg (fun m : Motion => m.arm.carrying) hmotion).trans harm
  split
  · exact hfailed.beginReturn
  · split
    · exact .startArm (hfailed.setMotion (fun _ => .inl ⟨rfl, harm2⟩) fun _ => .inl) fun _ _ => .inl harm2
    · exact (hfailed.appendMounted.giveAssist (by simp [s2])).beginReturn

theorem tryGauging (h : Core.Sound w z s) : Core.Sound w z s.tryGauging := by
  unfold Core.tryGauging
  split
  next hready => exact h.startArm fun _ _ => .inl (by simp [hready.1, ArmState.carrying])
  next => exact h

theorem gaugeResult {r : Result} (h : Core.Sound w z s) : Core.Sound w z (s.gaugeResult r) := by
  unfold Core.gaugeResult
  split
  next hgauging =>
    (repeat' split)
    · exact h.putDown
    · exact h.putDown
    · exact h.startArm fun _ _ => .inl (by simp [hgauging.1, ArmState.carrying])
    · exact h.putDown
    · exact h
  next => exact h

theorem vacuumLoss {n : Nat} (h : Core.Sound w z s) (harm : s.motion.arm.carrying = true) :
    Core.Sound w z (s.vacuumLoss n) := by
  unfold Core.vacuumLoss
  split
  next t ht =>
    have hstopped : Core.Sound w z ({ s with motion := { s.motion with valveOpen := false } }.setArm
        (.stopped .sweeping .vacuumLost) .sweep) := .setArm (h.keep rfl) fun _ _ => .inl harm
    have hlost := (hstopped.appendMounted (k := .vacuumLost) (opening := t.opening) (detail := n)
      (seq := none)).giveAssist (k := .vacuumLost) (t := { t with vacLost := true }) (by simp [ht])
      |>.raiseFault (k := .vacuumLost) (d := .vacuum n)
    dsimp only
    split
    · exact hlost.beginReturn
    · exact hlost
  next => exact h

/-- The watch without the leaf ahead. -/
theorem dropCarry (h : Core.Sound w z s) : Core.Sound { w with carry := false } z s := by
  refine ⟨h.now, fun hz => ?_, h.holds⟩
  have hs := h.within hz
  exact ⟨hs.ring, hs.seq, hs.exceptions, hs.segments, hs.cursors, nofun⟩

/-- With no turn on its way, no leaf need be ahead. -/
theorem regainCarry (h : Core.Sound { w with carry := false } z s) (harm : ¬ s.motion.Carries) : Core.Sound w z s := by
  refine ⟨h.now, fun hz => ?_, h.holds⟩
  have hs := h.within hz
  exact ⟨hs.ring, hs.seq, hs.exceptions, hs.segments, hs.cursors, fun _ hcarries => absurd hcarries harm⟩

theorem layLeaf {t : Turn} (h : Core.Sound w z s) (hcarry : w.carry = true) (hcarries : s.motion.Carries) :
    Core.Sound { w with carry := false } z (s.layLeaf t) := by
  have htallied : Core.Sound { w with carry := false } z (s.editMounted fun v =>
      { v with tallies := { v.tallies with turns := bump v.tallies.turns } }) :=
        h.dropCarry.editMounted (.of_eq fun _ => rfl)
  refine .setMotion (.tell (htallied.moveCursor (fun hz v hv => ?_) nofun)) (fun ⟨_, harm⟩ => .inl ⟨?_, harm⟩)
    fun _ => .inl
  · obtain ⟨u, hu, hlt⟩ := (h.within hz).carried hcarry hcarries
    rw [Core.volume_editMounted, hu] at hv
    obtain rfl := Option.some.inj hv
    simp only [Core.cursor, Core.volume_editMounted, hu, Option.map_some]
    exact hlt
  · simpa using hcarries.1

theorem endTurn (h : Core.Sound w z s) : Core.Sound w z s.endTurn := by
  unfold Core.endTurn
  split
  next t _ =>
    have hended : Core.Sound w z { s with
        motion := { s.motion with turn := none }
        seq := { s.seq with latched := { s.seq.latched with turnOne := t.laid, turnDouble := t.many } } } :=
      .setSequencer (h.setMotion (m := { s.motion with turn := none }) (by simp [Motion.Carries]) fun _ => .inl) id
    dsimp only
    split
    · exact hended
    · exact hended.signal
  next => exact h

theorem openRefResult {r : Result} (h : Core.Sound w z s) : Core.Sound w z (s.openRefResult r) := by
  unfold Core.openRefResult
  dsimp only
  (repeat' split)
  · exact .endTurn (h.restArm rfl)
  · exact .endTurn (.restArm (h.keep rfl) rfl)
  · exact h

theorem armFault {m : ArmMove} (h : Core.Sound w z s) : Core.Sound w z (s.armFault m) := by
  have hfault : Core.Sound w z
      (({ s with motion := { s.motion with turn := none } }.setArm .fault s.motion.stage).raiseFault
      .armTimeout (.arm m)) :=
    .raiseFault (.restArm (h.setMotion (by simp [Motion.Carries]) fun _ => .inl) rfl)
  unfold Core.armFault
  extract_lets told _ s1 s2
  clear_value told
  split
  · exact hfault.signal
  · exact hfault

/-! ### Requests held for the angle -/

theorem takeHeld (h : Core.Sound w z s) : Core.Sound w z s.takeHeld := by
  unfold Core.takeHeld
  split
  · exact h
  · extract_lets _ s1
    have hlowered : Core.Sound w z s1 := by
      unfold s1
      split
      · exact .askLowering (h.keep rfl)
      · exact h
    clear_value s1
    split
    · exact .turnFromPlaten (hlowered.keep rfl)
    · exact hlowered

theorem tellRaise {ok : Bool} (h : Core.Sound w z s) : Core.Sound w z (s.tellRaise ok) := by
  unfold Core.tellRaise
  split
  · exact .signal (h.keep rfl)
  · exact h

theorem platenArrived (h : Core.Sound w z s) : Core.Sound w z s.platenArrived := by
  have hup : Core.Sound w z
      (({ s with motion := { s.motion with forceRaise := false } }.setPlaten .up).tellRaise true) :=
    .tellRaise (.setPlaten (h.keep rfl))
  unfold Core.platenArrived
  dsimp only
  split
  · exact hup.turnAtUp
  · exact hup

theorem raiseFailed (h : Core.Sound w z s) : Core.Sound w z s.raiseFailed := by
  have hfault : Core.Sound w z (((s.setPlaten .fault).raiseFault .platenTimeout .raising).tellRaise false) :=
    h.setPlaten.raiseFault.tellRaise
  unfold Core.raiseFailed
  dsimp only
  split
  · exact hfault.refuseTurn
  · exact hfault

theorem moveAngle {target : Nat} (h : Core.Sound w z s) : Core.Sound w z (s.moveAngle target) := .setAngle (h.keep rfl)

theorem mountAngle {target : Nat} (h : Core.Sound w z s) : Core.Sound w z (s.mountAngle target) := by
  unfold Core.mountAngle
  (repeat' split)
  · exact h
  · exact h
  · exact h.keep rfl
  · exact h.keep rfl
  · exact h
  · exact h.moveAngle

/-! ### Homing -/

theorem homing_known {x : Homing} (h : Core.Sound w z s) (hx : s.motion.homing = some x) : w.Known z x.entry :=
  h.holds _ (.inr (.inl (by simp [Motion.Holds, hx])))

theorem endHoming {x : Homing} {o : HomingOutcome} {renewed : Bool} (h : Core.Sound w z s) :
    Core.Sound w z (s.endHoming x o renewed) :=
  .reply (h.setMotion .inl (by simp [Motion.Holds]))

theorem unreference {p : HomingPhase} (h : Core.Sound w z s) : Core.Sound w z (s.unreference p) := by
  unfold Core.unreference
  split
  · exact .tellRaise (.setPlaten (h.keep rfl))
  · exact h.restArm rfl
  · exact .setAngle (h.angleStopped.keep rfl)
  · exact .setAngle (h.angleStopped.keep rfl)
  · exact h.withdraw

theorem breakHoming {o : HomingOutcome} (h : Core.Sound w z s) : Core.Sound w z (s.breakHoming o) := by
  unfold Core.breakHoming
  split
  · exact h.unreference.endHoming
  · exact h

theorem enterPhase {x : Homing} {p : HomingPhase} (h : Core.Sound w z s) (hx : w.Known z x.entry) :
    Core.Sound w z (s.enterPhase x p) := by
  refine h.setMotion .inl fun e he => .inr ?_
  obtain rfl := Option.some.inj he
  exact hx

theorem phaseDone {x : Homing} (h : Core.Sound w z s) (hx : w.Known z x.entry) : Core.Sound w z (s.phaseDone x) := by
  unfold Core.phaseDone
  split
  · extract_lets _ s1 s2 _ s3
    have hup : Core.Sound w z s1 := .setPlaten (h.keep rfl)
    have htold : Core.Sound w z s2 := hup.tellRaise
    have hreturning : Core.Sound w z s3 := .restArm (htold.keep rfl) rfl
    exact hreturning.enterPhase hx
  · extract_lets _ s1 _ s2
    have hparked : Core.Sound w z s1 := .restArm (h.keep rfl) rfl
    have hmoving : Core.Sound w z s2 := .setAngle (hparked.keep rfl)
    exact hmoving.enterPhase hx
  · exact h.enterPhase hx
  · exact .takeHeld (.post (.enterPhase (.setAngle (h.keep rfl)) hx) nofun)
  · exact h

theorem phaseFailed {x : Homing} (h : Core.Sound w z s) : Core.Sound w z (s.phaseFailed x) := by
  have hmarked : Core.Sound w z { s with motion := s.motion.markFailed x.phase } := by
    unfold Motion.markFailed
    split
    all_goals exact h.keep rfl
  exact hmarked.unreference.raiseFault.endHoming.takeHeld

theorem homingRefResult {r : Result} (h : Core.Sound w z s) : Core.Sound w z (s.homingRefResult r) := by
  unfold Core.homingRefResult
  (repeat' split)
  · exact h.endHoming
  · exact .endHoming (h.keep rfl)
  · exact h
  · exact h

/-! ### The curtain -/

theorem motionBreak (h : Core.Sound w z s) : Core.Sound w z s.motionBreak := by
  unfold Core.motionBreak
  extract_lets s1 _ s2 s3 s4
  have hpuff : Core.Sound w z s2 := h.breakHoming.keep rfl
  have hplaten : Core.Sound w z s3 := by
    unfold s3
    split
    · exact hpuff.dropForce.setPlaten
    · exact hpuff
  have hangle : Core.Sound w z s4 := by
    unfold s4
    split
    · exact hplaten.angleStopped.setAngle
    · exact hplaten
  clear_value s4
  split
  next m harm =>
    have hstopped : Core.Sound w z (s4.dropGauge.setArm (.stopped m .curtain) s4.motion.stage) :=
      hangle.dropGauge.setArm fun ha _ => .inl (by simpa [harm, ArmState.carrying] using ha)
    dsimp only
    split
    next hsweep => exact (hstopped.vacuumLoss (by simp [hsweep.1, ArmState.carrying])).takeHeld
    next => exact hstopped.takeHeld
  next => exact hangle.takeHeld

theorem resumePlaten (h : Core.Sound w z s) : Core.Sound w z s.resumePlaten := by
  unfold Core.resumePlaten
  split
  · exact .sampleForce (.setPlaten (h.keep rfl))
  · exact h.setPlaten
  · exact h

section
variable {m : ArmMove} {cause : StopCause} {t : Turn} (h : Core.Sound w z s) (harm : s.motion.arm = .stopped m cause)
include h harm

/-- A stopped arm that moves on carries what it carried. -/
theorem setArm_moving {stage : ArmStage} : Core.Sound w z (s.setArm (.moving m) stage) :=
  h.setArm fun ha _ => .inl (by simpa [harm, ArmState.carrying] using ha)

theorem resumeArm : Core.Sound w z (s.resumeArm m t) := by
  have hmoving := h.setArm_moving harm (stage := s.motion.stage)
  unfold Core.resumeArm
  dsimp only
  (repeat' split)
  · exact hmoving.beginSuck
  · exact hmoving
  · exact hmoving.putDown
  · exact hmoving.post nofun
  · exact hmoving.putDown
  · exact hmoving.keep rfl
  · exact hmoving.post nofun
  · exact hmoving

theorem abortStopped : Core.Sound w z (s.abortStopped m t) := by
  unfold Core.abortStopped
  (repeat' split)
  · exact h.resumeArm harm
  · exact (h.setArm_moving harm).putDown
  · exact h.resumeArm harm

end

theorem motionResume (h : Core.Sound w z s) : Core.Sound w z s.motionResume := by
  unfold Core.motionResume
  extract_lets s1
  have hplaten : Core.Sound w z s1 := by
    unfold s1
    split
    · exact h.resumePlaten
    · exact h
  clear_value s1
  split
  next m t harm _ =>
    split
    · exact hplaten
    · exact hplaten.resumeArm harm
  next t _ _ =>
    split
    · exact hplaten
    · exact hplaten.beginReturn
  next => exact hplaten

theorem recoverArm (h : Core.Sound w z s) : Core.Sound w z s.recoverArm := by
  unfold Core.recoverArm
  split
  next m t harm _ =>
    split
    · exact h.abortStopped harm
    · exact h
  next t _ _ =>
    split
    · exact h.beginReturn
    · exact h
  next => exact h

theorem motionClear (h : Core.Sound w z s) : Core.Sound w z s.motionClear := by
  unfold Core.motionClear
  extract_lets s1 s2
  have hplaten : Core.Sound w z s1 := by
    unfold s1
    split
    · exact h
    · exact h.resumePlaten
  have hangle : Core.Sound w z s2 := by
    unfold s2
    split
    · exact hplaten.setAngle
    · exact hplaten
  exact hangle.recoverArm

/-! ### ABORT -/

theorem abortArm (h : Core.Sound w z s) : Core.Sound w z s.abortArm := by
  unfold Core.abortArm
  split
  next t ht =>
    extract_lets _ s1
    have hmarked : Core.Sound w z s1 := h.setMotion (fun ⟨_, harm⟩ => .inl ⟨by simp [ht], harm⟩) fun _ => .inl
    (repeat' split)
    · exact hmarked
    · exact hmarked.putDown
    · exact hmarked.putDown
    · exact hmarked
    · exact hmarked.recoverArm
    · exact hmarked
  next => exact h

theorem abortPlaten (h : Core.Sound w z s) : Core.Sound w z s.abortPlaten := by
  unfold Core.abortPlaten
  split
  · exact h.beginRaise
  · have hstopped : Core.Sound w z
        ({ s with motion := { s.motion with settle := none } }.setPlaten (.stopped .raising)) :=
      .setPlaten (h.keep rfl)
    dsimp only
    split
    · exact hstopped
    · exact hstopped.resumePlaten
  · exact h

theorem motionAbort (h : Core.Sound w z s) : Core.Sound w z s.motionAbort :=
  .abortPlaten (.abortArm (h.breakHoming.keep rfl))

end Core.Sound

end Sys2Proof.Machine
end

section
/-! PROOF. The rules for the capture attempt, the results of the converter, the step sequencer and the resets (O4, O7),
in the order of the definitions. -/

namespace Sys2Proof.Machine

theorem Capture.load_le (c : Capture) : c.load ≤ c.ring.length + 1 := by
  unfold Capture.load Capture.reserved
  split
  · split <;> omega
  · omega

theorem Capture.hasRoom_iff {c : Capture} : c.hasRoom = true ↔ c.load < 64 := decide_eq_true_iff

/-- A ring with room for one more record has room for the reservation of an attempt (R117). -/
theorem Capture.ring_lt {c : Capture} (h : c.hasRoom = true) : c.ring.length < 64 :=
  Nat.lt_of_le_of_lt (Nat.le_add_right _ _) (Capture.hasRoom_iff.mp h)

theorem Core.writeRecord_load (r : Record) (s : Core) : (s.writeRecord r).cap.load = s.cap.load + 1 := by
  have hcap : (s.writeRecord r).cap = { s.cap with ring := s.cap.ring ++ [r] } := by
    unfold Core.writeRecord
    dsimp only
    (repeat' split) <;> rfl
  rw [hcap]
  simp only [Capture.load, Capture.reserved, List.length_append, List.length_singleton]
  omega

theorem Core.fixAttempt_phase (a : Attempt) (s : Core) : (s.fixAttempt a).phase = a.phase := by
  unfold Core.fixAttempt
  split <;> rfl

namespace Core.Sound
variable {w : Watch} {z s : Core}

/-! ### Taking an attempt -/

/-- A place lent is given back when the ring is within its capacity. -/
theorem unlend (h : Core.Sound { w with lent := w.lent + 1 } z s) (hload : s.cap.load ≤ 64) : Core.Sound w z s := by
  refine ⟨h.now, fun hz => ?_, h.holds⟩
  have hs := h.within hz
  exact ⟨Nat.le_trans hload (Nat.le_add_right _ _), hs.seq, hs.exceptions, hs.segments, hs.cursors, hs.carried⟩

theorem setAttempt {a b : Attempt} (h : Core.Sound w z s) (ha : s.cap.attempt = some a)
    (hphase : a.phase = .ringWait → b.phase = .ringWait) : Core.Sound w z (s.setAttempt b) :=
  h.setAttemptOf ha rfl rfl hphase

/-- An attempt takes its place in a ring that has room. -/
theorem takePlace {a : Attempt} (h : Core.Sound w z s) (hroom : s.cap.hasRoom = true) :
    Core.Sound w z (s.setAttempt a) := by
  refine ⟨h.now, fun hz => ?_, h.holds⟩
  have hs := h.within hz
  have hload := Capture.load_le (s.setAttempt a).cap
  have hring := Capture.ring_lt hroom
  refine ⟨?_, hs.seq, hs.exceptions, hs.segments, hs.cursors, hs.carried⟩
  dsimp only [Core.setAttempt] at hload ⊢
  omega

theorem gainPlace {a : Attempt} (h : Core.Sound w z s) (hroom : s.cap.hasRoom = true) :
    Core.Sound w z (s.gainPlace a) := by
  unfold Core.gainPlace
  dsimp only
  split
  · exact (h.takePlace hroom).withView
  · exact (h.takePlace hroom).withView.askLowering

theorem askAttempt {ask : SideAsked} (h : Core.Sound w z s) : Core.Sound w z (s.askAttempt ask) := by
  unfold Core.askAttempt
  dsimp only
  (repeat' split)
  · exact h.signal
  · exact h.signal
  next hroom => exact h.gainPlace hroom
  · refine h.setCap ?_
    have hphase : (s.fixAttempt (newAttempt ask)).phase = .ringWait := Core.fixAttempt_phase (newAttempt ask) s
    simp only [Capture.load, Capture.reserved, hphase, if_true]
    exact Nat.le_add_right _ _

/-! ### Preparing -/

section
variable {a b : Attempt} (h : Core.Sound w z s) (ha : s.cap.attempt = some a) (hphase : a.phase ≠ .ringWait)
include h

theorem awaitCameras : Core.Sound w z (s.awaitCameras b) := h.keep rfl

include ha hphase

theorem enterAdmission : Core.Sound w z (s.enterAdmission b) := (h.setAttempt ha fun hw => absurd hw hphase).askFlash

theorem startCameraWait : Core.Sound w z (s.startCameraWait b) := by
  have hawait : Core.Sound w z (s.awaitCameras b) := h.awaitCameras
  have ha' : (s.awaitCameras b).cap.attempt = some a := ha
  unfold Core.startCameraWait
  dsimp only
  split
  · exact hawait.enterAdmission ha' hphase
  · exact hawait.setAttempt ha' fun hw => absurd hw hphase

end

theorem attemptPlatenDown (h : Core.Sound w z s) : Core.Sound w z s.attemptPlatenDown := by
  unfold Core.attemptPlatenDown
  split
  next a ha =>
    split
    next hready =>
      split
      · exact h.awaitCameras.setAttempt ha id
      · exact h.startCameraWait ha (by simp [hready.1])
    next => exact h
  next => exact h

theorem attemptPlatenFailed {r : PlatenReason} (h : Core.Sound w z s) : Core.Sound w z (s.attemptPlatenFailed r) := by
  unfold Core.attemptPlatenFailed
  (repeat' split)
  · exact h.endUnlitWith
  all_goals exact h

theorem attemptRefused {r : FlashRefusal} (h : Core.Sound w z s) : Core.Sound w z (s.attemptRefused r) := by
  unfold Core.attemptRefused
  dsimp only
  (repeat' split)
  · exact h.appendMounted.endUnlitWith
  · exact h.appendMounted.endUnlitWith
  · exact h.endUnlitWith
  all_goals exact h

/-! ### Marks -/

theorem writeMark {note : Nat} (h : Core.Sound w z s) (hroom : s.cap.hasRoom = true) :
    Core.Sound w z (s.writeMark note) := by
  have hgone : Core.Sound w z { s with cap := { s.cap with nextSeq := s.cap.nextSeq + 1, mark := none } } := h.keep rfl
  refine .signal (hgone.writeRecord.unlend ?_)
  rw [Core.writeRecord_load]
  exact Capture.hasRoom_iff.mp hroom

theorem askMark {note : Nat} (h : Core.Sound w z s) : Core.Sound w z (s.askMark note) := by
  unfold Core.askMark
  (repeat' split)
  · exact h.signal
  next hroom => exact h.writeMark hroom
  · exact h.keep rfl

theorem takeRoom (h : Core.Sound w z s) : Core.Sound w z s.takeRoom := by
  unfold Core.takeRoom
  split
  next hroom =>
    (repeat' split)
    · exact h.gainPlace hroom
    · exact h
    · exact h.writeMark hroom
    · exact h
  next => exact h

/-! ### The curtain, resumption and ABORT -/

theorem captureBreak (h : Core.Sound w z s) : Core.Sound w z s.captureBreak := by
  unfold Core.captureBreak
  split
  next a ha =>
    split
    · exact h.setAttempt ha id
    · exact h
  next => exact h

theorem liftMark (h : Core.Sound w z s) : Core.Sound w z s.liftMark := by
  unfold Core.liftMark
  split
  next a ha =>
    extract_lets a1 s1
    have hlifted : Core.Sound w z s1 := h.setAttempt ha id
    have ha1 : s1.cap.attempt = some a1 := rfl
    split
    · exact .askLowering (hlifted.setAttempt ha1 id)
    next hphase _ =>
      split
      · exact hlifted.startCameraWait ha1 (by simp [hphase])
      · exact hlifted.setAttempt ha1 id
    · exact hlifted.giveLeave
    · exact hlifted
  next => exact h

theorem markAborting (h : Core.Sound w z s) : Core.Sound w z s.markAborting := by
  unfold Core.markAborting
  split
  next a ha =>
    split
    · exact h
    · exact h.setAttempt ha id
  next => exact h

theorem captureAbort (h : Core.Sound w z s) : Core.Sound w z s.captureAbort := by
  unfold Core.captureAbort
  (repeat' split)
  · exact h.endUnlit
  · exact h.markAborting.tryFinish
  · exact h.keep rfl

/-! ### Results of the converter -/

theorem handTo {ch : Channel} {r : Result} {who : Requester} (h : Core.Sound w z s) :
    Core.Sound w z (s.handTo ch r who) := by
  unfold Core.handTo
  (repeat' split)
  · exact h
  · exact h.useReading
  · exact h
  · exact h
  · exact h.reply
  · exact h.gaugeResult
  · exact h.openRefResult
  · exact h.homingRefResult
  · exact h.forceResult
  · exact h.handWindow

theorem handEach {ch : Channel} {r : Result} (rs : List Requester) (h : Core.Sound w z s) :
    Core.Sound w z (rs.foldl (fun s who => s.handTo ch r who) s) := by
  induction rs generalizing s with
  | nil => exact h
  | cons who rs ih => exact ih h.handTo

theorem handT {r : Result} (h : Core.Sound w z s) : Core.Sound w z (s.handT r) := by
  unfold Core.handT
  dsimp only
  split
  · exact h.thermalTest.tell
  · exact h.thermalTest

theorem handAll {c : Conversion} {r : Result} (h : Core.Sound w z s) : Core.Sound w z (s.handAll c r) := by
  unfold Core.handAll
  dsimp only
  split
  · exact (h.handT.handEach _).grantNext
  · exact (h.handEach _).grantNext

theorem latchResult {ch : Channel} {r : Result} (h : Core.Sound w z s) : Core.Sound w z (s.latchResult ch r) :=
  .judgeFaults (h.setWaiting nofun fun _ _ => h.pending_known)

theorem deliver {c : Conversion} {raw : Int} (h : Core.Sound w z s) : Core.Sound w z (s.deliver c raw) :=
  h.latchResult.handAll

theorem declareFault {c : Conversion} (h : Core.Sound w z s) : Core.Sound w z (s.declareFault c) :=
  h.latchResult.raiseFault.handAll

/-! ### The head step -/

theorem setSeq {st : SeqState} (h : Core.Sound w z s) (hst : st = .idle → s.seq.queue = []) :
    Core.Sound w z (s.setSeq st) := h.setSequencer fun ⟨hlength, _⟩ => ⟨hlength, hst⟩

theorem setOp {op : Option Operation} (h : Core.Sound w z s) : Core.Sound w z (s.setOp op) := h.keep rfl

theorem setAwaiting {k : Option Awaited} (h : Core.Sound w z s) : Core.Sound w z (s.setAwaiting k) := h.keep rfl

theorem setCycle {c : CycleProgress} (h : Core.Sound w z s) : Core.Sound w z (s.setCycle c) := h.keep rfl

theorem setHeadWork {x : StepWork} (h : Core.Sound w z s) : Core.Sound w z (s.setHeadWork x) := by
  unfold Core.setHeadWork
  split
  next st rest hq =>
    refine h.setSequencer fun ⟨hlength, hidle⟩ => ⟨?_, fun hstate => ?_⟩
    · rw [hq] at hlength
      exact hlength
    · simpa [hq] using hidle hstate
  next => exact h

theorem reportStep {st : Step} {result : StepResult} {reason : Option StepReason} {extra : StepExtra}
    (h : Core.Sound w z s) : Core.Sound w z (s.reportStep st result reason extra) := h.report

/-- The head step leaves the queue. -/
theorem dropHead {st : Step} {rest : List Step} (h : Core.Sound w z s) (hq : s.seq.queue = st :: rest) :
    Core.Sound w z { s with seq := { s.seq with queue := rest }.noProgress } := by
  refine h.setSequencer fun ⟨hlength, hidle⟩ => ⟨?_, fun hstate => ?_⟩
  · rw [hq, List.length_cons] at hlength
    exact Nat.le_of_succ_le hlength
  · have hempty := hidle hstate
    simp [hq] at hempty

theorem endStep {result : StepResult} {reason : Option StepReason} {extra : StepExtra} (h : Core.Sound w z s) :
    Core.Sound w z (s.endStep result reason extra) := by
  unfold Core.endStep
  split
  · exact h
  next st rest hq =>
    extract_lets _ _ s1 _ s2 s3 s4
    have hlatched : Core.Sound w z s1 := by
      unfold s1
      split
      · exact h
      · exact h.keep rfl
    have hhead : s1.seq.queue = st :: rest := by
      unfold s1
      split
      · exact hq
      · exact hq
    have hdone : Core.Sound w z s4 := by
      unfold s4
      split
      · exact (hlatched.dropHead hhead).reportStep.tell
      · exact (hlatched.dropHead hhead).reportStep
    have hrest : s4.seq.queue = rest := by
      unfold s4
      split <;> rfl
    clear_value s4
    (repeat' split)
    · exact hdone.enterHold
    next hnil => exact hdone.setSeq fun _ => hrest.trans hnil
    · exact hdone.signal
    · exact hdone.setHold
    · exact hdone

theorem endPlain {result : StepResult} {reason : StepReason} (h : Core.Sound w z s) :
    Core.Sound w z (s.endPlain result reason) := by
  unfold Core.endPlain
  split
  · exact h.endStep
  · exact h

theorem awaitAssist {k : Awaited} (h : Core.Sound w z s) : Core.Sound w z (s.awaitAssist k) := by
  unfold Core.awaitAssist
  dsimp only
  split
  · exact h.setAwaiting.setHold.reportAssist
  · exact h.setAwaiting.setHold

theorem holdAtStart {r : HoldReason} (h : Core.Sound w z s) : Core.Sound w z (s.holdAtStart r) := by
  unfold Core.holdAtStart
  split
  · exact h.holdInterlock
  · exact h.enterHold

/-! ### Sweeps -/

section
variable {c : CycleProgress} {stop retakes : Nat} (h : Core.Sound w z s)
include h

theorem endCycle {result : StepResult} {reason : StepReason} : Core.Sound w z (s.endCycle result reason c stop) :=
  h.endStep

theorem cycleE : Core.Sound w z (s.cycleE c) := by
  unfold Core.cycleE
  dsimp only
  split
  · exact h.setCycle.holdAtStart
  · exact h.setCycle.setOp.askTurn

theorem cycleD : Core.Sound w z (s.cycleD c stop) := by
  unfold Core.cycleD
  split
  · have hraise : Core.Sound w z (s.setCycle { c with pos := .D }).askRaise.1 := h.setCycle.askRaise
    dsimp only
    split
    next heq =>
      rw [heq] at hraise
      exact hraise.endCycle
    next heq =>
      rw [heq] at hraise
      exact hraise.awaitAssist
    next heq =>
      rw [heq] at hraise
      exact .awaitAssist (.setOp (hraise.keep rfl))
  · exact h.cycleE

theorem cycleC : Core.Sound w z (s.cycleC c stop) := by
  unfold Core.cycleC
  (repeat' split)
  · exact h.endCycle
  · exact h.endCycle
  · exact h.cycleD

theorem cycleB : Core.Sound w z (s.cycleB c stop) := by
  unfold Core.cycleB
  dsimp only
  (repeat' split)
  · exact h.cycleC
  · exact h.setCycle.holdAtStart
  · exact h.setCycle.setOp.askAttempt

theorem cycleA : Core.Sound w z (s.cycleA c stop) := by
  unfold Core.cycleA
  split
  · exact h.endCycle
  · exact h.cycleB

theorem cycleAct : Core.Sound w z (s.cycleAct c stop retakes) := by
  unfold Core.cycleAct
  split
  · exact h.endCycle
  · dsimp only
    split
    · exact h.setHeadWork.setCycle.cycleA
    · exact h.setHeadWork.setCycle.cycleB
    · exact h.setHeadWork.setCycle.cycleC
    · exact h.setHeadWork.setCycle.cycleD
    · exact h.setHeadWork.setCycle.cycleE

theorem cycleTo : Core.Sound w z (s.cycleTo c) := by
  unfold Core.cycleTo
  dsimp only
  (repeat' split)
  · exact h.setCycle.cycleAct
  · exact h.setCycle.setHold
  · exact h.setCycle
  · exact h

theorem startCycle : Core.Sound w z (s.startCycle stop) := by
  unfold Core.startCycle
  split
  · exact h.endStep
  · exact h.cycleTo

end

/-! ### Starting a step -/

theorem stage {m : Mask} {x : Setting} (h : Core.Sound w z s) : Core.Sound w z (s.stage m x) := .reviseView (h.keep rfl)

theorem beginWork {x : StepWork} (h : Core.Sound w z s) : Core.Sound w z (s.beginWork x) := by
  have hstarted : Core.Sound w z { s with seq := { s.seq with started := true } } := h.keep rfl
  unfold Core.beginWork
  extract_lets _ s1
  split
  · exact hstarted.setOp.askAttempt
  · exact hstarted.setOp.askTurn
  · exact hstarted.startCycle
  · exact hstarted.stage.endStep
  · exact hstarted.keep rfl
  · exact hstarted.setOp.askMark

theorem startHead (h : Core.Sound w z s) : Core.Sound w z s.startHead := by
  unfold Core.startHead
  (repeat' split)
  · exact h.endPlain
  · exact h.endPlain
  · exact h.holdAtStart
  · exact h.beginWork
  · exact h
  · exact h

/-! ### Endings of operations -/

theorem cycleAttempt {e : AttemptEnding} {c : CycleProgress} {stop retakes : Nat} (h : Core.Sound w z s) :
    Core.Sound w z (s.cycleAttempt e c stop retakes) := by
  unfold Core.cycleAttempt
  (repeat' split)
  · exact h.cycleTo
  · exact h.cycleTo
  · exact h.endCycle
  · exact h.cycleTo
  all_goals exact h.endCycle

theorem stepAttempt {e : AttemptEnding} (h : Core.Sound w z s) : Core.Sound w z (s.stepAttempt e) := by
  unfold Core.stepAttempt
  dsimp only
  (repeat' split)
  · exact h.setOp.endStep
  · exact h.setOp.cycleAttempt
  · exact h.setOp
  · exact h

theorem stepMark {seq : Option SeqNo} (h : Core.Sound w z s) : Core.Sound w z (s.stepMark seq) := by
  unfold Core.stepMark
  dsimp only
  (repeat' split)
  · exact h.setOp.endStep
  · exact h.setOp.endPlain
  · exact h

theorem stepTurn {o : TurnOutcome} (h : Core.Sound w z s) : Core.Sound w z (s.stepTurn o) := by
  unfold Core.stepTurn
  dsimp only
  (repeat' split)
  · exact h.setOp.awaitAssist
  · exact h.setOp.endPlain
  · exact h.setOp.cycleTo
  · exact h.setOp.endStep
  · exact h

theorem stepRaised (h : Core.Sound w z s) : Core.Sound w z s.stepRaised := by
  unfold Core.stepRaised
  dsimp only
  (repeat' split)
  · exact h.setOp
  · exact h.setOp.setHold
  · exact h.setOp.setHold
  · exact h

/-! ### Holds and their release -/

theorem takeOn (h : Core.Sound w z s) : Core.Sound w z s.takeOn := by
  unfold Core.takeOn
  dsimp only
  split
  · exact .cycleTo (h.setAwaiting.setSeq nofun)
  · exact .askTurn (.setOp (h.setAwaiting.setSeq nofun))

theorem release (h : Core.Sound w z s) : Core.Sound w z s.release := by
  have hfree : Core.Sound w z { s with seq := { s.seq with interlock := false } } := h.keep rfl
  unfold Core.release
  extract_lets _ s1
  (repeat' split)
  next hempty => exact hfree.setSeq fun _ => hempty
  · exact .signal (hfree.setSeq nofun)
  · exact .runPause (.motionResume (.liftMark (hfree.setSeq nofun)))
  · exact hfree.endPlain
  · exact hfree.takeOn
  · exact .cycleTo (hfree.setSeq nofun)
  · exact hfree.setSeq nofun

theorem confirmTurn (h : Core.Sound w z s) : Core.Sound w z s.confirmTurn := by
  unfold Core.confirmTurn
  split
  · extract_lets s1 s2
    have hconfirmed : Core.Sound w z s2 := by
      unfold s2
      split
      · exact h.setAwaiting.setCycle
      · exact h.setAwaiting.endStep
    clear_value s2
    (repeat' split)
    · exact hconfirmed.release
    · exact hconfirmed
    · exact hconfirmed
  · exact h

theorem halt (h : Core.Sound w z s) : Core.Sound w z s.halt := by
  unfold Core.halt
  (repeat' split)
  · exact h.setHold
  · exact h.setSeq nofun
  · exact h.setHold
  · exact h

theorem seqBreak (h : Core.Sound w z s) : Core.Sound w z s.seqBreak := by
  unfold Core.seqBreak
  split
  · exact h.holdInterlock
  · exact h.holdInterlock
  · exact h

theorem reportCancelled {reason : StepReason} {count : Nat} {steps : List Step} (h : Core.Sound w z s) :
    Core.Sound w z (s.reportCancelled reason count steps) := by
  induction steps generalizing s count with
  | nil => exact h
  | cons st rest ih => exact ih h.reportStep

end Core.Sound

theorem Core.reportCancelled_seq (reason : StepReason) (count : Nat) (steps : List Step) (s : Core) :
    (s.reportCancelled reason count steps).seq = s.seq := by
  induction steps generalizing s count with
  | nil => rfl
  | cons st rest ih => exact ih 0 _

namespace Core.Sound
variable {w : Watch} {z s : Core}

/-- The queue emptied. -/
theorem emptyQueue {q : Sequencer} (h : Core.Sound w z s) (hq : q.queue = []) :
    Core.Sound w z { s with seq := q } := h.setSequencer fun _ => ⟨by simp [hq], fun _ => hq⟩

theorem abort (h : Core.Sound w z s) : Core.Sound w z s.abort := by
  unfold Core.abort
  extract_lets s1 steps count _ s2 s3
  have hcancelled : Core.Sound w z s3 :=
    .reportCancelled (.emptyQueue h.markAborting.motionAbort.illumAbort.captureAbort rfl)
  have hempty : s3.seq.queue = [] := congrArg Sequencer.queue (Core.reportCancelled_seq _ _ _ _)
  split
  · exact hcancelled.setSeq fun _ => hempty
  · exact hcancelled.setHold

/-! ### Answers taken up -/

theorem handle {g : Signal} (h : Core.Sound w z s) : Core.Sound w z (s.handle g) := by
  cases g with
  | startHead => exact h.startHead
  | platenDown => exact h.attemptPlatenDown
  | platenFailed r => exact h.attemptPlatenFailed
  | flashRefused r => exact h.attemptRefused
  | attemptEnded e => exact h.stepAttempt
  | markEnded seq => exact h.stepMark
  | turnEnded o => exact h.stepTurn
  | raiseEnded ok => exact h.stepRaised

theorem settleWithin (n : Nat) (h : Core.Sound w z s) : Core.Sound w z (s.settleWithin n) := by
  induction n generalizing s with
  | zero => exact h
  | succ n ih =>
    unfold Core.settleWithin
    split
    · exact h
    next g rest _ => exact ih (.handle (s := { s with sig := rest }) (h.keep rfl))

theorem settle (h : Core.Sound w z s) : Core.Sound w z s.settle := h.settleWithin 256

/-! ### The station reset -/

theorem keepDose {p : Core × DoseRecord} (h : Core.Sound w z p.1) : Core.Sound w z (Core.keepDose p) := by
  unfold Core.keepDose
  split
  next a ha => exact h.setAttemptOf ha rfl rfl id
  next => exact h

theorem resetClosing (h : Core.Sound w z s) : Core.Sound w z s.resetClosing := by
  unfold Core.resetClosing
  split
  · split
    · exact .keepDose (.chargeWindow (h.loseClosing rfl rfl))
    · exact h.handWindow
  · exact h

theorem resetFlash (h : Core.Sound w z s) : Core.Sound w z s.resetFlash := by
  unfold Core.resetFlash
  split
  · extract_lets t _ off _ dark
    have hoff : Core.Sound w z off := h.loseFlash rfl rfl
    have hdark : Core.Sound w z dark := hoff.keep rfl
    split
    · exact hdark.chargeAborted.keepDose
    · exact hdark.tellFlash.reply
    · exact hoff.reply
    · exact hoff
  · exact h

theorem resetIllum (h : Core.Sound w z s) : Core.Sound w z s.resetIllum := by
  have hview : Core.Sound w z
      (s.resetClosing.resetFlash.withView fun v => { v with wanted := false, suppressed := false }) :=
    h.resetClosing.resetFlash.withView
  exact hview.keep rfl

theorem resetCapture (h : Core.Sound w z s) : Core.Sound w z s.resetCapture := by
  unfold Core.resetCapture
  dsimp only
  split
  next a ha =>
    split
    next dose hlit _ =>
      refine (h.recordAttempt (a := a) (o := .aborted) (dose := dose)).giveBack ?_
      have hattempt : (s.recordAttempt a .aborted dose).cap.attempt = some a :=
        (Core.recordAttempt_attempt _ _ _ _).trans ha
      refine Nat.le_of_eq (Capture.toIdle_load hattempt fun hwait => ?_)
      rw [hwait] at hlit
      exact absurd hlit (by decide)
    next => exact h.setCap (Capture.toIdle_load_le s.cap)
  next => exact h.setCap (Capture.toIdle_load_le s.cap)

theorem resetMotion (h : Core.Sound w z s) : Core.Sound w z s.resetMotion := by
  unfold Core.resetMotion
  dsimp only
  split
  · exact h.breakHoming.angleStopped.setMotion (by simp [Motion.Carries]) (by simp [Motion.Holds])
  · exact h.breakHoming.setMotion (by simp [Motion.Carries]) (by simp [Motion.Holds])

theorem dropMeasures (rs : List Requester) (h : Core.Sound w z s) : Core.Sound w z (rs.foldl Core.dropMeasure s) := by
  induction rs generalizing s with
  | nil => exact h
  | cons r rs ih =>
    refine ih ?_
    unfold Core.dropMeasure
    split
    · exact h.reply
    · exact h

theorem resetMeasure (h : Core.Sound w z s) : Core.Sound w z s.resetMeasure := by
  unfold Core.resetMeasure
  extract_lets s1 _ s2
  have hfree : Core.Sound w z s2 := by
    refine (h.dropMeasures _).setWaiting nofun fun ch x hx => ?_
    cases ch <;> exact absurd hx nofun
  clear_value s2
  split
  · exact .post (hfree.keep rfl) nofun
  · exact hfree

theorem resetSequencer (h : Core.Sound w z s) : Core.Sound w z s.resetSequencer :=
  h.requeue (fun _ => ⟨Nat.zero_le _, fun _ => rfl⟩) rfl

theorem stationReset (h : Core.Sound w z s) : Core.Sound w z s.stationReset := by
  have hfaults : Core.Sound w z { s with faults := [], first := none } := h.keep rfl
  exact hfaults.resetIllum.resetCapture.resetMotion.resetMeasure.resetSequencer

end Core.Sound

end Sys2Proof.Machine
end

section
/-! PROOF. The rules for the commands of the volume table, of the light and of the measurement unit (O4, O7), in the
order of the definitions. -/

namespace Sys2Proof.Machine

/-! ### Records and the quiet station -/

theorem Core.record_eq_some {s : Core} {slot : Nat} {i : Fin 16} {v : Volume} (h : s.record slot = some (i, v)) :
    s.vols.slots[i] = some v := by
  unfold Core.record at h
  split at h
  · obtain ⟨u, hu, hpair⟩ := Option.map_eq_some_iff.mp h
    obtain ⟨rfl, rfl⟩ := Prod.mk.inj hpair
    exact hu
  · exact absurd h nofun

/-- A quiet station has its arm at PARK, so no turn is on its way (R8, R140). -/
theorem Core.unquiet_eq_none {s : Core} (h : s.unquiet = none) : ¬ s.motion.Carries := by
  have hquiet : s.quiet = true := by
    by_contra hbusy
    rw [s.unquiet_of_not_quiet (by simpa using hbusy)] at h
    exact absurd h nofun
  have harm : s.motion.arm = .parked := by
    simp only [Core.quiet, Core.working, Bool.and_eq_true, Bool.not_eq_true', Bool.or_eq_false_iff, bne_eq_false_iff_eq]
      at hquiet
    obtain ⟨⟨⟨⟨-, harm⟩, -⟩, -⟩, -⟩ := hquiet
    exact harm
  simp [Motion.Carries, harm, ArmState.carrying]

theorem Core.unquiet_of_mounted {s : Core} {i : Fin 16} (h : s.unquietFor i = none) (hm : s.isMounted i = true) :
    ¬ s.motion.Carries := Core.unquiet_eq_none ((if_pos hm).symm.trans h)

/-- A list of segments that VOLUME_SET gives a record fits the pool, and a mounted record keeps its own (R17). -/
theorem Core.setSegs_ok {s : Core} {i : Fin 16} {v : Volume} {m : Mask} {segs : List SegmentSpec} {gs : List Segment}
    (h : s.setSegs i v m segs = .ok gs) :
    (hasField m 5 = false ∧ gs = v.segs)
      ∨ (hasField m 5 = true ∧ s.isMounted i = false ∧ gs.length ≤ s.freeSegments + v.segs.length) := by
  unfold Core.setSegs at h
  split at h
  next hfield =>
    split at h
    · exact absurd h nofun
    next gs' _ =>
      split at h
      · exact absurd h nofun
      next hfree =>
        split at h
        · exact absurd h nofun
        next hroom =>
          obtain rfl := Except.ok.inj h
          refine .inr ⟨hfield, ?_, Nat.le_of_not_lt hroom⟩
          simp only [Bool.or_eq_true, not_or, Bool.not_eq_true] at hfree
          obtain ⟨⟨hnot, -⟩, -⟩ := hfree
          exact hnot
  next hfield => exact .inl ⟨by simpa using hfield, (Except.ok.inj h).symm⟩

/-- The budget flags alone change (R50). -/
theorem Volume.relax_keeps (v : Volume) :
    v.relax.segs = v.segs ∧ v.relax.cursor = v.cursor ∧ v.relax.exceptions = v.exceptions := by
  unfold Volume.relax
  split <;> exact ⟨rfl, rfl, rfl⟩

namespace Core.Sound
variable {w : Watch} {z s : Core} {id : Nat}

/-! ### The volume table -/

theorem classSet {cls : Nat} {m : Mask} {x : ClassFields} (h : Core.Sound w z s) :
    Core.Sound w z (s.classSet id cls m x) := by
  unfold Core.classSet
  dsimp only
  (repeat' split)
  · exact h.reply
  · exact h.reply
  · exact .reply (h.keep rfl)
  · exact h.reply

/-- A record as VOLUME_ADD makes it put into a free slot, when the pool has its segments (R10). -/
theorem addRecord {i : Fin 16} {inst : InstNo} {shelf : List Byte} {cls : Fin 8} {budget p : Nat} {gs : List Segment}
    (h : Core.Sound w z s) (hempty : s.vols.slots[i] = none) (hroom : ¬ s.freeSegments < gs.length) :
    Core.Sound w z ({ s with vols := { s.vols with instCount := inst } }.setSlot i
      (some (newVolume inst shelf cls budget p gs))) := by
  have hcount : Core.Sound w z { s with vols := { s.vols with instCount := inst } } := h.keep rfl
  refine hcount.setSlot (fun hs => ?_) (fun hs => ?_) (fun _ v hv => ?_) fun _ _ _ v hv => ?_
  · exact Nat.le_trans hs (Nat.le_add_right _ _)
  · rw [Core.freeSegments_eq] at hroom
    change s.segmentTotal ≤ 256 at hs
    change s.segmentTotal + gs.length ≤ 256 + slotSegments s.vols.slots[i]
    omega
  · obtain rfl := Option.some.inj hv
    exact Nat.zero_le _
  · exact absurd (hempty.symm.trans hv) nofun

theorem volumeAdd {shelf : List Byte} {cls budget : Nat} {m : Mask} {p : Nat} {segs : List SegmentSpec}
    (h : Core.Sound w z s) : Core.Sound w z (s.volumeAdd id shelf cls budget m p segs) := by
  unfold Core.volumeAdd
  split
  · exact h.reply
  · split
    · split
      · exact h.reply
      · exact h.reply
      next gs _ _ =>
        split
        · exact h.reply
        · split
          · exact h.reply
          · split
            · exact h.reply
            next i hfree =>
              split
              · exact h.reply
              next hroom => exact (h.addRecord (by simpa using List.find?_some hfree) hroom).reply
    · exact h.reply

/-- Another volume mounted, or none, with no turn on its way. -/
theorem setMounted {x : Option (Fin 16)} (h : Core.Sound w z s) (hidle : ¬ s.motion.Carries) :
    Core.Sound w z { s with vols := { s.vols with mounted := x } } := by
  refine ⟨h.now, fun hz => ?_, h.holds⟩
  have hs := h.within hz
  exact ⟨hs.ring, hs.seq, hs.exceptions, hs.segments, hs.cursors, fun _ hcarries => absurd hcarries hidle⟩

theorem mount {i : Fin 16} {k : Nat} {v : Volume} (h : Core.Sound w z s) (hv : s.vols.slots[i] = some v)
    (hk : v.cursor ≤ v.leaves → k ≤ v.leaves) (hidle : ¬ s.motion.Carries) : Core.Sound w z (s.mount i k) := by
  have hcursor : Core.Sound w z (s.editSlot i fun v => { v with cursor := k }) := by
    rw [s.editSlot_of i v _ hv]
    refine h.setSlot (fun hs => ?_) (fun hs => ?_) (fun hs v' hv' => ?_) fun _ hcarries => absurd hcarries hidle
    · simpa [slotExceptions, hv] using hs
    · simpa [slotSegments, hv] using hs
    · obtain rfl := Option.some.inj hv'
      exact hk (hs v hv)
  have hmounted := hcursor.setMounted (x := some i) (by simpa using hidle)
  exact .thermalAtMount (hmounted.keep rfl)

theorem volumeMount {slot : Nat} {m : Mask} {start angle : Nat} (h : Core.Sound w z s) :
    Core.Sound w z (s.volumeMount id slot m start angle) := by
  unfold Core.volumeMount
  split
  · exact h.reply
  · exact h.reply
  next i v hrecord _ =>
    split
    · exact h.reply
    · split
      · exact h.reply
      next hquiet =>
        split
        · exact h.reply
        · split
          · exact h.reply
          · refine .reply (.mountAngle (h.mount (Core.record_eq_some hrecord) (fun hle => ?_)
              (Core.unquiet_eq_none hquiet)))
            unfold pick
            split
            · exact Nat.min_le_right _ _
            · exact hle

theorem endMounting (h : Core.Sound w z s) (hidle : ¬ s.motion.Carries) : Core.Sound w z s.endMounting := by
  have hoff := (h.withView (f := fun v => { v with wanted := false })).setMounted (x := none) (by simpa using hidle)
  exact hoff.keep rfl

theorem volumeUnmount {slot : Nat} (h : Core.Sound w z s) : Core.Sound w z (s.volumeUnmount id slot) := by
  unfold Core.volumeUnmount
  (repeat' split)
  · exact h.reply
  · exact h.reply
  next hquiet => exact (h.endMounting (Core.unquiet_eq_none hquiet)).reply
  · exact h.reply

theorem leaveFor {i : Fin 16} {st : RecordState} (h : Core.Sound w z s)
    (hidle : s.isMounted i = true → ¬ s.motion.Carries) : Core.Sound w z (s.leaveFor i st) := by
  unfold Core.leaveFor
  dsimp only
  split
  next hm => exact (h.endMounting (hidle hm)).editSlot (.of_eq fun _ => rfl)
  next => exact h.editSlot (.of_eq fun _ => rfl)

theorem volumeClose {slot : Nat} {force : Bool} (h : Core.Sound w z s) :
    Core.Sound w z (s.volumeClose id slot force) := by
  unfold Core.volumeClose
  split
  · exact h.reply
  next i v _ =>
    split
    · exact h.reply
    · split
      · exact h.reply
      next hquiet =>
        dsimp only
        split
        · exact (h.leaveFor (Core.unquiet_of_mounted hquiet)).reply
        · split
          · exact h.reply
          · split
            · exact h.reply
            · refine (h.appendException.leaveFor fun hm => ?_).reply
              simpa using Core.unquiet_of_mounted hquiet (by simpa [Core.isMounted] using hm)

theorem volumeWithdraw {slot : Nat} (h : Core.Sound w z s) : Core.Sound w z (s.volumeWithdraw id slot) := by
  unfold Core.volumeWithdraw
  (repeat' split)
  · exact h.reply
  · exact h.reply
  · exact h.reply
  next hquiet => exact (h.leaveFor (Core.unquiet_of_mounted hquiet)).reply

theorem volumeRemove {slot : Nat} (h : Core.Sound w z s) : Core.Sound w z (s.volumeRemove id slot) := by
  unfold Core.volumeRemove
  split
  · exact h.reply
  next i v _ =>
    split
    · exact h.reply
    next hm =>
      refine .reply (h.setSlot (fun hs => ?_) (fun hs => ?_) nofun fun _ _ hmounted => ?_)
      · exact Nat.le_trans hs (Nat.le_add_right _ _)
      · exact Nat.le_trans hs (Nat.le_add_right _ _)
      · exact absurd ((s.isMounted_iff i).mpr hmounted) hm

theorem volumeSet {slot : Nat} {m : Mask} {budget p cls : Nat} {segs : List SegmentSpec} (h : Core.Sound w z s) :
    Core.Sound w z (s.volumeSet id slot m budget p cls segs) := by
  unfold Core.volumeSet
  split
  · exact h.reply
  next i v hrecord =>
    have hv := Core.record_eq_some hrecord
    split
    · exact h.reply
    · exact h.reply
    · exact h.reply
    next c gs _ hsegs _ =>
      extract_lets b v' clamped s1
      have hset : Core.Sound w z s1 := by
        refine .reply (h.setSlot (fun hs => ?_) (fun hs => ?_) (fun hs x hx => ?_) fun _ _ hm x hx hlt => ?_)
        · simpa [slotExceptions, hv, v'] using hs
        · have hfree := Core.freeSegments_eq s
          simp only [slotSegments, hv, v']
          obtain ⟨-, rfl⟩ | ⟨-, -, hroom⟩ := Core.setSegs_ok hsegs
          · omega
          · omega
        · obtain rfl := Option.some.inj hx
          simp only [v', Volume.leaves]
          obtain ⟨hfield, rfl⟩ | ⟨hfield, -, -⟩ := Core.setSegs_ok hsegs
          · rw [if_neg (by simp [hfield])]
            exact hs v hv
          · rw [if_pos hfield]
            exact Nat.min_le_right _ _
        · obtain rfl := Option.some.inj (hv.symm.trans hx)
          obtain ⟨hfield, rfl⟩ | ⟨-, hnot, -⟩ := Core.setSegs_ok hsegs
          · refine ⟨v', rfl, ?_⟩
            simp only [v', Volume.leaves]
            rw [if_neg (by simp [hfield])]
            exact hlt
          · simp [(s.isMounted_iff i).mpr hm] at hnot
      split
      · exact .checks (hset.editSlot (.of_eq fun v => by simp [Volume.relax_keeps]))
      · exact hset

theorem volumeGet {slot : Nat} {m : Mask} {start : Nat} (h : Core.Sound w z s) :
    Core.Sound w z (s.volumeGet id slot m start) := by
  unfold Core.volumeGet
  split
  · exact h.reply
  · exact h.reply
  · exact h.reply

theorem revisit {k : Nat} (h : Core.Sound w z s) (hk : z.WithinCapacities → ∀ v, s.volume = some v → k ≤ v.leaves)
    (hidle : ¬ s.motion.Carries) : Core.Sound w z (s.revisit k) := by
  refine h.appendMounted.moveCursor (fun hz v hv => ?_) fun _ => by simpa using hidle
  obtain ⟨u, hu, hleaves, -⟩ := (s.appendMounted_ledger none .cursorMoved k s.cursor).volume_of (fun hg => hg.toKept)
    (by simp) hv
  rw [hleaves]
  exact hk hz u hu

theorem cursorSet {opening : Nat} (h : Core.Sound w z s) : Core.Sound w z (s.cursorSet id opening) := by
  unfold Core.cursorSet
  split
  · exact h.reply
  next v hv =>
    split
    · exact h.reply
    next hquiet =>
      dsimp only
      split
      · exact h.reply
      · refine h.reply.revisit (fun _ u hu => ?_) (Core.unquiet_eq_none hquiet)
        obtain rfl := Option.some.inj (hv.symm.trans hu)
        exact Nat.min_le_right _ _

theorem exceptionsTake {slot n : Nat} (h : Core.Sound w z s) : Core.Sound w z (s.exceptionsTake id slot n) := by
  unfold Core.exceptionsTake
  (repeat' split)
  · exact h.reply
  · exact .reply (h.editSlot ⟨fun _ => rfl, fun _ => rfl, fun v => by simp⟩)
  · exact h.reply

/-! ### Light -/

theorem lightStage {m : Mask} {x : Setting} (h : Core.Sound w z s) : Core.Sound w z (s.lightStage id m x) := by
  unfold Core.lightStage
  split
  · exact h.reply
  · exact h.stage.reply

theorem limitsSet {eOp : Nat} (h : Core.Sound w z s) : Core.Sound w z (s.limitsSet id eOp) :=
  .reply (.reviseView (h.keep rfl))

theorem lampsCalibrate {m : Mask} {x : LampCal} (h : Core.Sound w z s) : Core.Sound w z (s.lampsCalibrate id m x) := by
  unfold Core.lampsCalibrate
  dsimp only
  split
  · exact h.reply
  · exact h.reply
  · exact .reply (.reviseView (h.keep rfl))

theorem calibrationFlash (hid : w.Known z id) (h : Core.Sound w z s) : Core.Sound w z (s.calibrationFlash id) := by
  have hown : w.Owns z (newFlash (.calibration id) s.now) := fun e he => FlashBy.calibration.inj he ▸ hid
  unfold Core.calibrationFlash
  (repeat' split)
  · exact h.reply
  · exact h.reply
  · exact h.reply
  · exact h.reply
  · exact h.meetHold hown
  · exact h.enterAdmitting hown

theorem viewOn (h : Core.Sound w z s) : Core.Sound w z (s.viewOn id) := by
  unfold Core.viewOn
  (repeat' split)
  · exact h.reply
  · exact h.reply
  · exact h.reply
  · exact h.withView.reply

theorem viewOff (h : Core.Sound w z s) : Core.Sound w z (s.viewOff id) := h.withView.reply

theorem lampOffEvent {x : Option Int} (h : Core.Sound w z s) : Core.Sound w z (s.lampOffEvent x) := by
  unfold Core.lampOffEvent
  split
  next f _ hf =>
    have hoff : Core.Sound w z (s.lampsOff f) := h.lampsOff (h.flash_owned hf)
    dsimp only
    (repeat' split)
    · exact hoff.deliver
    · exact hoff
    · exact hoff
    · exact h
    · exact h
  next => exact h

theorem recoveryOver (h : Core.Sound w z s) : Core.Sound w z s.recoveryOver := by
  unfold Core.recoveryOver
  (repeat' split)
  · exact h.keep rfl
  · exact h.advance
  · exact h
  · exact h

theorem thermalWaitOver (h : Core.Sound w z s) : Core.Sound w z s.thermalWaitOver := by
  unfold Core.thermalWaitOver
  (repeat' split)
  · exact h.refuseFlash
  all_goals exact h

theorem periodOver (h : Core.Sound w z s) : Core.Sound w z s.periodOver := by
  unfold Core.periodOver
  (repeat' split)
  · exact h.fullPeriod
  · exact h
  · exact h

/-! ### The measurement unit -/

theorem startTimer {was : Option CalPair} {ch : Channel} (h : Core.Sound w z s) :
    Core.Sound w z (s.startTimer was ch) := by
  unfold Core.startTimer
  split
  · exact .post (h.keep rfl) nofun
  · exact h

theorem calibrate {channel : Nat} {m : Mask} {x : CalPair} (h : Core.Sound w z s) :
    Core.Sound w z (s.calibrate id channel m x) := by
  unfold Core.calibrate
  dsimp only
  split
  · exact h.reply
  · split
    · exact h.reply
    · exact h.reply
    · exact .startTimer (.reply (h.keep rfl))

theorem measureChannel {channel : Nat} (hid : w.Known z id) (h : Core.Sound w z s) :
    Core.Sound w z (s.measureChannel id channel) := by
  unfold Core.measureChannel
  (repeat' split)
  · exact h.reply
  · exact h.reply
  · exact h.post fun e he => Requester.measure.inj he ▸ hid

theorem spotArrives {code : Int} (h : Core.Sound w z s) : Core.Sound w z (s.spotArrives code) := by
  unfold Core.spotArrives
  (repeat' split)
  · exact h.deliver
  · exact h
  · exact h

theorem conversionPasses (h : Core.Sound w z s) : Core.Sound w z s.conversionPasses := by
  unfold Core.conversionPasses
  (repeat' split)
  · exact h.declareFault
  · exact h
  · exact h

theorem tempTick (h : Core.Sound w z s) : Core.Sound w z s.tempTick := by
  unfold Core.tempTick
  (repeat' split)
  · exact .post (h.keep rfl) nofun
  · exact h
  · exact h

end Core.Sound

end Sys2Proof.Machine
end

section
/-! PROOF. The rules for the commands of the cradle, of the capture control unit, of the step sequencer, of the panel
and of the counters (O4, O7), in the order of the definitions. -/

namespace Sys2Proof.Machine

namespace Core.Sound
variable {w : Watch} {z s : Core} {id : Nat}

/-! ### The cradle -/

theorem home (hid : w.Known z id) (h : Core.Sound w z s) : Core.Sound w z (s.home id) := by
  unfold Core.home
  (repeat' split)
  · exact h.reply
  · exact h.reply
  · exact h.reply
  · exact h.reply
  · exact .setPlaten (h.enterPhase hid)

theorem angleSet {degrees : Nat} (h : Core.Sound w z s) : Core.Sound w z (s.angleSet id degrees) := by
  unfold Core.angleSet
  dsimp only
  (repeat' split)
  · exact h.reply
  · exact h.reply
  · exact h.reply
  · exact h.reply.moveAngle

theorem homingStep (h : Core.Sound w z s) : Core.Sound w z s.homingStep := by
  unfold Core.homingStep
  split
  next x hx => exact h.phaseDone (h.homing_known hx)
  next => exact h

theorem homingLimit (h : Core.Sound w z s) : Core.Sound w z s.homingLimit := by
  unfold Core.homingLimit
  (repeat' split)
  · exact h.phaseFailed
  all_goals exact h

theorem angleArrives (h : Core.Sound w z s) : Core.Sound w z s.angleArrives := by
  unfold Core.angleArrives
  split
  · exact .takeHeld (.setAngle (h.keep rfl))
  · exact h

theorem anglePasses (h : Core.Sound w z s) : Core.Sound w z s.anglePasses := by
  unfold Core.anglePasses
  split
  · exact .takeHeld (.raiseFault (.setAngle (h.angleStopped.keep rfl)))
  · exact h

theorem sampleDue (h : Core.Sound w z s) : Core.Sound w z s.sampleDue := by
  unfold Core.sampleDue
  split
  · exact .post (h.keep rfl) nofun
  · exact h

theorem settled (h : Core.Sound w z s) : Core.Sound w z s.settled := by
  unfold Core.settled
  (repeat' split)
  · exact .signal (.setPlaten (h.dropForce.keep rfl))
  · exact h
  · exact h

theorem loweringPasses (h : Core.Sound w z s) : Core.Sound w z s.loweringPasses := by
  unfold Core.loweringPasses
  split
  · exact .signal (.raiseFault (.setPlaten (h.dropForce.keep rfl)))
  · exact h

theorem cupLands (h : Core.Sound w z s) : Core.Sound w z s.cupLands := by
  unfold Core.cupLands
  split
  · exact h.beginSuck
  · exact h

theorem puffOver (h : Core.Sound w z s) : Core.Sound w z s.puffOver := by
  unfold Core.puffOver
  (repeat' split)
  · exact .tryGauging (h.keep rfl)
  · exact h
  · exact h

theorem noVacuum (h : Core.Sound w z s) : Core.Sound w z s.noVacuum := by
  unfold Core.noVacuum
  split
  · exact h.putDown
  · exact h

theorem vacuumFalls (h : Core.Sound w z s) : Core.Sound w z s.vacuumFalls := by
  unfold Core.vacuumFalls
  extract_lets was _ s1
  have hbelow : Core.Sound w z s1 := h.keep rfl
  clear_value was s1
  split
  · split
    · exact hbelow.putDown
    · exact hbelow
  · exact hbelow.putDown
  · exact hbelow.putDown
  next harm => exact hbelow.vacuumLoss (by simp [harm, ArmState.carrying])
  next harm => exact hbelow.vacuumLoss (by simp [harm, ArmState.carrying])
  next => exact hbelow

theorem leafIsUp (h : Core.Sound w z s) : Core.Sound w z s.leafIsUp := by
  unfold Core.leafIsUp
  split
  · exact .post (h.keep rfl) nofun
  · exact h

theorem putDownOver (h : Core.Sound w z s) : Core.Sound w z s.putDownOver := by
  unfold Core.putDownOver
  split
  next m why t harm _ hturn =>
    split
    next hm =>
      have hclosed : Core.Sound w z { s with motion := { s.motion with valveOpen := false } } := h.keep rfl
      dsimp only
      split
      · exact hclosed.beginReturn
      · refine hclosed.attemptFailed (by simp [hturn]) ?_
        obtain rfl | rfl := hm
        · simp [harm, ArmState.carrying]
        · simp [harm, ArmState.carrying]
    next => exact h
  next => exact h

theorem sweepEnds (h : Core.Sound w z s) : Core.Sound w z s.sweepEnds := by
  unfold Core.sweepEnds
  split
  next harm => exact .startArm (h.keep rfl) fun _ _ => .inl (by simp [harm, ArmState.carrying])
  next => exact h

/-- The leaf is laid while the turn is still on its way, and the arm's return ends that (R105). -/
theorem releaseEnds (hcarry : w.carry = true) (h : Core.Sound w z s) : Core.Sound w z s.releaseEnds := by
  unfold Core.releaseEnds
  split
  next t harm hturn =>
    split
    · exact h
    · have hcarries : s.motion.Carries := by simp [Motion.Carries, harm, hturn, ArmState.carrying]
      exact (h.layLeaf hcarry hcarries).beginReturn.regainCarry (Core.beginReturn_stops _)
  next => exact h

theorem armParks (h : Core.Sound w z s) : Core.Sound w z s.armParks := by
  unfold Core.armParks
  split
  · exact .post (h.keep rfl) nofun
  · exact h

theorem armPasses (h : Core.Sound w z s) : Core.Sound w z s.armPasses := by
  unfold Core.armPasses
  (repeat' split)
  · exact h.armFault
  · exact h
  · exact h

/-! ### Capture -/

theorem captureDrain {n : Nat} (h : Core.Sound w z s) : Core.Sound w z (s.captureDrain id n) := by
  unfold Core.captureDrain
  split
  · refine .takeRoom (h.reply.setCap ?_)
    simp only [Capture.load, List.length_drop]
    exact Nat.add_le_add_right (Nat.sub_le _ _) _
  · exact h.reply

theorem capturePeek {n : Nat} (h : Core.Sound w z s) : Core.Sound w z (s.capturePeek id n) := by
  unfold Core.capturePeek
  split
  · exact h.reply
  · exact h.reply

theorem framesSet {ms : Nat} (h : Core.Sound w z s) : Core.Sound w z (s.framesSet id ms) := .reply (h.keep rfl)

theorem setCam {k : Camera} {x : CameraState} (h : Core.Sound w z s) :
    Core.Sound w z { s with cap := s.cap.setCam k x } :=
  h.setCap (by simp [Capture.load, Capture.reserved, Capture.setCam_attempt, Capture.setCam_ring])

theorem tryCameras (h : Core.Sound w z s) : Core.Sound w z s.tryCameras := by
  unfold Core.tryCameras
  split
  next a ha =>
    split
    next hphase _ =>
      split
      · exact h.enterAdmission ha (by simp [hphase])
      · exact h
    next => exact h
  next => exact h

theorem cameraLines {k : Camera} {ready fault : Bool} (h : Core.Sound w z s) :
    Core.Sound w z (s.cameraLines k ready fault) := .tryFinish (.tryCameras (.judgeFaults h.setCam))

theorem cameraWaitOver (h : Core.Sound w z s) : Core.Sound w z s.cameraWaitOver := by
  unfold Core.cameraWaitOver
  (repeat' split)
  · exact h.endUnlitWith
  all_goals exact h

theorem timeOutCamera {k : Camera} (h : Core.Sound w z s) : Core.Sound w z (s.timeOutCamera k) := by
  unfold Core.timeOutCamera
  split
  · exact h.setCam.raiseFault
  · exact h

theorem framesOver (h : Core.Sound w z s) : Core.Sound w z s.framesOver := by
  unfold Core.framesOver
  split
  next a ha =>
    (repeat' split)
    · exact .tryFinish (.timeOutCamera (.timeOutCamera (h.setAttempt ha id)))
    · exact h
    · exact h
  next => exact h

end Core.Sound

/-! ### The step sequencer -/

/-- A step appended to a queue with room, in a state other than IDLE (R135). -/
theorem Sequencer.fits_append {q r : Sequencer} {st : Step} (hroom : q.Fits → q.queue.length < 16)
    (hqueue : r.queue = q.queue ++ [st]) (hstate : r.state ≠ .idle) (h : q.Fits) : r.Fits := by
  refine ⟨?_, fun hidle => absurd hidle hstate⟩
  rw [hqueue, List.length_append, List.length_singleton]
  exact hroom h

/-- What STEP_FLUSH leaves of the queue (R154). -/
theorem Sequencer.flushSplit_fits (q : Sequencer) (h : q.Fits) :
    ({ q with queue := q.flushSplit.1 } : Sequencer).Fits := by
  obtain ⟨hlength, hidle⟩ := h
  unfold Sequencer.flushSplit
  split
  next st rest hq =>
    have hbusy : q.state ≠ .idle := fun hstate => by simp [hidle hstate] at hq
    split
    · exact ⟨by simp, fun hstate => absurd hstate hbusy⟩
    · exact ⟨by simp, fun _ => rfl⟩
  next => exact ⟨by simp, fun _ => rfl⟩

/-- The queue of an IDLE sequencer has room (R135). -/
theorem Sequencer.room_of_idle {q : Sequencer} (hstate : q.state = .idle) (h : q.Fits) : q.queue.length < 16 := by
  simp [h.2 hstate]

namespace Core.Sound
variable {w : Watch} {z s : Core} {id : Nat}

theorem stepQueue {spec : StepSpec} {g : Option GuardSpec} (h : Core.Sound w z s) :
    Core.Sound w z (s.stepQueue id spec g) := by
  unfold Core.stepQueue
  split
  · exact h.reply
  · split
    · exact h.reply
    · exact h.reply
    · split
      · exact h.reply
      next hfull =>
        have hroom : s.seq.Fits → s.seq.queue.length < 16 := fun _ => Nat.lt_of_not_le hfull
        unfold Core.startIfIdle
        split
        · exact .signal (h.requeue (Sequencer.fits_append hroom rfl nofun) rfl)
        next hstate => exact h.requeue (Sequencer.fits_append hroom rfl hstate) rfl

theorem stopSet {step opening : Nat} (h : Core.Sound w z s) : Core.Sound w z (s.stopSet id step opening) := by
  unfold Core.stopSet
  (repeat' split)
  · exact h.reply
  · refine .reply (h.setSequencer fun ⟨hlength, hidle⟩ => ⟨?_, fun hstate => ?_⟩)
    · simpa using hlength
    · simpa using hidle hstate
  · exact h.reply

theorem resume (h : Core.Sound w z s) : Core.Sound w z (s.resume id) := by
  unfold Core.resume
  dsimp only
  split
  · exact h.reply.release
  · exact h.reply

theorem stepFlush (h : Core.Sound w z s) : Core.Sound w z (s.stepFlush id) :=
  .reportCancelled (.reply (h.setSequencer s.seq.flushSplit_fits))

theorem pauseOver (h : Core.Sound w z s) : Core.Sound w z s.pauseOver := by
  unfold Core.pauseOver
  (repeat' split)
  · exact h.endStep
  · exact h
  · exact h

theorem clearAll (h : Core.Sound w z s) : Core.Sound w z (s.clearAll id) := .reply (h.keep rfl)

theorem faultClear {code : Nat} (h : Core.Sound w z s) : Core.Sound w z (s.faultClear id code) := by
  unfold Core.faultClear Core.clearKind
  dsimp only
  (repeat' split)
  · exact h.reply
  · exact .reply (h.keep rfl)
  · exact .reply (h.keep rfl)
  · exact h.clearAll
  · exact h.reply

/-! ### The panel -/

theorem tone (h : Core.Sound w z s) : Core.Sound w z s.tone := h.setPanel

theorem setInput {i : PanelInput} {x : InputState} (h : Core.Sound w z s) : Core.Sound w z (s.setInput i x) :=
  h.setPanel

theorem queueByPanel {i : PanelInput} {x : StepWork} (h : Core.Sound w z s) (hstate : s.seq.state = .idle) :
    Core.Sound w z (s.queueByPanel i x) := by
  unfold Core.queueByPanel Core.startIfIdle
  dsimp only
  split
  · exact .signal (h.requeue (Sequencer.fits_append (Sequencer.room_of_idle hstate) rfl nofun) rfl)
  next hne => exact absurd hstate hne

theorem pressContinue {i : PanelInput} (h : Core.Sound w z s) : Core.Sound w z (s.pressContinue i) := by
  have hcleared : Core.Sound w z s.clearVacuum := h.keep rfl
  unfold Core.pressContinue
  dsimp only
  split
  · exact hcleared.report.release
  · exact hcleared.report.tone

theorem pressAdvance (h : Core.Sound w z s) : Core.Sound w z s.pressAdvance := by
  unfold Core.pressAdvance
  split
  · exact h.pressContinue
  · split
    next hstate _ =>
      (repeat' split)
      · exact h.queueByPanel hstate
      · exact h.queueByPanel hstate
      · exact h.tone
    next => exact h.tone

theorem pressRetake (h : Core.Sound w z s) : Core.Sound w z s.pressRetake := by
  unfold Core.pressRetake
  split
  next hready => exact h.queueByPanel hready.1
  next => exact h.tone

theorem pressTurned (h : Core.Sound w z s) : Core.Sound w z s.pressTurned := by
  unfold Core.pressTurned
  split
  next v hv =>
    split
    next hmay =>
      obtain ⟨hbelow, harm⟩ : v.cursor < v.leaves ∧ s.motion.arm = .parked := by
        simp only [Core.mayConfirm, Bool.and_eq_true, decide_eq_true_eq, beq_iff_eq] at hmay
        obtain ⟨⟨⟨hbelow, harm⟩, -⟩, -⟩ := hmay
        exact ⟨hbelow, harm⟩
      have htallied : Core.Sound w z (s.editMounted fun v =>
          { v with tallies := { v.tallies with manualTurns := bump v.tallies.manualTurns } }) :=
            h.editMounted (.of_eq fun _ => rfl)
      refine .confirmTurn (.report (htallied.appendMounted.moveCursor (fun _ u hu => ?_) fun _ => ?_))
      · obtain ⟨u', hu', hleaves, -⟩ := (Core.appendMounted_ledger _ none .manualTurn (v.cursor + 1) 0).volume_of
          (fun hg => hg.toKept) (by simp) hu
        rw [Core.volume_editMounted, hv] at hu'
        obtain rfl := Option.some.inj hu'
        rw [hleaves]
        exact hbelow
      · simp [Motion.Carries, harm, ArmState.carrying]
    next => exact h.tone
  next => exact h.tone

theorem pressBack (h : Core.Sound w z s) : Core.Sound w z s.pressBack := by
  unfold Core.pressBack
  split
  next v hv =>
    split
    next hready =>
      obtain ⟨-, hquiet⟩ := hready
      refine .report (h.revisit (fun hz u hu => ?_) (Core.unquiet_eq_none (s.unquiet_of_quiet hquiet)))
      obtain rfl := Option.some.inj (hv.symm.trans hu)
      obtain ⟨i, -, hget⟩ := Core.volume_eq_some.mp hv
      exact Nat.le_trans (Nat.sub_le _ _) ((h.within hz).cursors i v hget)
    next => exact h.tone
  next => exact h.tone

theorem pressHold (h : Core.Sound w z s) : Core.Sound w z s.pressHold := h.halt.report

theorem pressAction {i : PanelInput} (h : Core.Sound w z s) : Core.Sound w z (s.pressAction i) := by
  cases i with
  | advance => exact h.pressAdvance
  | retake => exact h.pressRetake
  | turned => exact h.pressTurned
  | back => exact h.pressBack
  | hold => exact h.pressHold
  | cont => exact h.pressContinue

theorem press {i : PanelInput} (h : Core.Sound w z s) : Core.Sound w z (s.press i) := by
  unfold Core.press
  split
  · exact .pressAction h.setInput
  · exact h

theorem releaseInput {i : PanelInput} (h : Core.Sound w z s) : Core.Sound w z (s.releaseInput i) := by
  unfold Core.releaseInput
  dsimp only
  split
  · exact h.setInput
  · exact h

theorem settleInput {i : PanelInput} (h : Core.Sound w z s) : Core.Sound w z (s.settleInput i) := by
  unfold Core.settleInput
  dsimp only
  split
  · exact h.setInput
  · exact h

theorem inputLevel {i : PanelInput} {pressed : Bool} (h : Core.Sound w z s) :
    Core.Sound w z (s.inputLevel i pressed) := by
  unfold Core.inputLevel
  split
  · exact h
  · exact h.settleInput.setInput

theorem measureInputs (is : List PanelInput) (h : Core.Sound w z s) :
    Core.Sound w z (is.foldl Core.measureInput s) := by
  induction is generalizing s with
  | nil => exact h
  | cons i is ih => exact ih h.settleInput.releaseInput.press.settle

theorem panelSet {ms : Nat} (h : Core.Sound w z s) : Core.Sound w z (s.panelSet id ms) := by
  unfold Core.panelSet
  split
  · exact .measureInputs _ (.reply h.setPanel)
  · exact h.reply

theorem toneOver (h : Core.Sound w z s) : Core.Sound w z s.toneOver := by
  unfold Core.toneOver
  (repeat' split)
  · exact h.setPanel
  · exact h
  · exact h

theorem curtainBreaks (h : Core.Sound w z s) : Core.Sound w z s.curtainBreaks := by
  unfold Core.curtainBreaks
  split
  · exact h
  · exact .seqBreak (.captureBreak (.illumBreak (.motionBreak (.report h.setPanel))))

theorem curtainClears (h : Core.Sound w z s) : Core.Sound w z s.curtainClears := by
  unfold Core.curtainClears
  (repeat' split)
  · exact .advance (.motionClear (.report h.setPanel))
  · exact h
  · exact h

theorem rawCurtain {interrupted : Bool} (h : Core.Sound w z s) : Core.Sound w z (s.rawCurtain interrupted) := by
  unfold Core.rawCurtain
  (repeat' split)
  · exact h.setPanel
  · exact h.setPanel
  · exact h
  · exact h.curtainBreaks
  · exact h

/-! ### The activity counters -/

theorem bandsSet {t1 t2 t3 t4 : Nat} (h : Core.Sound w z s) : Core.Sound w z (s.bandsSet id t1 t2 t3 t4) := by
  unfold Core.bandsSet
  split
  · exact h.reply
  · exact .reply (h.keep rfl)

theorem countShown (h : Core.Sound w z s) : Core.Sound w z s.countShown := by
  unfold Core.countShown
  split
  · exact h.keep rfl
  · exact h

theorem depthSample (h : Core.Sound w z s) : Core.Sound w z s.depthSample := by
  unfold Core.depthSample
  split
  · exact .tell (h.keep rfl)
  · exact h

end Core.Sound

end Sys2Proof.Machine
end

section
/-! PROOF. The bounds of the link port and of the counters, and the end of every command (O4, O7). -/

namespace Sys2Proof.Machine

/-! ### Counts -/

theorem satAdd_le (bound a b : Nat) : satAdd bound a b ≤ bound := Nat.min_le_left _ _

theorem bump_le (n : Nat) : bump n ≤ 4294967295 := satAdd_le max32 n 1

theorem Counter.add_value_le (n : Nat) (c : Counter) : (c.add n).value ≤ 4294967295 := by
  unfold Counter.add
  split
  next h => exact h
  next => exact Nat.le_refl _

theorem Counter.take_value_le (e : CounterEvent) (x : Int) {c : Counter} (h : c.value ≤ 4294967295) :
    (c.take e x).value ≤ 4294967295 := by
  by_cases hon : c.enable = true ∧ c.event = e
  · obtain ⟨henable, hevent⟩ := hon
    by_cases hcompares : c.Compares e
    · rw [c.take_compares x henable hevent hcompares, c.compare_eq x]
      split
      · exact c.add_value_le 1
      · exact h
    · rw [c.take_counts x henable hevent hcompares]
      exact c.add_value_le _
  · rw [c.take_other x (by simpa [imp_iff_not_or] using hon)]
    exact h

theorem counterForm_value_le (m : Mask) (en : Bool) (e : CounterEvent) (th : Int) (inv ed : Bool) {c : Counter}
    (h : c.value ≤ 4294967295) : (counterForm m en e th inv ed c).value ≤ 4294967295 := by
  unfold counterForm
  dsimp only
  split
  · exact h
  · exact Nat.zero_le _

/-- The four counters within their 32 bits (R183). -/
def CountersBounded (cs : Vector Counter 4) : Prop := ∀ i : Fin 4, (cs[i]).value ≤ 4294967295

theorem takeCounts_bounded (os : List Out) {cs : Vector Counter 4} (h : CountersBounded cs) :
    CountersBounded (os.foldl takeCounts cs) := by
  induction os generalizing cs with
  | nil => exact h
  | cons o os ih =>
    refine ih fun i => ?_
    cases o with
    | count e n =>
      rw [takeCounts_get]
      exact Counter.take_value_le e n (h i)
    | _ => exact h i

/-! ### The link port -/

/-- A link port whose entries are among those of a bounded one, with its own reports and counts in bounds. -/
theorem Link.Bounded.shrink {l k : Link} (h : l.Bounded)
    (hids : (k.pending.map (·.id)).Sublist (l.pending.map (·.id))) (hnext : l.nextEntry ≤ k.nextEntry)
    (hreports : k.reports.length ≤ 32)
    (hcounts : k.fragments ≤ 4294967295 ∧ k.checkErrors ≤ 4294967295 ∧ k.droppedReports ≤ 4294967295
      ∧ k.droppedRequests ≤ 4294967295) : k.Bounded := by
  obtain ⟨hfragments, herrors, hdropped, hrequests⟩ := hcounts
  refine ⟨?_, ?_, fun p hp => ?_, hreports, hfragments, herrors, hdropped, hrequests⟩
  · have hlength := hids.length_le
    simp only [List.length_map] at hlength
    exact hlength.trans h.entries
  · exact List.pairwise_map.mp ((List.pairwise_map.mpr h.order).sublist hids)
  · obtain ⟨q, hq, hid⟩ := List.mem_map.mp (hids.subset (List.mem_map_of_mem hp))
    exact hid ▸ Nat.lt_of_lt_of_le (h.fresh q hq) hnext

section
variable {l : Link} (h : l.Bounded)
include h

theorem Link.Bounded.counts : l.fragments ≤ 4294967295 ∧ l.checkErrors ≤ 4294967295 ∧ l.droppedReports ≤ 4294967295
    ∧ l.droppedRequests ≤ 4294967295 := ⟨h.fragments, h.checkErrors, h.droppedReports, h.droppedRequests⟩

theorem Link.Bounded.push (r : Report) : (l.push r).Bounded := by
  unfold Link.push
  split
  next hroom =>
    refine h.shrink (.refl _) (Nat.le_refl _) ?_ h.counts
    rw [List.length_append, List.length_singleton]
    exact hroom
  next => exact h.shrink (.refl _) (Nat.le_refl _) h.reports ⟨h.fragments, h.checkErrors, bump_le _, h.droppedRequests⟩

theorem Link.Bounded.take (o : Out) : (l.take o).Bounded := by
  obtain ⟨-, -, -, -, -, -, hnext, hids⟩ := l.take_keeps o
  cases o with
  | report r => exact h.push r
  | reply e r => exact h.shrink (hids ▸ .refl _) (Nat.le_of_eq hnext.symm) h.reports h.counts
  | count e n => exact h

theorem Link.Bounded.pump : l.pump.Bounded := by
  obtain ⟨-, hpending, hfragments, herrors, hdropped, hrequests, -, hnext, hreports⟩ := l.pump_keeps
  exact h.shrink (hpending ▸ .refl _) (Nat.le_of_eq hnext.symm) (hreports.trans h.reports)
    (by rw [hfragments, herrors, hdropped, hrequests]; exact h.counts)

theorem Link.Bounded.reset : l.reset.Bounded :=
  h.shrink (List.nil_sublist _) (Nat.le_refl _) (Nat.zero_le _)
    ⟨Nat.zero_le _, Nat.zero_le _, Nat.zero_le _, Nat.zero_le _⟩

theorem Link.Bounded.sent : l.sent.Bounded := by
  unfold Link.sent
  split
  · exact h.shrink (List.filter_sublist.map _) (Nat.le_refl _) h.reports h.counts
  · exact h.shrink (.refl _) (Nat.le_refl _) h.reports h.counts

theorem Link.Bounded.keep (f : Fed) : (l.keep f).Bounded :=
  h.shrink (.refl _) (Nat.le_refl _) h.reports ⟨satAdd_le _ _ _, h.checkErrors, h.droppedReports, h.droppedRequests⟩

/-- A request's entry added to a list with room (R190). -/
theorem Link.Bounded.enter (kind tag : Byte) (hroom : l.pending.length < 16) : ({ l with
    pending := l.pending ++ [{ id := l.nextEntry, kind := kind, tag := tag, reply := none }]
    nextEntry := l.nextEntry + 1 } : Link).Bounded := by
  refine ⟨?_, ?_, fun p hp => ?_, h.reports, h.fragments, h.checkErrors, h.droppedReports, h.droppedRequests⟩
  · rw [List.length_append, List.length_singleton]
    exact hroom
  · refine List.pairwise_append.mpr ⟨h.order, List.pairwise_singleton _ _, fun p hp r hr => ?_⟩
    rw [List.mem_singleton.mp hr]
    exact h.fresh p hp
  · rcases List.mem_append.mp hp with hp | hp
    · exact Nat.lt_succ_of_lt (h.fresh p hp)
    · rw [List.mem_singleton.mp hp]
      exact Nat.lt_succ_self _

end

theorem Link.take_bounded (os : List Out) {l : Link} (h : l.Bounded) : (os.foldl Link.take l).Bounded := by
  induction os generalizing l with
  | nil => exact h
  | cons o os ih => exact ih (h.take o)

theorem Link.take_nextEntry (os : List Out) (l : Link) : (os.foldl Link.take l).nextEntry = l.nextEntry := by
  induction os generalizing l with
  | nil => rfl
  | cons o os ih =>
    obtain ⟨-, -, -, -, -, -, hnext, -⟩ := l.take_keeps o
    exact (ih _).trans hnext

theorem State.run_bounded (f : Core → Core) {s : State} (h : s.Bounded) : (s.run f).Bounded :=
  ⟨(Link.take_bounded _ h.1).pump, takeCounts_bounded _ h.2⟩

theorem State.run_nextEntry (f : Core → Core) (s : State) : (s.run f).link.nextEntry = s.link.nextEntry := by
  obtain ⟨-, -, -, -, -, -, -, hnext, -⟩ :=
    (((f { s.core with out := [], sig := [] }).settle.out.foldl Link.take s.link)).pump_keeps
  exact hnext.trans (Link.take_nextEntry _ _)

/-! ### A command in hand -/

/-- The machine `t`, which a command has made of the machine `s` with its clock at `n`. -/
structure State.Sound (n : Nat) (w : Watch) (s t : State) : Prop where
  bounded : s.Bounded → t.Bounded
  core : Core.Sound w { s.core with now := n } t.core
  next : s.link.nextEntry ≤ t.link.nextEntry
  new : ∀ e, w.new e → e < t.link.nextEntry

/-- What a command that ends at the instant `n` keeps. -/
structure State.Kept (n : Nat) (s t : State) : Prop where
  now : t.core.now = n
  bounded : s.Bounded → t.Bounded
  within : s.core.WithinCapacities → t.core.WithinCapacities
  numbers : s.NumbersIssued → t.NumbersIssued

namespace State.Sound
variable {n : Nat} {w : Watch} {s t : State}

theorem refl (n : Nat) (s : State) : State.Sound n .plain s { s with core := { s.core with now := n } } :=
  ⟨id, .refl _ _, Nat.le_refl _, nofun⟩

theorem kept (h : State.Sound n w s t) (hlent : w.lent = 0) (hcarry : w.carry = true) : State.Kept n s t := by
  refine ⟨h.core.now, h.bounded, fun hs => ?_, fun hs => State.numbersIssued_iff.mpr fun e he => ?_⟩
  · exact (Core.within_iff hlent hcarry).mp (h.core.within
      ⟨hs.ring, hs.queue, hs.idle, hs.exceptions, hs.segments, hs.cursors, hs.carried⟩)
  · rcases h.core.holds e he with hfound | hnew
    · exact Nat.lt_of_lt_of_le (State.numbersIssued_iff.mp hs e hfound) h.next
    · exact h.new e hnew

/-- A change of the blocks carried out to its end. -/
theorem run {f : Core → Core} (h : State.Sound n w s t)
    (hf : ∀ {c : Core}, Core.Sound w { s.core with now := n } c → Core.Sound w { s.core with now := n } (f c)) :
    State.Sound n w s (t.run f) := by
  refine ⟨fun hs => t.run_bounded f (h.bounded hs), ?_, ?_, fun e he => ?_⟩
  · have hfound : Core.Sound w { s.core with now := n } { t.core with out := [], sig := [] } := h.core.keep rfl
    exact (hf hfound).settle.keep rfl
  · rw [State.run_nextEntry]
    exact h.next
  · rw [State.run_nextEntry]
    exact h.new e he

theorem setLink {l : Link} (h : State.Sound n w s t) (hnext : t.link.nextEntry ≤ l.nextEntry)
    (hbounded : t.link.Bounded → l.Bounded) : State.Sound n w s { t with link := l } :=
  ⟨fun hs => ⟨hbounded (h.bounded hs).1, (h.bounded hs).2⟩, h.core, h.next.trans hnext,
    fun e he => Nat.lt_of_lt_of_le (h.new e he) hnext⟩

theorem setCounters {cs : Vector Counter 4} (h : State.Sound n w s t)
    (hbounded : CountersBounded t.counters → CountersBounded cs) : State.Sound n w s { t with counters := cs } :=
  ⟨fun hs => ⟨(h.bounded hs).1, hbounded (h.bounded hs).2⟩, h.core, h.next, h.new⟩

end State.Sound

namespace State
variable (s : State)

/-- The clock set. -/
theorem clock_sound (us : Nat) : State.Sound (s.core.atUs us).now .plain s (s.clock us) := .refl _ s

theorem clock_kept (us : Nat) : State.Kept (s.core.atUs us).now s (s.clock us) := (s.clock_sound us).kept rfl rfl

/-- A change of the link port alone. -/
theorem link_kept (us : Nat) {l : Link} (hnext : s.link.nextEntry ≤ l.nextEntry)
    (hbounded : s.link.Bounded → l.Bounded) :
    State.Kept (s.core.atUs us).now s { s.clock us with link := l } :=
  ((s.clock_sound us).setLink hnext hbounded).kept rfl rfl

theorem event_kept (us : Nat) {f : Core → Core}
    (hf : ∀ {z c : Core}, Core.Sound .plain z c → Core.Sound .plain z (f c)) :
    State.Kept (s.core.atUs us).now s (s.event us f) := by
  have hrun := (s.clock_sound us).run hf
  exact State.Sound.kept hrun rfl rfl

/-- A request taken with its owner's change: the owner brings the number of its entry. -/
theorem accept_kept (us : Nat) (kind tag : Byte) {owner : Nat → State → State}
    (howner : ∀ {t : State}, State.Sound (s.core.atUs us).now (.bringing s.link.nextEntry) s t →
      State.Sound (s.core.atUs us).now (.bringing s.link.nextEntry) s (owner s.link.nextEntry t)) :
    State.Kept (s.core.atUs us).now s (s.accept us kind tag owner) := by
  unfold State.accept
  dsimp only
  split
  · exact s.clock_kept us
  · split
    · refine State.Sound.kept ((s.clock_sound us).setLink (Nat.le_refl _) fun hl => ?_) rfl rfl
      exact hl.shrink (.refl _) (Nat.le_refl _) hl.reports
        ⟨hl.fragments, hl.checkErrors, hl.droppedReports, bump_le _⟩
    next hroom =>
      refine State.Sound.kept (howner ⟨fun hs => ⟨?_, hs.2⟩, .refl _ _, Nat.le_succ _, ?_⟩) rfl rfl
      · have hl : ({ s.link with parser := Parser.hunt } : Link).Bounded :=
          hs.1.shrink (.refl _) (Nat.le_refl _) hs.1.reports hs.1.counts
        exact hl.enter kind tag (Nat.lt_of_not_le hroom)
      · rintro e rfl
        exact Nat.lt_succ_self _

theorem request_kept (q : Req) (kind : Byte) {owner : Nat → State → State}
    (howner : ∀ {t : State}, State.Sound (s.core.atUs q.us).now (.bringing s.link.nextEntry) s t →
      State.Sound (s.core.atUs q.us).now (.bringing s.link.nextEntry) s (owner s.link.nextEntry t)) :
    State.Kept (s.core.atUs q.us).now s (s.request q kind owner) := by
  refine s.accept_kept q.us kind q.tag fun ht => ?_
  split
  · exact howner ht
  · exact ht.run fun h => h.reply

theorem ask_kept (q : Req) (kind : Byte) {f : Nat → Core → Core}
    (hf : ∀ {z c : Core}, Core.Sound (.bringing s.link.nextEntry) z c →
      Core.Sound (.bringing s.link.nextEntry) z (f s.link.nextEntry c)) :
    State.Kept (s.core.atUs q.us).now s (s.ask q kind f) :=
  s.request_kept q kind fun ht => ht.run hf

end State

theorem Link.sent_pump_nextEntry (l : Link) : l.sent.pump.nextEntry = l.nextEntry := by
  obtain ⟨-, -, -, -, -, -, -, hnext, -⟩ := l.sent.pump_keeps
  refine hnext.trans ?_
  unfold Link.sent
  split <;> rfl

/-- The number of a request's entry is the one that its command brings. -/
theorem Watch.bringing_known (id : Nat) (z : Core) : (Watch.bringing id).Known z id := .inr rfl

/-! ### The commands with a part beside the blocks -/

section
variable {n : Nat} {w : Watch} {s t : State} (h : State.Sound n w s t)
include h

theorem State.Sound.counterSet {id k code : Nat} {m : Mask} {en inv ed : Bool} {th : Int} :
    State.Sound n w s (t.counterSet id k m en code th inv ed) := by
  unfold State.counterSet
  split
  next hk =>
    dsimp only
    split
    · exact h.run fun hc => hc.reply
    · exact h.run fun hc => hc.reply
    · refine State.Sound.run (h.setCounters fun hcs i => ?_) fun hc => hc.reply
      by_cases hi : k = i.val
      · subst hi
        simpa using counterForm_value_le m en _ th inv ed (hcs i)
      · simpa [hi] using hcs i
  next => exact h.run fun hc => hc.reply

theorem State.Sound.clearCounters {mask : Mask} : State.Sound n w s { t with
    counters := Vector.ofFn fun i : Fin 4 => if mask.getLsbD i then (t.counters[i]).zero else t.counters[i] } := by
  refine h.setCounters fun hcs i => ?_
  simp only [Fin.getElem_fin, Vector.getElem_ofFn]
  split
  · exact Nat.zero_le _
  · exact hcs i

end

/-- A link reset keeps the entry of its own request (R195). -/
theorem State.Sound.linkReset {n id : Nat} {tag : Byte} {s t : State} (h : State.Sound n (.bringing id) s t) :
    State.Sound n (.bringing id) s { t with link := { t.link.reset with
      pending := [{ id := id, kind := 0x05, tag := tag, reply := none }] } } := by
  refine h.setLink (Nat.le_refl _) fun hl => ?_
  have hreset := hl.reset
  refine ⟨by simp, List.pairwise_singleton _ _, fun p hp => ?_, hreset.reports, hreset.fragments, hreset.checkErrors,
    hreset.droppedReports, hreset.droppedRequests⟩
  rw [List.mem_singleton.mp hp]
  exact h.new id rfl

/-- MS_TICK ends the millisecond (R184, section 6.2). -/
theorem msTick_kept (s : State) :
    ∃ t, exec .msTick s = .next t ∧ State.Kept ((s.core.now / 1000 + 1) * 1000) s t := by
  have hbegun : Core.Sound .plain { s.core with now := (s.core.now / 1000 + 1) * 1000 }
      { s.core with now := (s.core.now / 1000 + 1) * 1000, out := [], sig := [] } := (Core.Sound.refl .plain _).keep rfl
  have htick : Core.Sound .plain { s.core with now := (s.core.now / 1000 + 1) * 1000 }
      (Core.tick { s.core with out := [], sig := [] }) := by
    unfold Core.tick
    dsimp only
    (repeat' split)
    · exact hbegun.tell.tell
    · exact hbegun.tell
    · exact hbegun.tell
    · exact hbegun
  have hsound : State.Sound ((s.core.now / 1000 + 1) * 1000) .plain s (s.run Core.tick) :=
    ⟨s.run_bounded _, htick.settle.keep rfl, Nat.le_of_eq (s.run_nextEntry _).symm, nofun⟩
  exact ⟨_, rfl, hsound.kept rfl rfl⟩

/-- POWER_ON leaves the link port empty, the blocks as at power-on, and no work in hand (R155, R195). -/
theorem powerOn_keeps_bounds (s : State) :
    ∃ t, exec .powerOn s = .next t ∧ t.Bounded ∧ t.core.WithinCapacities ∧ t.NumbersIssued := by
  have hrestart : Core.Sound .plain Core.powerOn s.core.restart := (Core.Sound.refl .plain Core.powerOn).keep rfl
  refine ⟨_, rfl, ⟨Link.powerOn_bounded, fun i => ?_⟩, ?_, State.numbersIssued_iff.mpr fun e he => ?_⟩
  · simp [Counter.powerOn]
  · exact (Core.within_iff rfl rfl).mp (hrestart.within Core.powerOn_withinCapacities)
  · exact (hrestart.holds e he).elim (State.numbersIssued_iff.mp State.reset_numbersIssued e) False.elim

end Sys2Proof.Machine
end

section
/-! PROOF. What every command keeps, and with it the bounds of every step (O4) and the course of time (O7). -/

namespace Sys2Proof.Machine

/-- A command at an instant of the present millisecond keeps the bounds, the capacities and the entry numbers. -/
theorem exec_kept (c : Instr) (s : State) (hpower : c ≠ .powerOn) (htick : c ≠ .msTick) :
    ∃ t us, exec c s = .next t ∧ State.Kept (s.core.atUs us).now s t := by
  have hid := Watch.bringing_known s.link.nextEntry
  cases c with
  | powerOn => exact absurd rfl hpower
  | msTick => exact absurd rfl htick
  | identify q => exact ⟨_, q.us, rfl, s.ask_kept _ _ fun h => h.reply⟩
  | linkStatus q clear =>
    refine ⟨_, q.us, rfl, s.request_kept _ _ fun ht => ?_⟩
    cases clear with
    | false => exact ht.run fun h => h.reply
    | true =>
      refine State.Sound.run (ht.setLink (Nat.le_refl _) fun hl => ?_) fun h => h.reply
      exact hl.shrink (.refl _) (Nat.le_refl _) hl.reports ⟨Nat.zero_le _, Nat.zero_le _, Nat.zero_le _, Nat.zero_le _⟩
  | statusGet q =>
    refine ⟨_, q.us, rfl, s.request_kept _ _ fun ht => ht.run fun h => ?_⟩
    exact h.countShown.reply
  | stationReset q => exact ⟨_, q.us, rfl, s.ask_kept _ _ fun h => h.stationReset.reply⟩
  | linkReset q => exact ⟨_, q.us, rfl, s.request_kept _ _ fun ht => ht.linkReset.run fun h => h.reply⟩
  | classSet q n m x => exact ⟨_, q.us, rfl, s.ask_kept _ _ fun h => h.classSet⟩
  | volumeAdd q t n b m p segs => exact ⟨_, q.us, rfl, s.ask_kept _ _ fun h => h.volumeAdd⟩
  | volumeMount q n m k a => exact ⟨_, q.us, rfl, s.ask_kept _ _ fun h => h.volumeMount⟩
  | volumeUnmount q n => exact ⟨_, q.us, rfl, s.ask_kept _ _ fun h => h.volumeUnmount⟩
  | volumeClose q n force => exact ⟨_, q.us, rfl, s.ask_kept _ _ fun h => h.volumeClose⟩
  | volumeWithdraw q n => exact ⟨_, q.us, rfl, s.ask_kept _ _ fun h => h.volumeWithdraw⟩
  | volumeRemove q n => exact ⟨_, q.us, rfl, s.ask_kept _ _ fun h => h.volumeRemove⟩
  | volumeSet q n m b p cls segs => exact ⟨_, q.us, rfl, s.ask_kept _ _ fun h => h.volumeSet⟩
  | volumeGet q n m k => exact ⟨_, q.us, rfl, s.ask_kept _ _ fun h => h.volumeGet⟩
  | cursorSet q k => exact ⟨_, q.us, rfl, s.ask_kept _ _ fun h => h.cursorSet⟩
  | exceptionsTake q n k => exact ⟨_, q.us, rfl, s.ask_kept _ _ fun h => h.exceptionsTake⟩
  | lightStage q m x => exact ⟨_, q.us, rfl, s.ask_kept _ _ fun h => h.lightStage⟩
  | limitsSet q e => exact ⟨_, q.us, rfl, s.ask_kept _ _ fun h => h.limitsSet⟩
  | lampsCalibrate q m x => exact ⟨_, q.us, rfl, s.ask_kept _ _ fun h => h.lampsCalibrate⟩
  | calibrationFlash q => exact ⟨_, q.us, rfl, s.ask_kept _ _ fun h => h.calibrationFlash (hid _)⟩
  | viewOn q => exact ⟨_, q.us, rfl, s.ask_kept _ _ fun h => h.viewOn⟩
  | viewOff q => exact ⟨_, q.us, rfl, s.ask_kept _ _ fun h => h.viewOff⟩
  | calibrate q ch m x y => exact ⟨_, q.us, rfl, s.ask_kept _ _ fun h => h.calibrate⟩
  | measure q ch => exact ⟨_, q.us, rfl, s.ask_kept _ _ fun h => h.measureChannel (hid _)⟩
  | home q => exact ⟨_, q.us, rfl, s.ask_kept _ _ fun h => h.home (hid _)⟩
  | angleSet q d => exact ⟨_, q.us, rfl, s.ask_kept _ _ fun h => h.angleSet⟩
  | captureDrain q n => exact ⟨_, q.us, rfl, s.ask_kept _ _ fun h => h.captureDrain⟩
  | capturePeek q n => exact ⟨_, q.us, rfl, s.ask_kept _ _ fun h => h.capturePeek⟩
  | framesSet q ms => exact ⟨_, q.us, rfl, s.ask_kept _ _ fun h => h.framesSet⟩
  | stepQueue q work gate => exact ⟨_, q.us, rfl, s.ask_kept _ _ fun h => h.stepQueue⟩
  | stopSet q k n => exact ⟨_, q.us, rfl, s.ask_kept _ _ fun h => h.stopSet⟩
  | halt q => exact ⟨_, q.us, rfl, s.ask_kept _ _ fun h => h.reply.halt⟩
  | abort q => exact ⟨_, q.us, rfl, s.ask_kept _ _ fun h => h.reply.abort⟩
  | resume q => exact ⟨_, q.us, rfl, s.ask_kept _ _ fun h => h.resume⟩
  | stepFlush q => exact ⟨_, q.us, rfl, s.ask_kept _ _ fun h => h.stepFlush⟩
  | faultClear q k => exact ⟨_, q.us, rfl, s.ask_kept _ _ fun h => h.faultClear⟩
  | faultClearAll q => exact ⟨_, q.us, rfl, s.ask_kept _ _ fun h => h.clearAll⟩
  | panelSet q ms => exact ⟨_, q.us, rfl, s.ask_kept _ _ fun h => h.panelSet⟩
  | counterSet q n m en e th inv edge => exact ⟨_, q.us, rfl, s.request_kept _ _ fun ht => ht.counterSet⟩
  | counterGet q m => exact ⟨_, q.us, rfl, s.request_kept _ _ fun ht => ht.clearCounters.run fun h => h.reply⟩
  | bandsSet q t1 t2 t3 t4 => exact ⟨_, q.us, rfl, s.ask_kept _ _ fun h => h.bandsSet⟩
  | unknownKind us kind tag =>
    change ∃ t us', execUnknownKind us kind tag s = .next t ∧ _
    unfold execUnknownKind
    split
    · exact ⟨_, us, rfl, s.clock_kept us⟩
    · exact ⟨_, us, rfl, s.accept_kept us kind tag fun ht => ht.run fun h => h.reply⟩
  | droppedRequest us kind tag =>
    change ∃ t us', execDroppedRequest us kind tag s = .next t ∧ _
    unfold execDroppedRequest
    split
    · exact ⟨_, us, rfl, s.accept_kept us kind tag fun ht => ht⟩
    · exact ⟨_, us, rfl, s.clock_kept us⟩
  | checkError us frame =>
    change ∃ t us', execCheckError us frame s = .next t ∧ _
    unfold execCheckError
    dsimp only
    split
    · exact ⟨_, us, rfl, s.link_kept us (Nat.le_refl _) fun hl => hl.shrink (.refl _) (Nat.le_refl _) hl.reports
        ⟨hl.fragments, bump_le _, hl.droppedReports, hl.droppedRequests⟩⟩
    · exact ⟨_, us, rfl, s.clock_kept us⟩
  | fragment us bytes cause =>
    change ∃ t us', execFragment us bytes cause s = .next t ∧ _
    unfold execFragment
    dsimp only
    split
    · exact ⟨_, us, rfl, s.clock_kept us⟩
    · cases cause with
      | lengthOver => exact ⟨_, us, rfl, s.link_kept us (Nat.le_refl _) fun hl => hl.keep _⟩
      | framingError => exact ⟨_, us, rfl, s.link_kept us (Nat.le_refl _) fun hl => hl.keep _⟩
  | interByteGap us bytes next =>
    change ∃ t us', execInterByteGap us bytes next s = .next t ∧ _
    unfold execInterByteGap
    dsimp only
    split
    · exact ⟨_, us, rfl, s.clock_kept us⟩
    · exact ⟨_, us, rfl, s.link_kept us (Nat.le_refl _) fun hl => hl.keep _⟩
  | lineBreak us =>
    change ∃ t us', execLineBreak us s = .next t ∧ _
    unfold execLineBreak
    dsimp only
    split
    · exact ⟨_, us, rfl, s.clock_kept us⟩
    · exact ⟨_, us, rfl, s.link_kept us (Nat.le_refl _)
        fun hl => hl.reset.shrink (.refl _) (Nat.le_refl _) (Nat.zero_le _) hl.reset.counts⟩
  | lineReturnToIdle us =>
    exact ⟨_, us, rfl, s.link_kept us (Nat.le_refl _)
      fun hl => hl.shrink (.refl _) (Nat.le_refl _) hl.reports hl.counts⟩
  | frameSent us => exact ⟨_, us, rfl, s.link_kept us s.link.sent_pump_nextEntry.ge fun hl => hl.sent.pump⟩
  | advance us => exact ⟨_, us, rfl, s.event_kept us fun h => h.press⟩
  | retakeKey us => exact ⟨_, us, rfl, s.event_kept us fun h => h.press⟩
  | turnedKey us => exact ⟨_, us, rfl, s.event_kept us fun h => h.press⟩
  | backKey us => exact ⟨_, us, rfl, s.event_kept us fun h => h.press⟩
  | holdKey us => exact ⟨_, us, rfl, s.event_kept us fun h => h.press⟩
  | continueKey us => exact ⟨_, us, rfl, s.event_kept us fun h => h.press⟩
  | keyRelease us k => exact ⟨_, us, rfl, s.event_kept us fun h => h.releaseInput⟩
  | curtainBroken us => exact ⟨_, us, rfl, s.event_kept us fun h => h.curtainBreaks⟩
  | curtainClear us => exact ⟨_, us, rfl, s.event_kept us fun h => h.curtainClears⟩
  | toneEnd us => exact ⟨_, us, rfl, s.event_kept us fun h => h.toneOver⟩
  | spotResult us code => exact ⟨_, us, rfl, s.event_kept us fun h => h.spotArrives⟩
  | conversionFault us => exact ⟨_, us, rfl, s.event_kept us fun h => h.conversionPasses⟩
  | lateResultDiscarded us code => exact ⟨_, us, rfl, s.event_kept us fun h => h⟩
  | tempTimer us => exact ⟨_, us, rfl, s.event_kept us fun h => h.tempTick⟩
  | lampOff us window => exact ⟨_, us, rfl, s.event_kept us fun h => h.lampOffEvent⟩
  | recoveryEnd us => exact ⟨_, us, rfl, s.event_kept us fun h => h.recoveryOver⟩
  | thermalWaitExpiry us => exact ⟨_, us, rfl, s.event_kept us fun h => h.thermalWaitOver⟩
  | viewPeriodEnd us => exact ⟨_, us, rfl, s.event_kept us fun h => h.periodOver⟩
  | homingPhaseDone us => exact ⟨_, us, rfl, s.event_kept us fun h => h.homingStep⟩
  | homingPhaseTimeout us => exact ⟨_, us, rfl, s.event_kept us fun h => h.homingLimit⟩
  | angleReached us => exact ⟨_, us, rfl, s.event_kept us fun h => h.angleArrives⟩
  | angleTimeout us => exact ⟨_, us, rfl, s.event_kept us fun h => h.anglePasses⟩
  | platenSampleTimer us => exact ⟨_, us, rfl, s.event_kept us fun h => h.sampleDue⟩
  | settlingEnd us => exact ⟨_, us, rfl, s.event_kept us fun h => h.settled⟩
  | loweringTimeout us => exact ⟨_, us, rfl, s.event_kept us fun h => h.loweringPasses⟩
  | platenUp us =>
    refine ⟨_, us, rfl, s.event_kept us fun h => ?_⟩
    split
    · exact h.platenArrived
    · exact h
  | raiseTimeout us =>
    refine ⟨_, us, rfl, s.event_kept us fun h => ?_⟩
    split
    · exact h.raiseFailed
    · exact h
  | cupContact us => exact ⟨_, us, rfl, s.event_kept us fun h => h.cupLands⟩
  | vacuumAtLevel us => exact ⟨_, us, rfl, s.event_kept us fun h => .tryGauging (h.keep rfl)⟩
  | puffEnd us => exact ⟨_, us, rfl, s.event_kept us fun h => h.puffOver⟩
  | vacuumTimeout us => exact ⟨_, us, rfl, s.event_kept us fun h => h.noVacuum⟩
  | vacuumBelow us => exact ⟨_, us, rfl, s.event_kept us fun h => h.vacuumFalls⟩
  | leafRaised us => exact ⟨_, us, rfl, s.event_kept us fun h => h.leafIsUp⟩
  | putDownDone us => exact ⟨_, us, rfl, s.event_kept us fun h => h.putDownOver⟩
  | sweepArrived us => exact ⟨_, us, rfl, s.event_kept us fun h => h.sweepEnds⟩
  | releaseDone us => exact ⟨_, us, rfl, s.event_kept us fun h => h.releaseEnds rfl⟩
  | armAtPark us => exact ⟨_, us, rfl, s.event_kept us fun h => h.armParks⟩
  | armLimitExpiry us => exact ⟨_, us, rfl, s.event_kept us fun h => h.armPasses⟩
  | cameraLineChange us k ready fault => exact ⟨_, us, rfl, s.event_kept us fun h => h.cameraLines⟩
  | cameraWaitExpiry us => exact ⟨_, us, rfl, s.event_kept us fun h => h.cameraWaitOver⟩
  | frameTimeout us => exact ⟨_, us, rfl, s.event_kept us fun h => h.framesOver⟩
  | pauseEnd us => exact ⟨_, us, rfl, s.event_kept us fun h => h.pauseOver⟩
  | queueDepthSample us => exact ⟨_, us, rfl, s.event_kept us fun h => h.depthSample⟩
  | rawCurtainInputChange us interrupted => exact ⟨_, us, rfl, s.event_kept us fun h => h.rawCurtain⟩
  | rawInputLevelChange us k level => exact ⟨_, us, rfl, s.event_kept us fun h => h.inputLevel⟩
  | firstSettling us k => exact ⟨_, us, rfl, s.event_kept us fun h => h.settleInput⟩

/-- Every command keeps the bounds, the capacities and the entry numbers. -/
theorem exec_keeps_bounds (c : Instr) (s : State) :
    ∃ t, exec c s = .next t ∧ (s.Bounded → t.Bounded) ∧ (s.core.WithinCapacities → t.core.WithinCapacities)
      ∧ (s.NumbersIssued → t.NumbersIssued) := by
  by_cases hpower : c = .powerOn
  · obtain ⟨t, ht, hbounded, hwithin, hnumbers⟩ := powerOn_keeps_bounds s
    exact ⟨t, hpower ▸ ht, fun _ => hbounded, fun _ => hwithin, fun _ => hnumbers⟩
  · by_cases htick : c = .msTick
    · obtain ⟨t, ht, hkept⟩ := msTick_kept s
      exact ⟨t, htick ▸ ht, hkept.bounded, hkept.within, hkept.numbers⟩
    · obtain ⟨t, us, ht, hkept⟩ := exec_kept c s hpower htick
      exact ⟨t, ht, hkept.bounded, hkept.within, hkept.numbers⟩

/-- So does every step; an empty queue changes nothing. -/
theorem step_keeps_bounds {s t : State} (ht : step s = .next t) :
    (s.Bounded → t.Bounded) ∧ (s.core.WithinCapacities → t.core.WithinCapacities) ∧
      (s.NumbersIssued → t.NumbersIssued) := by
  unfold step at ht
  split at ht
  · obtain rfl := Host.Outcome.next.inj ht
    exact ⟨id, id, id⟩
  next c rest _ =>
    obtain ⟨u, hu, hbounded, hwithin, hnumbers⟩ := exec_keeps_bounds c { s with pending := rest }
    obtain rfl := Host.Outcome.next.inj (hu.symm.trans ht)
    exact ⟨hbounded, hwithin, fun hs => hnumbers ⟨hs.flash, hs.closing, hs.homing, hs.measures⟩⟩

/-- Settles O4: every command keeps the bounds, by one rule for each operation of the blocks (`Core.Sound`). -/
theorem stepKeepsBounds : Obligations.StepKeepsBounds := by
  refine ⟨fun s t hs ht => ?_, fun s t hs ht => ?_, fun s t hs ht => ?_⟩
  · obtain ⟨hbounded, -, -⟩ := step_keeps_bounds ht
    exact hbounded hs
  · obtain ⟨-, hwithin, -⟩ := step_keeps_bounds ht
    exact hwithin hs
  · obtain ⟨-, -, hnumbers⟩ := step_keeps_bounds ht
    exact hnumbers hs

/-- Settles O7: MS_TICK ends the millisecond, and every other command comes at an instant inside it. -/
theorem timeGoesOn : Obligations.TimeGoesOn := by
  intro c s t ht hpower
  by_cases htick : c = .msTick
  · obtain ⟨u, hu, hkept⟩ := msTick_kept s
    obtain rfl := Host.Outcome.next.inj (hu.symm.trans (htick ▸ ht))
    rw [hkept.now, if_pos htick]
    have hends (n : Nat) : n ≤ (n / 1000 + 1) * 1000 ∧ (n / 1000 + 1) * 1000 / 1000 = n / 1000 + 1 := by omega
    exact hends s.core.now
  · obtain ⟨u, us, hu, hkept⟩ := exec_kept c s hpower htick
    obtain rfl := Host.Outcome.next.inj (hu.symm.trans ht)
    rw [hkept.now, if_neg htick]
    exact ⟨s.core.atUs_le us, s.core.atUs_ms us⟩

end Sys2Proof.Machine
end
